-- ==== Sys2Proof/Word.lean ====
section
/-! DEFINITION. The words of the machine and their plainest arithmetic. -/

namespace Sys2Proof

/-- A byte of an image, a frame or a memory. -/
abbrev Byte := BitVec 8

/-- A register word or a program word (R9, R10). -/
abbrev Word := BitVec 32

/-- A register pair of the program (Table 4.2). -/
abbrev DWord := BitVec 64

/-- The four requesters that reach a register page (R388). -/
inductive Requester where
  | program
  | service
  | ring
  | host
  deriving DecidableEq, Repr

/-- What a read asks for: the word at an address of the register pages, or at the host port `n` bytes from a BAR0
offset, its byte enables (R21, R367). -/
inductive ReadAt where
  | page (addr : Nat)
  | bar0 (off n : Nat)
  deriving DecidableEq, Repr

/-- What a register write addresses: a byte offset of the register pages, and the number of bytes it writes, of which a
register takes 4 (R10). -/
structure WriteAt where
  addr : Nat
  n : Nat := 4
  deriving DecidableEq, Repr

/-- The device states (Table 0.5). -/
inductive DevState where
  | off
  | boot
  | stop
  | run
  | safe
  deriving DecidableEq, Repr

/-- The loads of Table 4.4, by their opcodes 0x90 to 0x95 (R96). -/
inductive LoadKind where
  | ldb
  | ldbu
  | ldh
  | ldhu
  | ldw
  | ldd
  deriving DecidableEq, Repr

/-- The stores of Table 4.4, by their opcodes 0x96 to 0x99 (R96). -/
inductive StoreKind where
  | stb
  | sth
  | stw
  | std
  deriving DecidableEq, Repr

/-- The four arithmetic operations of IEEE 754 that the part has (R93). -/
inductive FOp where
  | add
  | sub
  | mul
  | div
  deriving DecidableEq, Repr

end Sys2Proof
end

