-- ==== Sys2Proof/Frames.lean ====
section
/-! DEFINITION. What the commands of the links carry: LACE's messages whose payloads the spec names without a byte
layout, lease payloads (Table 8.7), WELT's blocks (Table 8.2), CAN frames and service commands. -/

namespace Sys2Proof

/-- A LACE frame as it returns to its manager: its bytes, and the branches whose summaries carry UNLOCKED (R169). -/
structure Returned where
  bytes : List Byte
  unlocked : List Nat := []
  deriving DecidableEq, Repr

/-- A station as ENUM collects it (R179): device ID, slice lengths, the branch index of its settings, and the device ID
its settings name as pair partner, if any. -/
structure Station where
  devId : BitVec 128
  outLen : Nat
  inLen : Nat
  branch : Nat
  partner : Option (BitVec 128)
  pref : Bool                            -- its PAIR_PREF, which the keeper's first grant follows (DESIGN CHOICE, log entry 40)
  deriving DecidableEq, Repr

/-- A row of a ring's layout table: position, device ID and slice lengths (R179). -/
structure RingRow where
  pos : Nat
  devId : BitVec 128
  outLen : Nat
  inLen : Nat
  deriving DecidableEq, Repr

/-- A JOIN_REQ (R173). -/
structure JoinReq where
  devId : BitVec 128
  outLen : Nat
  inLen : Nat
  tb : Nat
  rmul : Nat
  hops : Nat
  deriving DecidableEq, Repr

/-- A JOIN_ACK (R173); `pos` is `none` where the member is refused. -/
structure JoinAck where
  devId : BitVec 128
  pos : Option Nat
  layout : List RingRow
  layoutId : Nat
  firstSeq : Nat
  deriving DecidableEq, Repr

/-- A mailbox request or response (R180): the requester's address and entry, the target, and the data. -/
structure MbxMsg where
  src : Nat
  entry : Nat
  dest : Nat
  kind : Nat
  addr : Word
  len : Nat
  data : List Byte
  result : Nat := 0
  deriving DecidableEq, Repr

/-- A lease payload (Table 8.7), and in the keeper's table the last one of a pair. -/
structure Lease where
  sub : Nat
  peer : Nat
  pair : Nat
  lepoch : Nat
  lbeat : Nat
  devId : BitVec 128
  deriving DecidableEq, Repr

/-- LACE's acyclic messages. -/
inductive LaceMsg where
  | enum (branch : Nat) (stations : List Station) (reverse : Bool)
  | layout (rows : List RingRow) (layoutId : Nat)
  | joinReq (r : JoinReq)
  | joinAck (a : JoinAck)
  | mbxReq (m : MbxMsg)
  | mbxResp (m : MbxMsg)
  | mgmt (epoch : Nat) (l : Lease)
  deriving DecidableEq, Repr

/-- A tagged request of the service port as it arrives (Table 16.1): sequence number, session, payload and tag. -/
structure SspReq where
  seq : BitVec 16
  session : BitVec 32
  payload : List Byte
  tag : List Byte
  deriving DecidableEq, Repr

/-- A CAN frame as received, its checks good: the instant of its SOF, its identifier (an 11-bit one in bits 28 to 18)
and flags, its length code and payload (R327, R328). -/
structure CanFrame where
  sof : Nat
  ide : Bool
  id : BitVec 29
  fdf : Bool
  brs : Bool
  esi : Bool
  rtr : Bool
  dlc : BitVec 4
  data : List Byte
  deriving DecidableEq, Repr

/-- An inbound safety-lane frame (R303): whether its CRC is good, its counter, the comparator states of SI0 to SI7, both
incremental counts and the readback of SQ0 to SQ3. Filtered states and SSI words come from the field die's state. -/
structure LaneIn where
  crc : Bool
  cnt : BitVec 4
  raw : BitVec 8
  inc0 : Word
  inc1 : Word
  readback : BitVec 4
  deriving DecidableEq, Repr

/-- An item of the cycle copy (Table 8.3). SPACE 0x0 to 0x3 are groups; record images and control groups, whose
layout the spec does not give, carry what they name (DESIGN CHOICE, log entry 41). -/
inductive WItem where
  | grp (space idx : Nat) (data : BitVec 256)
  | record (key ver seq : Nat) (payload : List Byte)
  | recHead (seq : Word)
  | anchor (sec : Nat) (tb : Int) (dst : Bool)
  | mailbox (e : Nat) (ctrl : Word) (data : List Word)
  | leases (rows : List (Nat × Lease))
  deriving DecidableEq, Repr

/-- A STATUS block (Table 8.2): the state, the values of R186, the beat and the time base, the lease view, the
CULPRITLESS count, and what R185, R44 and R211 have the members know of each other (DESIGN CHOICE, log entry 40). -/
structure WStatus where
  state : Nat
  hash : List Byte
  tableId : Word
  period : Nat
  tb : Nat
  rmul : Nat
  layoutId : Nat
  dev : DevState
  beat : Nat
  time : Nat
  lepoch : Nat
  lc : Nat
  culpritless : Nat
  peer : Nat                             -- the partner's state as this member treats it
  role : Nat
  branch : Nat
  pref : Bool
  armed : Option (List Byte)             -- the header hash of an armed resole whose pre-carry is done
  seamNs : Nat                           -- its seam time
  rsv : Nat                              -- its ESC_RSV (R231)
  deriving DecidableEq, Repr

/-- A SCHED block (Table 8.2, R192, R210, R211). -/
structure WSched where
  beat : Nat
  releases : List (Nat × Nat)            -- task and release-beat time
  stretched : List Nat
  alerts : List Nat
  displaced : List (Nat × Nat)           -- task and strand-commit count at which it was displaced
  seam : Bool := false
  deferred : Bool := false
  run : Bool := false
  stop : Bool := false
  step : Bool := false
  deriving DecidableEq, Repr

/-- The blocks of the WELT link (Table 8.2). -/
inductive WBlock where
  | status (s : WStatus)
  | nak (bseq : Nat)
  | input (gs : List (Nat × BitVec 256))
  | sched (s : WSched)
  | mark (task count : Nat)
  | loadlog (entries : List (Nat × Nat × Nat))
  | ack (task relBeat : Nat) (digest : BitVec 64) (fault : Bool) (groups : Nat)
  | copy (items : List WItem)
  | copyEnd (task relBeat groups : Nat) (digest : BitVec 64) (fault : Bool) (endCode : Nat)
  | seam (hash : List Byte) (beat : Nat)
  | resync (items : List WItem) (join : Option Nat)
  deriving DecidableEq, Repr

/-- The header of an arriving block: its BSEQ, and whether its CRC is good (R189, R190). -/
structure WHdr where
  bseq : Nat
  good : Bool
  deriving DecidableEq, Repr

/-- What a start-up meets outside the model's memories (R376, R246, R253, R382): TEST_EN, the OTP reads that failed once
or twice, the work-memory groups that fail both attempts of the self-test, and the journal slots that read uncorrectable
and clear on the retry (how many), or fail again (which). -/
structure BootIn where
  testEn : Bool
  otpRetries : Nat                       -- mismatches that the re-read cleared
  coreLost : Bool                        -- factory trim, device ID or keys lasting unreadable
  gensLost : List Nat                    -- settings generations lasting unreadable
  badGroups : List Nat
  slotRetries : Nat
  slotsLost : List Nat
  sysLost : Bool := false                -- the newest copy of the system records reads invalid (R249)
  deriving DecidableEq, Repr

end Sys2Proof
end

