-- ==== Sys2Proof/Syntax.lean ====
section
/-! DEFINITION. The commands of the block: one constructor per row of spec/opcode_table.json with the row's operands:
in the table's order the rows with operands, then those without. An operand that stands for a physical outcome (a
readback, an upset symbol, a lost frame) is what the outside world brings; the docstrings are the table's own
summaries. -/

namespace Sys2Proof

/-- The commands (spec/opcode_table.json). -/
inductive Instr where
  /-- SUPPLIES_VALID (R380): All core supplies become valid in the required order with RESET_N high, and the start-up
  sequencer begins BOOT with the time base at 0. -/
  | suppliesValid (x : BootIn)
  /-- BOOT_END (R380): BOOT ends in RUN, STOP or SAFE per Table 0.6, raises BOOT_DONE, writes source 0 code 0x0002 and
  starts the class B scan. -/
  | bootEnd (cut : Bool)
  /-- RESET_N_RISE (R379): RESET_N rises with supplies valid and the device enters BOOT. -/
  | resetNRise (x : BootIn)
  /-- PACE_WINDOW_END (R14): At the end of each window of 1,024 time-base ticks, PACE and PACE_MAX are updated, and
  SLOW is set when PACE exceeds PACE_LIM. -/
  | paceWindowEnd (pace : BitVec 16)
  /-- COMPLETION_TIMEOUT (R13): An interior handshake exceeds 200 ns, which is a STRAND check failure, and the strand
  is let down and executed again. -/
  | completionTimeout (tr : Fin 4)
  /-- OVERRUN_LIMIT (R45): A stretched cycle has not completed OVR_LIM percent of the period after the release beat,
  and the task fault policy applies. -/
  | overrunLimit (n : Fin 16)
  /-- STRETCHED_RELEASE (R45): When a held-back task completes, or its WELT copy is acknowledged, its outputs are
  published and it is released with the most recent beat's view. -/
  | stretchedRelease (n : Fin 16)
  /-- ACK_WAIT_LIMIT (R44): A WELT copy is still unacknowledged at OVR_LIM of the period, so the crown holder treats
  the standby as UNSYNC and releases at once. -/
  | ackWaitLimit (n : Fin 16)
  /-- STRAND_DISPATCH (R59): A free train is given the predicted successor of the youngest instance in flight. -/
  | strandDispatch (tr : Fin 4)
  /-- MOV_CTL_WRITE (R76): A write of PRED_HOLD, SPEC_OFF or TRAINS takes effect at the next dispatch. -/
  | movCtlWrite (q : Requester) (v : Word)
  /-- NOP (R83): Does nothing. -/
  | nop (tr : Fin 4) (b : BitVec 24)
  /-- STRAND (R55): Opens a strand instance, and zeroes the registers when it or the closed instance is sealed. -/
  | strand (tr : Fin 4) (b : BitVec 24)
  /-- ALERT (R109): Raises program alert source 0–7 at commit, or merges it into a pending alert. -/
  | alert (tr : Fin 4) (b : BitVec 24)
  /-- CHKIN (R343): Checks the task in to WATCH: sets its CHK bit, counts, and sets DUP on a second check-in. -/
  | chkin (tr : Fin 4) (b : BitVec 24)
  /-- RECEV (R109): Writes a recorder event from the program source with CODE and snapshot W0–W11. -/
  | recev (tr : Fin 4) (b : BitVec 24)
  /-- TIME (R110): Writes the release-beat time to a register pair. -/
  | time (tr : Fin 4) (b : BitVec 24)
  /-- TSLIVE (R111): Writes the live time base to a register pair, or the release-beat time on a pair member. -/
  | tslive (tr : Fin 4) (b : BitVec 24)
  /-- GETF (R83): Copies FLAGS to Wd. -/
  | getf (tr : Fin 4) (b : BitVec 24)
  /-- PUTF (R83): Writes FLAGS from Ws, ignoring reserved bits. -/
  | putf (tr : Fin 4) (b : BitVec 24)
  /-- TEL (R105): Reads the ET of a timer slot into Wd. -/
  | tel (tr : Fin 4) (b : BitVec 24)
  /-- LD (R84): Loads bit m into Ln. -/
  | ld (tr : Fin 4) (b : BitVec 24)
  /-- LDN (R84): Loads NOT m into Ln. -/
  | ldn (tr : Fin 4) (b : BitVec 24)
  /-- AND (R84): Sets Ln to Ln AND m. -/
  | andBit (tr : Fin 4) (b : BitVec 24)
  /-- ANDN (R84): Sets Ln to Ln AND NOT m. -/
  | andnBit (tr : Fin 4) (b : BitVec 24)
  /-- OR (R84): Sets Ln to Ln OR m. -/
  | orBit (tr : Fin 4) (b : BitVec 24)
  /-- ORN (R84): Sets Ln to Ln OR NOT m. -/
  | ornBit (tr : Fin 4) (b : BitVec 24)
  /-- XOR (R84): Sets Ln to Ln XOR m. -/
  | xorBit (tr : Fin 4) (b : BitVec 24)
  /-- XORN (R84): Sets Ln to Ln XOR NOT m. -/
  | xornBit (tr : Fin 4) (b : BitVec 24)
  /-- ST (R85): Writes Ln to bit m. -/
  | st (tr : Fin 4) (b : BitVec 24)
  /-- STN (R85): Writes NOT Ln to bit m. -/
  | stn (tr : Fin 4) (b : BitVec 24)
  /-- SET (R85): Sets m when Ln is 1. -/
  | setBit (tr : Fin 4) (b : BitVec 24)
  /-- RST (R85): Clears m when Ln is 1. -/
  | rst (tr : Fin 4) (b : BitVec 24)
  /-- EDGP (R86): Rising-edge detector on Ln with previous-state bit m, honouring primes. -/
  | edgp (tr : Fin 4) (b : BitVec 24)
  /-- EDGN (R86): Falling-edge detector on Ln with previous-state bit m. -/
  | edgn (tr : Fin 4) (b : BitVec 24)
  /-- LDL (R83): Copies accumulator Lx to Ln. -/
  | ldl (tr : Fin 4) (b : BitVec 24)
  /-- ANDL (R83): Sets Ln to Ln AND Lx. -/
  | andl (tr : Fin 4) (b : BitVec 24)
  /-- ORL (R83): Sets Ln to Ln OR Lx. -/
  | orl (tr : Fin 4) (b : BitVec 24)
  /-- XORL (R83): Sets Ln to Ln XOR Lx. -/
  | xorl (tr : Fin 4) (b : BitVec 24)
  /-- NOTL (R83): Sets Ln to NOT Lx. -/
  | notl (tr : Fin 4) (b : BitVec 24)
  /-- LCON (R83): Sets Ln to a constant bit. -/
  | lcon (tr : Fin 4) (b : BitVec 24)
  /-- LCC (R87): Sets Ln to the truth of a FLAGS condition. -/
  | lcc (tr : Fin 4) (b : BitVec 24)
  /-- WTOL (R83): Sets Ln to whether Wx is nonzero. -/
  | wtol (tr : Fin 4) (b : BitVec 24)
  /-- ADD_ADDI (R83): 32-bit add of a register or sign-extended immediate, setting Z N C V U. -/
  | addAddi (tr : Fin 4) (imm : Bool) (b : BitVec 24)
  /-- SUB_SUBI (R83): 32-bit subtract, setting Z N C V U. -/
  | subSubi (tr : Fin 4) (imm : Bool) (b : BitVec 24)
  /-- MUL_MULI (R83): Low 32 bits of the product, with C and V for unsigned and signed overflow. -/
  | mulMuli (tr : Fin 4) (imm : Bool) (b : BitVec 24)
  /-- DIV_DIVI (R88): Signed division that saturates on divide-by-zero or overflow and never traps. -/
  | divDivi (tr : Fin 4) (imm : Bool) (b : BitVec 24)
  /-- DIVU_DIVUI (R88): Unsigned division, giving 0xFFFF_FFFF and DZ on zero. -/
  | divuDivui (tr : Fin 4) (imm : Bool) (b : BitVec 24)
  /-- MOD_MODI (R88): Signed remainder, giving 0 and DZ on zero. -/
  | modModi (tr : Fin 4) (imm : Bool) (b : BitVec 24)
  /-- MODU_MODUI (R88): Unsigned remainder. -/
  | moduModui (tr : Fin 4) (imm : Bool) (b : BitVec 24)
  /-- AND_ANDI (R83): Word bitwise AND with a zero-extended immediate. -/
  | andAndi (tr : Fin 4) (imm : Bool) (b : BitVec 24)
  /-- OR_ORI (R83): Word bitwise OR. -/
  | orOri (tr : Fin 4) (imm : Bool) (b : BitVec 24)
  /-- XOR_XORI (R83): Word bitwise XOR. -/
  | xorXori (tr : Fin 4) (imm : Bool) (b : BitVec 24)
  /-- SHL_SHLI (R83): Shift left. -/
  | shlShli (tr : Fin 4) (imm : Bool) (b : BitVec 24)
  /-- SHR_SHRI (R83): Logical shift right. -/
  | shrShri (tr : Fin 4) (imm : Bool) (b : BitVec 24)
  /-- SAR_SARI (R83): Arithmetic shift right. -/
  | sarSari (tr : Fin 4) (imm : Bool) (b : BitVec 24)
  /-- ROL_ROLI (R83): Rotate left. -/
  | rolRoli (tr : Fin 4) (imm : Bool) (b : BitVec 24)
  /-- CMP_CMPI (R89): Compare by subtraction, setting flags only. -/
  | cmpCmpi (tr : Fin 4) (imm : Bool) (b : BitVec 24)
  /-- MOV_MOVI (R83): Move a register or a sign-extended immediate to Wd. -/
  | movMovi (tr : Fin 4) (imm : Bool) (b : BitVec 24)
  /-- MOVL (R83): Writes a zero-extended 16-bit constant to Wd. -/
  | movl (tr : Fin 4) (b : BitVec 24)
  /-- MOVH (R83): Writes the upper half of Wd. -/
  | movh (tr : Fin 4) (b : BitVec 24)
  /-- BFX (R90): Extracts a bit field, zero-extended. -/
  | bfx (tr : Fin 4) (b : BitVec 24)
  /-- BFXS (R90): Extracts a bit field, sign-extended. -/
  | bfxs (tr : Fin 4) (b : BitVec 24)
  /-- BFI (R90): Inserts a bit field into Wd. -/
  | bfi (tr : Fin 4) (b : BitVec 24)
  /-- CLZ (R91): Counts leading zeros. -/
  | clz (tr : Fin 4) (b : BitVec 24)
  /-- BPRM (R92): Byte permute from a register pair. -/
  | bprm (tr : Fin 4) (b : BitVec 24)
  /-- LTOW (R83): Writes Ln to Wd as 0 or 1. -/
  | ltow (tr : Fin 4) (b : BitVec 24)
  /-- ADR (R98): Forms a PC-relative address. -/
  | adr (tr : Fin 4) (b : BitVec 24)
  /-- ADD_D (R83): 64-bit add on register pairs. -/
  | addD (tr : Fin 4) (b : BitVec 24)
  /-- SUB_D (R83): 64-bit subtract. -/
  | subD (tr : Fin 4) (b : BitVec 24)
  /-- MUL_D (R83): Low 64 bits of a 64-bit product. -/
  | mulD (tr : Fin 4) (b : BitVec 24)
  /-- DIV_D (R88): 64-bit signed division with saturation. -/
  | divD (tr : Fin 4) (b : BitVec 24)
  /-- DIVU_D (R88): 64-bit unsigned division. -/
  | divuD (tr : Fin 4) (b : BitVec 24)
  /-- MOD_D (R88): 64-bit signed remainder. -/
  | modD (tr : Fin 4) (b : BitVec 24)
  /-- MODU_D (R88): 64-bit unsigned remainder. -/
  | moduD (tr : Fin 4) (b : BitVec 24)
  /-- CMP_D (R89): 64-bit compare. -/
  | cmpD (tr : Fin 4) (b : BitVec 24)
  /-- MOV_D (R83): Moves a register pair. -/
  | movD (tr : Fin 4) (b : BitVec 24)
  /-- SXT (R83): Sign-extends Ws into a pair. -/
  | sxt (tr : Fin 4) (b : BitVec 24)
  /-- SHL_D (R83): 64-bit shift left. -/
  | shlD (tr : Fin 4) (b : BitVec 24)
  /-- SHR_D (R83): 64-bit logical shift right. -/
  | shrD (tr : Fin 4) (b : BitVec 24)
  /-- SAR_D (R83): 64-bit arithmetic shift right. -/
  | sarD (tr : Fin 4) (b : BitVec 24)
  /-- SINGLE_ARITHMETIC (R93): FADD, FSUB, FMUL or FDIV in IEEE binary32 with RM rounding and sticky flags. -/
  | singleArithmetic (tr : Fin 4) (op : FOp) (b : BitVec 24)
  /-- FCMP (R94): Single compare that sets flags, with U for unordered. -/
  | fcmp (tr : Fin 4) (b : BitVec 24)
  /-- FABS_FNEG (R93): Clears or inverts the sign bit of a single. -/
  | fabsFneg (tr : Fin 4) (neg : Bool) (b : BitVec 24)
  /-- ITOF_UTOF (R95): Converts an integer to single. -/
  | itofUtof (tr : Fin 4) (uns : Bool) (b : BitVec 24)
  /-- FTOI_FTOU (R95): Converts a single to an integer with saturation. -/
  | ftoiFtou (tr : Fin 4) (uns : Bool) (b : BitVec 24)
  /-- DOUBLE_ARITHMETIC (R93): DADD, DSUB, DMUL or DDIV in binary64. -/
  | doubleArithmetic (tr : Fin 4) (op : FOp) (b : BitVec 24)
  /-- DCMP (R94): Double compare. -/
  | dcmp (tr : Fin 4) (b : BitVec 24)
  /-- DABS_DNEG (R93): Clears or inverts the sign bit of a double. -/
  | dabsDneg (tr : Fin 4) (neg : Bool) (b : BitVec 24)
  /-- ITOD (R95): Converts a 32-bit integer to double, exactly. -/
  | itod (tr : Fin 4) (b : BitVec 24)
  /-- LTOD (R95): Converts a 64-bit integer to double. -/
  | ltod (tr : Fin 4) (b : BitVec 24)
  /-- DTOI (R95): Converts a double to a 32-bit integer. -/
  | dtoi (tr : Fin 4) (b : BitVec 24)
  /-- DTOL (R95): Converts a double to a 64-bit integer. -/
  | dtol (tr : Fin 4) (b : BitVec 24)
  /-- STOD (R95): Converts a single to double. -/
  | stod (tr : Fin 4) (b : BitVec 24)
  /-- DTOS (R93): Converts a double to single. -/
  | dtos (tr : Fin 4) (b : BitVec 24)
  /-- LOAD (R96): LDB to LDD load 1–8 bytes with view redirection, access checks, poison check and load delay. -/
  | load (tr : Fin 4) (k : LoadKind) (b : BitVec 24)
  /-- STORE (R96): STB to STD store into the let-down buffer, subject to access and ownership checks. -/
  | store (tr : Fin 4) (k : StoreKind) (b : BitVec 24)
  /-- BRA (R98): Branches always. -/
  | bra (tr : Fin 4) (b : BitVec 24)
  /-- BRANCH_IF_CONDITION (R87): BEQ to BUN branch on a condition of Table 4.5. -/
  | branchIfCondition (tr : Fin 4) (cond : Fin 11) (b : BitVec 24) (slip : Bool)
  /-- BL0T_BL0F (R98): Branches on L0. -/
  | bl0tBl0f (tr : Fin 4) (onTrue : Bool) (b : BitVec 24) (slip : Bool)
  /-- CALL (R100): Pushes the return address with TRAP or WRAP overflow rules and jumps. -/
  | call (tr : Fin 4) (b : BitVec 24)
  /-- CALLR (R100): Calls the address in Ws. -/
  | callr (tr : Fin 4) (b : BitVec 24)
  /-- RET (R100): Returns, or at D = 0 completes the task's cycle. -/
  | ret (tr : Fin 4) (b : BitVec 24)
  /-- TON (R103): On-delay timer on a REGULATOR slot. -/
  | ton (tr : Fin 4) (b : BitVec 24)
  /-- TOF (R103): Off-delay timer. -/
  | tof (tr : Fin 4) (b : BitVec 24)
  /-- TP (R103): Pulse timer. -/
  | tp (tr : Fin 4) (b : BitVec 24)
  /-- RTO (R103): Retentive on-delay timer with reset. -/
  | rto (tr : Fin 4) (b : BitVec 24)
  /-- CTU (R107): Up counter on a 16-byte record, saturating with OVF. -/
  | ctu (tr : Fin 4) (k : Fin 4) (b : BitVec 24)
  /-- CTD (R107): Down counter. -/
  | ctd (tr : Fin 4) (k : Fin 4) (b : BitVec 24)
  /-- CTUD (R107): Up-down counter. -/
  | ctud (tr : Fin 4) (k : Fin 4) (b : BitVec 24)
  /-- COMPLICATION (R119): Executes a customer micro-operation sequence atomically, with outputs taking effect
  together. -/
  | complication (tr : Fin 4) (n : Fin 16) (b : BitVec 24)
  /-- REG_TRIM_WRITE (R128): A TRIM write is clamped to ±20,000 and changes the tick rate within 1 µs. -/
  | regTrimWrite (q : Requester) (v : Word)
  /-- REG_SLOT_SEL_WRITE (R139): Copies the selected slot's committed state into REG_SLOT_W0–W3 as one snapshot. -/
  | regSlotSelWrite (q : Requester) (v : Word)
  /-- CAL_LATCH (R143): Calendar command that snapshots SEC, SUB, DST and the derived fields at one calendar clock. -/
  | calLatch (q : Requester)
  /-- CAL_COMMIT (R144): Calendar command that checks the staged time and sets the calendar, or refuses it with
  BAD_WRITE. -/
  | calCommit (q : Requester)
  /-- CAL_DST_PLUS_1H (R146): Calendar command that adds 3,600 s and sets DST, unless refused. -/
  | calDstPlus1h (q : Requester)
  /-- CAL_DST_MINUS_1H (R146): Calendar command that subtracts 3,600 s and clears DST, unless refused. -/
  | calDstMinus1h (q : Requester)
  /-- VBAK_CHECK (R148): The once-per-second check sets VBAK_LOW when VBAK is below 2.2 V. -/
  | vbakCheck (mv : Nat)
  /-- CAL_WAKE_WRITE (R151): A write of REG_CAL_WAKE arms the periodic wake from the armed instant, or disarms it with
  0. -/
  | calWakeWrite (q : Requester) (v : Word)
  /-- CYCLIC_FRAME_SEND (R159): At TX_OFS after the exchange task's release beat, the manager sends the cyclic frame
  with SEQ. -/
  | cyclicFrameSend (level0 : Bool)
  /-- TIME_FRAME_SEND (R165): A header-only time frame is sent in branch cycles without a cyclic frame. -/
  | timeFrameSend (level0 : Bool)
  /-- FRAME_ARRIVAL (R162): A frame passes a station, which checks CRCs, updates CORR and HOPS, extracts OUT, inserts
  IN, and forwards or turns it back. -/
  | frameArrival (p : Fin 4) (bs : List Byte)
  /-- FRAME_RETURN (R163): The frame returns to the manager, which takes IN slices by SEQ and epoch, marks absences,
  and schedules retries. -/
  | frameReturn (p : Fin 4) (f : Returned)
  /-- FRAME_ABORT (R176): A K30.7 abort reaches the manager, which runs the ring as lines and sends reverse-path
  retries. -/
  | frameAbort (level0 : Bool) (cw ccw : Nat)
  /-- FRAME_NOT_RETURNED (R175): A frame not returned by TX_OFS + T + 2 µs tells the manager of a fold. -/
  | frameNotReturned (level0 : Bool) (cw ccw : Nat)
  /-- LOSS_OF_SIGNAL (R174): Loss of signal for 1 µs at a port makes the station abort frames and fold the port. -/
  | lossOfSignal (p : Fin 4)
  /-- LINK_DELAY_MEASUREMENT (R168): Once per second, each port exchanges 16 probes and measures its link delay.
  The probes' round trips and the turnarounds reported for them are counts of 0.4 ns; fewer than 16 are an exchange
  that failed. -/
  | linkDelayMeasurement (p : Fin 4) (trips turns : List Nat)
  /-- UNFOLD (R178): After 1,000 good probe exchanges, with UNFOLD_AUTO set, the manager closes the ring. -/
  | unfold (p : Fin 4)
  /-- ENUM (R179): The manager's enumeration frame, to which each station appends its ID and lengths and takes a
  position. -/
  | enum (p : Fin 4) (branch : Nat) (stations : List Station) (reverse : Bool)
  /-- LAYOUT (R179): The frame that carries positions, lengths, IDs and LAYOUT_ID to members. -/
  | layout (p : Fin 4) (rows : List RingRow) (layoutId : Nat)
  /-- JOIN_REQ (R173): An unadmitted member requests admission in the acyclic window, and retries every 64 cycles when
  refused. -/
  | joinReq (p : Fin 4) (r : JoinReq)
  /-- JOIN_ACK (R173): The manager admits a member with its position, layout and first admitted SEQ. -/
  | joinAck (p : Fin 4) (a : JoinAck)
  /-- MAILBOX_GO (R180): A GO write queues the staged mailbox request, or is refused with BUSY when all 32 entries are
  used. -/
  | mailboxGo (q : Requester)
  /-- MAILBOX_REQUEST (R180): A mailbox request frame for REG_READ, REG_WRITE or MSG arrives at its target or relay.
  -/
  | mailboxRequest (p : Fin 4) (m : MbxMsg)
  /-- MAILBOX_RESPONSE (R180): The response completes the entry as DONE with its RESULT and raises alert 25. -/
  | mailboxResponse (p : Fin 4) (m : MbxMsg) (good : Bool)
  /-- MAILBOX_TIMEOUT (R180): No response within 8 ring cycles completes the entry with TIMEOUT. -/
  | mailboxTimeout (e : Fin 32)
  /-- MBX_DONE_CLEAR (R180): Clearing a bit of LAC_MBX_DONE frees the entry. -/
  | mbxDoneClear (q : Requester) (mask : Word)
  /-- INBOX_POP (R183): Writing POP discards the oldest inbox message. -/
  | inboxPop (q : Requester) (v : Word)
  /-- MANAGEMENT_FRAME (R202): A lease management frame of the crown holder or keeper arrives, and frames with a stale
  EPOCH are discarded. -/
  | managementFrame (p : Fin 4) (epoch : Nat) (l : Lease) (altActs : Bool)
  /-- LEASE_LAPSE (R204): At Lexp without a newer RENEW, the lease lapses and the keeper grants the crown. -/
  | leaseLapse (pair : Nat) (altActs : Bool)
  /-- HANDOVER (R205): A write of WLT_CTL.HANDOVER relinquishes the crown while the partner is SYNC. -/
  | handover (q : Requester) (v : Word)
  /-- STATUS (R186): A STATUS block carries state, R186 values, beat, time and lease view at every base beat, and
  drives RESYNC entry and time samples. -/
  | status (h : WHdr) (s : WStatus)
  /-- NAK (R190): A NAK names a failed block, which is resent at once, and a second failure is lasting. -/
  | nak (h : WHdr) (bseq : Nat)
  /-- INPUT (R191): INPUT blocks update the SYNC standby's mirror of the input image. -/
  | input (h : WHdr) (gs : List (Nat × BitVec 256))
  /-- SCHED (R192): SCHED tells the standby which tasks to release at which times and where pre-emption falls. -/
  | sched (h : WHdr) (s : WSched)
  /-- MARK (R192): MARK raises the strand-commit count up to which the standby may commit. -/
  | mark (h : WHdr) (task count : Nat)
  /-- LOADLOG (R193): LOADLOG delivers the holder's register and KEEP-window load values to waiting standby loads. -/
  | loadlog (h : WHdr) (es : List (Nat × Nat × Nat))
  /-- COPY (R194): COPY blocks carry changed groups of a completed cycle to the standby. -/
  | copy (h : WHdr) (items : List WItem)
  /-- COPY_END (R199): COPY_END carries the holder's digest and FAULT bit, and the standby reaches the verdict and
  sends ACK. -/
  | copyEnd (h : WHdr) (task relBeat groups : Nat) (digest : BitVec 64) (fault : Bool) (endCode : Nat)
  /-- ACK (R195): The standby's ACK acknowledges a copy, lets the holder release, and yields the verdict. -/
  | ack (h : WHdr) (task relBeat : Nat) (digest : BitVec 64) (fault : Bool) (groups : Nat)
  /-- SEAM_BLOCK (R211): The holder names a seam beat at least 16 beats ahead for both armed members. -/
  | seamBlock (h : WHdr) (hash : List Byte) (beat : Nat)
  /-- RESYNC (R208): RESYNC blocks carry the full state to a rejoining member, which joins at beat S. -/
  | resync (h : WHdr) (items : List WItem) (join : Option Nat)
  /-- WELT_LINK_UP (R187): After lane alignment and 1,000 good STATUS blocks the link is up and the delay is measured.
  -/
  | weltLinkUp (delay : BitVec 16)
  /-- IDENT (R373): Returns device ID, role, state, versions and a fresh nonce without a session. -/
  | ident (seq : BitVec 16)
  /-- OPEN (R373): Checks RESP against the outstanding nonce and opens a session, or fails with lockout. -/
  | openSession (seq : BitVec 16) (payload : List Byte)
  /-- READ (R374): Returns 4–1,024 live bytes from a program address. -/
  | read (r : SspReq)
  /-- WRITE (R374): Writes register pages as the service requester, or work memory in STOP. -/
  | write (r : SspReq)
  /-- IMAGE_BEGIN (R220): Checks and authenticates an image header, abandons an earlier transfer, and stages the half
  or settings. -/
  | imageBegin (r : SspReq)
  /-- IMAGE_DATA (R221): Writes and hashes a body chunk at the expected offset, or refuses the image. -/
  | imageData (r : SspReq)
  /-- IMAGE_END (R222): Runs the end checks and marks the half TABLE or VERIFIED or stages settings, or refuses. -/
  | imageEnd (r : SspReq)
  /-- RESOLE (R230): Checks and arms a resole, starting pre-carry with the seam instant named. -/
  | resole (r : SspReq)
  /-- RUN (R374): Service command that enters RUN from STOP when the active half is valid. -/
  | run (r : SspReq)
  /-- STOP (R374): Service command that enters STOP from RUN or SAFE. -/
  | stop (r : SspReq)
  /-- STEP (R30): Service command that steps the first beat after acceptance in STOP and is answered after that beat's
  publish. -/
  | step (r : SspReq)
  /-- OTP_BURN (R377): Burns the staged settings image into the next free generation with verification, suspending
  WATCH. -/
  | otpBurn (r : SspReq)
  /-- OTP_BURN_DONE (R377): The 48 ms burn completes, is answered OK or BURN_FAILED, and WATCH restarts. -/
  | otpBurnDone (ok : Bool)
  /-- RECORDER_READ (R374): Returns 1–16 recorder records read as R358 states. -/
  | recorderRead (r : SspReq)
  /-- HEALTH (R26): Returns SVC_PACE and the 19 health registers. -/
  | health (r : SspReq)
  /-- SCRUB_READ (R248): A scheduled scrub read of a group in work memory, slots, decode banks or MRAM is classified
  and corrected. -/
  | scrubRead (g : Nat) (e1 e2 : List (Nat × Byte))
  /-- WATCH_REREAD (R245): A watched group is read again 100 ms after correction and its row is mapped if the fault
  persists. -/
  | watchReread (g : Nat) (e1 e2 : List (Nat × Byte))
  /-- RECORD_WRITE (R257): A WR request writes a keyed record to a page, or is refused with BUSY, FULL or RATE. -/
  | recordWrite (q : Requester) (len : BitVec 8)
  /-- RECORD_READ (R257): An RD request returns the record in force for a key, or NOT_FOUND. -/
  | recordRead (q : Requester)
  /-- WKM_INJ_WRITE (R261): Arming injection XORs chosen symbols at the next write of the group. -/
  | wkmInjWrite (q : Requester) (ctl : Bool) (v : Word)
  /-- FIELD_INPUT_FRAME (R264): The field die's input frame arrives, and is frozen on a good check or retried. -/
  | fieldInputFrame (resIn resOut : Fin 3)
  /-- OUTPUT_FRAME_BETWEEN_BEATS (R266): A stretched or seam publish, a LOOP write or a configuration write sends a
  whole-state output frame naming its apply edge. -/
  | outputFrameBetweenBeats (res : Fin 3)
  /-- FIELD_KEEP_ALIVE (R266): After 1 ms without an output frame, the core resends the last state. -/
  | fieldKeepAlive
  /-- DI_FILTER_ACCEPT (R272): A DI filter accepts a new level, and a rising edge of DI0–DI7 is reported as an alert.
  -/
  | diFilterAccept (n : Fin 16) (level : Bool)
  /-- DO_OVERLOAD (R273): A DO in current limit for 100 µs sets DO_OVL and raises OVERLOAD. -/
  | doOverload (n : Fin 8)
  /-- DO_OVERLOAD_CLEAR (R273): DO_OVL clears after 1 ms out of current limit. -/
  | doOverloadClear (n : Fin 8)
  /-- DO_THERMAL_SHUTDOWN (R273): A DO at 170 °C switches off and sets DO_THERM. -/
  | doThermalShutdown (n : Fin 8)
  /-- DO_THERMAL_RESTART (R273): An auto-restart DO that has cooled below 150 °C switches on again. -/
  | doThermalRestart (n : Fin 8)
  /-- FLD_DORESTART_WRITE (R273): Restarts a latched channel that is below 150 °C. -/
  | fldDorestartWrite (q : Requester) (v : Word)
  /-- AO_EVALUATION (R278): The 25 µs readback and headroom evaluation that sets OPEN and COMPLIANCE and starts the
  reaction. -/
  | aoEvaluation (n : Fin 4) (readback headroom : Nat)
  /-- COMPLIANCE_CLEAR (R278): Writing 1 to COMPLIANCE ends the reaction and restarts detection. -/
  | complianceClear (q : Requester) (n : Fin 4)
  /-- AO_TRIM_RELOAD (R276): RELOAD reads the user trim record again and applies it. -/
  | aoTrimReload (q : Requester) (n : Fin 4)
  /-- AI_CONVERSION (R280): Each 25 µs conversion updates the average, quality and LOOP input. -/
  | aiConversion (n : Fin 4) (code : BitVec 16)
  /-- LOOP_STEP (R289): At a loop's due instant, the PID step, plausibility model and output dispatch run, or a late
  step is dropped. -/
  | loopStep (n : Fin 64) (e1 e2 : List (Nat × Byte))
  /-- LOOP_MODE_WRITE (R292): A write of AUTO switches mode bumplessly. -/
  | loopModeWrite (q : Requester) (n : Fin 64) (auto : Bool)
  /-- LOOP_ENABLE_WRITE (R297): Setting EN starts the loop cold and ends a fault stop. -/
  | loopEnableWrite (q : Requester) (n : Fin 64) (en : Bool)
  /-- PLAUSIBILITY_CLEAR (R296): Writing 1 to PLAUSIBILITY clears it and CNT and ends HOLD. -/
  | plausibilityClear (q : Requester) (n : Fin 64)
  /-- SAFETY_LANE_INBOUND_FRAME (R303): Every 50 µs a lane frame brings SI states, encoder counts and readbacks, and
  two failures trigger STO. -/
  | safetyLaneInboundFrame (x : LaneIn)
  /-- SAFETY_LANE_OUTBOUND_FRAME (R303): Every 50 µs a lane frame carries SQ commands, cut-off and pulse schedule to
  the field die. -/
  | safetyLaneOutboundFrame (good : Bool)
  /-- SI_FILTER_ACCEPT (R304): A safety input filter accepts a level, producing channel demands or a reset input. -/
  | siFilterAccept (n : Fin 8) (level : Bool)
  /-- TEST_PULSE (R305): An STP output is pulsed low every TP_PERIOD and tied inputs are judged. -/
  | testPulse (stp : Fin 2) (low : BitVec 8)
  /-- TEST_PULSE_EXTRA (R305): The extra pulse 1 ms later, whose miss latches TPF. -/
  | testPulseExtra (stp : Fin 2) (low : BitVec 8)
  /-- DISCREPANCY_EXPIRY (R306): Dual inputs differing longer than DISC latch a discrepancy. -/
  | discrepancyExpiry (pair : Fin 4)
  /-- SS1_EVALUATION (R309): Every 250 µs of SS1 the ramp envelope, standstill and time limit are checked. -/
  | ss1Evaluation (axis : Fin 2)
  /-- SSI_FRAME (R311): Every 250 µs the SSI encoder word is clocked in. -/
  | ssiFrame (axis : Fin 2) (w : Word) (ok : Bool)
  /-- ENCODER_EVALUATION (R313): Every 250 µs speed, cross-check and SLS, SLP and SDI limits are evaluated. -/
  | encoderEvaluation (axis : Fin 2) (illegal z : Bool)
  /-- OFF_PULSE (R317): An energised SQ is pulsed off and its readback judged. -/
  | offPulse (n : Fin 4) (fell ret : Bool)
  /-- OFF_PULSE_EXTRA (R317): The extra off-pulse whose miss opens the cut-off and enters SAFE. -/
  | offPulseExtra (n : Fin 4) (fell ret : Bool)
  /-- SQ_THERMAL_SHUTDOWN (R315): An SQ at 170 °C shuts off, latched. -/
  | sqThermalShutdown (n : Fin 4)
  /-- SAFETY_RESET (R319): A reset input or SAF_RESET write moves cleared LATCHED axes to TORQUE, or is refused. -/
  | safetyReset (w : Option (Requester × Word)) (cut : Bool)
  /-- SAF_REQ_WRITE (R316): A program request for STO, SS1, SLS, SLP or SDI. -/
  | safReqWrite (q : Requester) (v : Word)
  /-- SAF_CONFIRM_WRITE (R322): A matching SSIG written by the service port confirms the safety block. -/
  | safConfirmWrite (q : Requester) (v : Word)
  /-- SIGNATURE_CHECK (R322): Every 1 s the safety block's SSIG is recomputed. -/
  | signatureCheck (res : Fin 3)
  /-- CAN_FRAME_RECEIVED (R328): At end of frame a received frame is matched and stored, dropped or used as a
  reference. -/
  | canFrameReceived (c : Fin 2) (f : CanFrame) (e1 e2 : List (Nat × Byte))
  /-- CAN_TRANSMISSION_END (R332): A transmission attempt succeeds or fails, and is retransmitted per RETX. -/
  | canTransmissionEnd (c : Fin 2) (sof : Nat) (outcome : Fin 3) (e1 e2 : List (Nat × Byte))
  /-- CAN_BUS_ERROR (R333): A protocol error updates the error counters, and TEC above 255 enters bus-off. -/
  | canBusError (c : Fin 2) (kind : Nat) (tx : Bool) (inc : Nat)
  /-- REQUEST (R331): CAN command that sets PENDING on a transmit object, or is refused. -/
  | canRequest (q : Requester) (c : Fin 2) (obj : Fin 128)
  /-- CANCEL (R331): CAN command that clears PENDING before arbitration and sets LOST. -/
  | canCancel (q : Requester) (c : Fin 2) (obj : Fin 128) (underWay : Bool)
  /-- FREE (R331): CAN command that clears FULL on a receive object. -/
  | canFree (q : Requester) (c : Fin 2) (obj : Fin 128)
  /-- RECOVER (R333): A write of RECOVER starts bus-off recovery. -/
  | canRecover (q : Requester) (v : Word)
  /-- CAN_RECOVERY_DONE (R333): After 128 recessive sequences the controller is error-active again. -/
  | canRecoveryDone (c : Fin 2)
  /-- CAN_INIT_WRITE (R326): Setting or clearing INIT enters configuration or integrates after 11 recessive bits. -/
  | canInitWrite (q : Requester) (v : Word)
  /-- CAN_OBJECT_WRITE (R327): Writes to a message object's control or data, refused while enabled or pending. -/
  | canObjectWrite (q : Requester) (addr : Nat) (v : Word)
  /-- TT_CYCLE_START (R335): At a predicted or global-time cycle start a master makes its reference attempt. -/
  | ttCycleStart (c : Fin 2) (won : Bool)
  /-- TT_TIME_MARK (R336): A time-triggered object is requested once at its mark. -/
  | ttTimeMark (c : Fin 2) (obj : Fin 128)
  /-- TT_REF_MISS (R335): A slave with no reference within 2 × CYCLE stops time-marked frames. -/
  | ttRefMiss (c : Fin 2)
  /-- WATCHDOG_SERVICE (R342): A program store to WDG_SVC is judged EARLY, DUP, MISSING or accepted. -/
  | watchdogService (v : Word)
  /-- RATIO (R347): Each 1,024 µs the domain 12 count is checked against 870–1,178. -/
  | ratio (n : Nat)
  /-- RECORDER_OCCURRENCE (R355): A source occurrence merges into the newest record or enters the ingress queue,
  possibly displacing or being lost. -/
  | recorderOccurrence (src : Fin 64) (code : BitVec 16) (snap : List Word)
  /-- MERGED_HEADER_WRITEBACK (R354): A merged record header is written back to MRAM at most once per second. -/
  | mergedHeaderWriteback (slot : Nat)
  /-- SNAP (R361): A snapshot of all counters and the time base is taken on a TAL_CTL.SNAP write or at each beat. -/
  | snap (q : Requester)
  /-- TAL_PSEL_WRITE (R360): A new event selection zeroes the programmable counter. -/
  | talPselWrite (q : Requester) (k : Fin 8) (v : Word)
  /-- TAL_SCTL_WRITE (R363): Sets sampling mode and empties the sample buffer. -/
  | talSctlWrite (q : Requester) (v : Word)
  /-- HOST_INPUT_WRITE (R369): A host TLP to the 4 KiB write buffer, taken whole at the next freeze unless HOLD is
  set. -/
  | hostInputWrite (off : Nat) (bs : List Byte)
  /-- HOST_DOORBELL (R383): A host write of HST_DOORBELL raises alert sources 8–15. -/
  | hostDoorbell (v : Word)
  /-- HOST_UNMAPPED_WRITE (R21): A host write to an unmapped BAR0 offset is discarded and sets UNMAPPED. -/
  | hostUnmappedWrite (off : Nat)
  /-- PCIE_LINK_UP (R366): The PCIe link trains. -/
  | pcieLinkUp (speed : Fin 4)
  /-- PAGE_KEY_WRITE (R387): A write of xxx_KEY opens the page lock for the writer with 0x0000_6A5A, or closes it. -/
  | pageKeyWrite (q : Requester) (page : Fin 16) (v : Word)
  /-- REGISTER_WRITE (R386): A write to a register without its own row, governed by the access codes and locks. -/
  | registerWrite (q : Requester) (a : WriteAt) (v : Word)
  /-- PORT_UP (R179): A LACE port's receiver aligns on its line and the port becomes UP, after which probes, joins and
  unfolding can proceed. -/
  | portUp (p : Fin 4)
  /-- CAN_INTEGRATION (R326): After INIT is cleared, a controller that has seen 11 consecutive recessive bits begins
  to take part in bus traffic. -/
  | canIntegration (c : Fin 2)
  /-- CONFIGURATION_WRITE (R366): A host configuration write sets or clears Bus Master Enable, MSI-X Enable, Function
  Mask or the link speed controls, which can release pending MSI-X messages or retrain the link. -/
  | configurationWrite (busMaster msixEn funcMask : Bool) (target : Nat)
  /-- SERVICE_FRAME_DROPPED (R371): A service-port frame that carries no accepted SSP message is dropped and counted,
  with a recorder entry on a TAG failure; a tagged request with an unlisted CMD is answered BAD_ARG. -/
  | serviceFrameDropped (reason : Nat)
  /-- LOW_WORD_READ (R389): A host, service or ring read of the low word of a latching pair latches the high word for
  that requester. -/
  | lowWordRead (q : Requester) (a : ReadAt)
  /-- BRING_UP_END (R179): LACE bring-up ends on lock, on admission of all positions or at 400 ms, and unadmitted
  positions become absent. -/
  | bringUpEnd
  /-- RESET_N_FALL (R379): A falling RESET_N edge past BOOT counts as a power-fail warning, and the reset takes hold
  60 µs later. -/
  | resetNFall
  /-- POWER_FAIL_WARNING (R379): PFAIL_N held low for 0.5 µs, or VIO below 3.0 V, closes the staging, cancels an armed
  resole and starts the final keep point. -/
  | powerFailWarning
  /-- KEEP_UNSEAL (R255): With PFAIL_N high and VIO above 3.0 V for 10 ms after a warning, KEEP unseals and keep
  points resume. -/
  | keepUnseal
  /-- SUPPLY_INVALID (R396): A core supply falls below its threshold without a preceding warning, and the device
  resets at once. -/
  | supplyInvalid
  /-- VFIELD_LOSS (R395): VFIELD falls below about 9 V, the field die loses its state, and it returns through R12. -/
  | vfieldLoss
  /-- ISLAND_POWER_UP (R148): The calendar island powers up without VBAK having been held, and the calendar resets
  with INVALID set. -/
  | islandPowerUp
  /-- SAFE_FLAG_WRITTEN (R7): A copy of the system records with the SAFE flag set is written after entry to SAFE. -/
  | safeFlagWritten
  /-- SAFE_FLAG_CLEAR_WRITTEN (R7): A copy of the system records with the SAFE flag clear is written, and the service
  command that leaves SAFE takes effect and is answered. -/
  | safeFlagClearWritten
  /-- BEAT (R36): At a time-base value that is a multiple of P, ESCAPEMENT runs the overrun check, publish, freeze,
  seam, view copies and task releases. -/
  | beat
  /-- HOLD_EXPIRED (R172): The missed-beat count of a LACE member reaches HOLD, its slice takes safe values, and a
  worker's field outputs go to safe state. -/
  | holdExpired
  /-- HEAD_COMMIT (R68): A head whose last instruction has retired writes its let-down buffer and timer updates and
  takes its registers, and the next instance becomes head. -/
  | headCommit
  /-- HOLDOVER_ENTRY (R134): No valid sample for 16 frame intervals puts the time base in holdover and clears the
  lock. -/
  | holdoverEntry
  /-- CALENDAR_SECOND (R141): A second roll-over renews the beat-view anchor, and the calendar stops at the end of its
  range. -/
  | calendarSecond
  /-- CAL_OSC_STOP (R148): No calendar clock for 1 ms sets OSC_STOP, INVALID and CAL_OSC. -/
  | calOscStop
  /-- CAL_WAKE_DUE (R151): A due wake is latched as alert source 29 at the next beat. -/
  | calWakeDue
  /-- RENEW (R203): Once per lease beat, the crown holder sends RENEW to the keeper. -/
  | renew
  /-- LEASE_ACTS_STOP (R203): At lease beat Lc + LEASE − 1 without a later confirmation, the holder stops its reserved
  acts and sends CROWN = 0. -/
  | leaseActsStop
  /-- WELT_LINK_SILENCE (R207): 2 µs without valid characters takes the link down, and a SYNC standby becomes SOLO. -/
  | weltLinkSilence
  /-- LOCKOUT_END (R373): The OPEN lockout period after a failure runs out. -/
  | lockoutEnd
  /-- SESSION_TIMEOUT (R372): A session closes after 10 s without a valid request, abandoning an image in transfer. -/
  | sessionTimeout
  /-- PRE_CARRY_PASS (R230): While no task is active, the mover builds the staging region and reconverts dirty
  entries, and becomes READY after the first pass. -/
  | preCarryPass
  /-- RESOLE_TIMEOUT (R236): No seam within TMO defers the resole and stops the mover. -/
  | resoleTimeout
  /-- MIGRATION (R239): After the switch becomes persistent, records of FROM_VER are rewritten under the migration
  table. -/
  | migration
  /-- MIGRATION_COMMIT (R239): The migration commits through a journal switch, setting the stored KEEP_VER and
  MIGR_DONE. -/
  | migrationCommit
  /-- KEEP_RECORD_COMMIT (R251): The commit slot of a keep record is written, the record becomes valid, and the wear
  governor sets KEEP_INTERVAL_ACT. -/
  | keepRecordCommit
  /-- START_UP_SCAN_DONE (R258): The class B scan completes the index of records in force, and FIELD loads user trim.
  -/
  | startUpScanDone
  /-- OUTPUT_FRAME_APPLY (R266): The field die applies a held output frame at its apply edge and restarts the silence
  timer. -/
  | outputFrameApply
  /-- SILENCE_EXPIRY (R267): No good output frame within SILENCE puts all field outputs to safe state until a new
  release. -/
  | silenceExpiry
  /-- FIELD_DIE_DOWN (R269): Eight consecutive failed input frames mark the field die down. -/
  | fieldDieDown
  /-- VF_UV (R282): VFIELD below 16.5 V switches DOs off, sets AOs to 0 mA, and makes safety inputs read 0. -/
  | vfUv
  /-- VF_UV_RECOVERY (R282): VFIELD above 17.5 V for 10 ms lets outputs return at the next output frame. -/
  | vfUvRecovery
  /-- SAFETY_LANE_TIMEOUT (R303): No good outbound frame for 1 ms makes the field die switch SQ off and open the
  cut-off. -/
  | safetyLaneTimeout
  /-- WATCHDOG_CLOSE (R345): No accepted service by close faults TIMEOUT or DUP. -/
  | watchdogClose
  /-- RC_STOP (R347): No domain 12 edge for 10 µs of time base. -/
  | rcStop
  /-- TB_STOP (R347): No time-base tick for 10 domain 12 clocks. -/
  | tbStop
  /-- RECORD_DEQUEUE (R353): A queued occurrence is written to its area in three group writes, with a LOST record
  after losses. -/
  | recordDequeue
  /-- RECORDER_SCAN_DONE (R356): The BOOT scan finds the head, the fill and REC_PNEXT, and clears SCANNING. -/
  | recorderScanDone
  /-- BANDWIDTH_WINDOW_END (R364): Port byte counts move to the bandwidth registers. -/
  | bandwidthWindowEnd
  /-- PCIE_PERST (R368): PCIE_PERST_N resets the link, configuration space, MSI-X table and doorbell only. -/
  | pciePerst
  /-- PCIE_LINK_DOWN (R368): The PCIe link is lost and the host input image keeps its content. -/
  | pcieLinkDown
  deriving DecidableEq, Repr

end Sys2Proof
end

