-- ==== Sys2Proof/Decode.lean ====
section
/-! DEFINITION. The instruction words of MOVEMENT (R81, R83) and the commands they spell. The opcode table gives none
of its rows bits, so a table word spells a command only where it is such an instruction word (DESIGN CHOICE, log entry
4). -/

namespace Sys2Proof

/-- An instruction with its train and bits [23:0]. -/
abbrev Form := Fin 4 → BitVec 24 → Instr

/-- The instructions with a register and an immediate form, 0x30 to 0x3F and 0x40 to 0x4F. -/
def wordForms (imm : Bool) : List Form :=
  [(.addAddi · imm), (.subSubi · imm), (.mulMuli · imm), (.divDivi · imm), (.divuDivui · imm), (.modModi · imm),
   (.moduModui · imm), (.andAndi · imm), (.orOri · imm), (.xorXori · imm), (.shlShli · imm), (.shrShri · imm),
   (.sarSari · imm), (.rolRoli · imm), (.cmpCmpi · imm), (.movMovi · imm)]

/-- The instructions 0x90 to 0x99. -/
def memoryForms : List Form :=
  ([.ldb, .ldbu, .ldh, .ldhu, .ldw, .ldd].map fun k tr => .load tr k)
    ++ [StoreKind.stb, .sth, .stw, .std].map fun k tr => .store tr k

/-- The instructions 0xA0 to 0xAE; the command of a branch also says whether its prediction slipped. -/
def jumpForms : List Form :=
  [.bra] ++ ((List.finRange 11).map fun (k : Fin 11) tr b => Instr.branchIfCondition tr k b false)
    ++ [(.bl0tBl0f · true · false), (.bl0tBl0f · false · false), .call]

/-- The opcodes by block: the first opcode, and the instructions from it upward (Tables 4.3 and 4.4). -/
def opcodes : List (Nat × List Form) :=
  [(0x00, [.nop, .strand, .alert, .chkin, .recev, .time, .tslive, .getf, .putf, .tel]),
   (0x10, [.ld, .ldn, .andBit, .andnBit, .orBit, .ornBit, .xorBit, .xornBit, .st, .stn, .setBit, .rst, .edgp, .edgn]),
   (0x20, [.ldl, .andl, .orl, .xorl, .notl, .lcon, .lcc, .wtol]),
   (0x30, wordForms false), (0x40, wordForms true),
   (0x50, [.movl, .movh, .bfx, .bfxs, .bfi, .clz, .bprm, .ltow, .adr]),
   (0x60, [.addD, .subD, .mulD, .divD, .divuD, .modD, .moduD, .cmpD, .movD, .sxt, .shlD, .shrD, .sarD]),
   (0x70, ([FOp.add, .sub, .mul, .div].map fun op tr => .singleArithmetic tr op) ++
     [.fcmp, (.fabsFneg · false), (.fabsFneg · true), (.itofUtof · false), (.itofUtof · true), (.ftoiFtou · false),
      (.ftoiFtou · true)]),
   (0x80, ([FOp.add, .sub, .mul, .div].map fun op tr => .doubleArithmetic tr op) ++
     [.dcmp, (.dabsDneg · false), (.dabsDneg · true), .itod, .ltod, .dtoi, .dtol, .stod, .dtos]),
   (0x90, memoryForms), (0xA0, jumpForms), (0xB0, [.ret, .callr]), (0xC0, [.ton, .tof, .tp, .rto]),
   (0xD0, ((List.finRange 4).map fun (k : Fin 4) tr => .ctu tr k) ++ ((List.finRange 4).map fun (k : Fin 4) tr => .ctd tr k)
     ++ (List.finRange 4).map fun (k : Fin 4) tr => .ctud tr k),
   (0xE0, (List.finRange 16).map fun (n : Fin 16) tr => .complication tr n)]

/-- The instruction behind an opcode; none where it is reserved or illegal (R83). -/
def formOf (op : Nat) : Option Form :=
  (opcodes.find? fun x => decide (x.1 ≤ op) && decide (op < x.1 + x.2.length)).bind fun x => x.2[op - x.1]?

/-- The command that executes an instruction word on a train: the opcode stands in bits [31:24], and the command checks
and takes apart bits [23:0] (R81, R82). -/
def decodeInstr (tr : Fin 4) (w : BitVec 32) : Option Instr :=
  (formOf (w.extractLsb' 24 8).toNat).map fun f => f tr (w.extractLsb' 0 24)

/-- The command a table word spells: a 32-bit word that is an instruction of MOVEMENT, on train 0. -/
def decodeTableWord (nbits w : Nat) : Option Instr := if nbits = 32 then decodeInstr 0 (BitVec.ofNat 32 w) else none

end Sys2Proof
end

