-- ==== Sys2Proof/Machine/Float.lean ====
section
/-! DEFINITION. IEEE 754 binary32 and binary64 arithmetic with the choices of R93 to R95: rounding by FLAGS.RM,
subnormals kept, canonical NaN results, tininess detected after rounding. -/

namespace Sys2Proof.Machine

/-- A binary format: its exponent and fraction widths. -/
structure Fmt where
  eb : Nat
  mb : Nat
  deriving DecidableEq, Repr

/-- binary32. -/
def Fmt.single : Fmt := ⟨8, 23⟩
/-- binary64. -/
def Fmt.double : Fmt := ⟨11, 52⟩

/-- The exponent bias. -/
def Fmt.bias (f : Fmt) : Int := 2 ^ (f.eb - 1) - 1
/-- The exponent of the smallest normal number. -/
def Fmt.emin (f : Fmt) : Int := 1 - f.bias

/-- A datum of a format: NaN (signalling or not), infinity, or (-1)^neg * m * 2^e. -/
inductive FVal where
  | nan (signalling : Bool)
  | inf (neg : Bool)
  | fin (neg : Bool) (m : Nat) (e : Int)
  deriving DecidableEq, Repr

/-- A result: its bits and the sticky bits of FLAGS that it sets (Table 4.1). -/
structure FRes where
  bits : Nat
  sticky : Word
  deriving DecidableEq, Repr

/-- FLAGS bits of Table 4.1. -/
def fDZ : Word := 0x100#32
def fNV : Word := 0x200#32
def fOF : Word := 0x400#32
def fUF : Word := 0x800#32
def fNX : Word := 0x1000#32
def fSAT : Word := 0x2000#32

/-- The datum that the bits of a format hold. -/
def Fmt.unpack (f : Fmt) (x : Nat) : FVal :=
  let neg := (x / 2 ^ (f.eb + f.mb)) % 2 = 1
  let ex := (x / 2 ^ f.mb) % 2 ^ f.eb
  let fr := x % 2 ^ f.mb
  if ex = 2 ^ f.eb - 1 then
    if fr = 0 then .inf neg else .nan (fr / 2 ^ (f.mb - 1) = 0)
  else if ex = 0 then .fin neg fr (f.emin - f.mb)
  else .fin neg (2 ^ f.mb + fr) ((ex : Int) - f.bias - f.mb)

/-- The sign bit of a format. -/
def Fmt.signBit (f : Fmt) (neg : Bool) : Nat := if neg then 2 ^ (f.eb + f.mb) else 0

/-- The canonical quiet NaN (R93). -/
def Fmt.qnan (f : Fmt) : Nat := (2 ^ f.eb - 1) * 2 ^ f.mb + 2 ^ (f.mb - 1)

/-- An infinity. -/
def Fmt.infBits (f : Fmt) (neg : Bool) : Nat := f.signBit neg + (2 ^ f.eb - 1) * 2 ^ f.mb

/-- Whether the magnitude `q + rem/den` rounds up: modes 0b00 nearest even, 0b01 toward zero, 0b10 toward plus
infinity, 0b11 toward minus infinity. -/
def roundsUp (rm : Nat) (neg : Bool) (q rem den : Nat) : Bool :=
  match rm with
  | 0 => decide (den < 2 * rem) || (decide (2 * rem = den) && decide (q % 2 = 1))
  | 1 => false
  | 2 => !neg && decide (rem ≠ 0)
  | _ => neg && decide (rem ≠ 0)

/-- The integer multiple of 2^t nearest by the mode to `m * 2^e`, and whether it is inexact. -/
def roundAt (rm : Nat) (neg : Bool) (m : Nat) (e t : Int) : Nat × Bool :=
  if t ≤ e then (m * 2 ^ (e - t).toNat, false)
  else
    let den := 2 ^ (t - e).toNat
    let q := m / den
    let rem := m % den
    (if roundsUp rm neg q rem den then q + 1 else q, decide (rem ≠ 0))

/-- A nonzero exact value rounded into a format (R93). -/
def Fmt.round (f : Fmt) (rm : Nat) (neg : Bool) (m : Nat) (e : Int) : FRes :=
  if m = 0 then ⟨f.signBit neg, 0⟩
  else
    let p := f.mb + 1
    let top : Int := e + Nat.log2 m          -- exponent of the leading bit
    let t0 : Int := top - f.mb               -- unit of a rounding with unbounded exponent
    let u := roundAt rm neg m e t0
    let topU : Int := if 2 ^ p ≤ u.1 then top + 1 else top
    let tiny := decide (topU < f.emin)
    let t : Int := max t0 (f.emin - f.mb)
    let r := roundAt rm neg m e t
    let q := if 2 ^ p ≤ r.1 then r.1 / 2 else r.1
    let t' : Int := if 2 ^ p ≤ r.1 then t + 1 else t
    let nx := if r.2 then fNX else 0
    if 2 ^ f.mb ≤ q && decide (f.bias < t' + f.mb) then
      let big := match rm with
        | 0 => true
        | 1 => false
        | 2 => !neg
        | _ => neg
      ⟨if big then f.infBits neg else f.infBits neg - 1, fOF ||| fNX⟩
    else if q < 2 ^ f.mb then ⟨f.signBit neg + q, if tiny && r.2 then fUF ||| fNX else nx⟩
    else
      ⟨f.signBit neg + (t' + f.mb + f.bias).toNat * 2 ^ f.mb + (q - 2 ^ f.mb),
       if tiny && r.2 then fUF ||| fNX else nx⟩

/-- Whether a datum is a signalling NaN. -/
def FVal.isSNaN : FVal → Bool
  | .nan s => s
  | _ => false

/-- The NaN result of an operation on `a` and `b`. -/
def Fmt.nanOf (f : Fmt) (a b : FVal) : FRes := ⟨f.qnan, if a.isSNaN || b.isSNaN then fNV else 0⟩

/-- An invalid operation (R93). -/
def Fmt.invalid (f : Fmt) : FRes := ⟨f.qnan, fNV⟩

/-- Addition of data. -/
def Fmt.addV (f : Fmt) (rm : Nat) (a b : FVal) : FRes :=
  match a, b with
  | .nan _, _ => f.nanOf a b
  | _, .nan _ => f.nanOf a b
  | .inf s, .inf t => if s = t then ⟨f.infBits s, 0⟩ else f.invalid
  | .inf s, _ => ⟨f.infBits s, 0⟩
  | _, .inf t => ⟨f.infBits t, 0⟩
  | .fin s m e, .fin t n d =>
    let lo := min e d
    let x : Int := (if s then -1 else 1) * (m * 2 ^ (e - lo).toNat : Nat)
    let y : Int := (if t then -1 else 1) * (n * 2 ^ (d - lo).toNat : Nat)
    let z := x + y
    if z = 0 then
      if m = 0 && s = t then ⟨f.signBit s, 0⟩ else ⟨f.signBit (rm = 3), 0⟩
    else f.round rm (z < 0) z.natAbs lo

/-- The negated datum. -/
def FVal.neg : FVal → FVal
  | .nan s => .nan s
  | .inf s => .inf !s
  | .fin s m e => .fin (!s) m e

/-- Multiplication of data. -/
def Fmt.mulV (f : Fmt) (rm : Nat) (a b : FVal) : FRes :=
  match a, b with
  | .nan _, _ => f.nanOf a b
  | _, .nan _ => f.nanOf a b
  | .inf s, .inf t => ⟨f.infBits (s != t), 0⟩
  | .inf s, .fin t n _ => if n = 0 then f.invalid else ⟨f.infBits (s != t), 0⟩
  | .fin s m _, .inf t => if m = 0 then f.invalid else ⟨f.infBits (s != t), 0⟩
  | .fin s m e, .fin t n d => f.round rm (s != t) (m * n) (e + d)

/-- Division of data (R93). -/
def Fmt.divV (f : Fmt) (rm : Nat) (a b : FVal) : FRes :=
  match a, b with
  | .nan _, _ => f.nanOf a b
  | _, .nan _ => f.nanOf a b
  | .inf _, .inf _ => f.invalid
  | .inf s, .fin t _ _ => ⟨f.infBits (s != t), 0⟩
  | .fin s _ _, .inf t => ⟨f.signBit (s != t), 0⟩
  | .fin s m e, .fin t n d =>
    if n = 0 then if m = 0 then f.invalid else ⟨f.infBits (s != t), fDZ⟩
    else
      let k := 2 * f.mb + 8
      let q := m * 2 ^ k / n
      let sticky := if m * 2 ^ k % n = 0 then 0 else 1
      f.round rm (s != t) (2 * q + sticky) (e - d - k - 1)

/-- One arithmetic instruction on bits (R93). -/
def Fmt.arith (f : Fmt) (op : FOp) (rm x y : Nat) : FRes :=
  let a := f.unpack x
  let b := f.unpack y
  match op with
  | .add => f.addV rm a b
  | .sub => f.addV rm a b.neg
  | .mul => f.mulV rm a b
  | .div => f.divV rm a b

/-- The four outcomes of a compare (R94). -/
inductive FCmp where
  | less
  | equal
  | greater
  | unordered
  deriving DecidableEq, Repr

/-- The exact comparison of two data (R94). -/
def FVal.cmp (a b : FVal) : FCmp :=
  let sgn (s : Bool) : Int := if s then -1 else 1
  match a, b with
  | .nan _, _ => .unordered
  | _, .nan _ => .unordered
  | .inf s, .inf t => if s = t then .equal else if s then .less else .greater
  | .inf s, .fin _ _ _ => if s then .less else .greater
  | .fin _ _ _, .inf t => if t then .greater else .less
  | .fin s m e, .fin t n d =>
    let lo := min e d
    let x := sgn s * (m * 2 ^ (e - lo).toNat : Nat)
    let y := sgn t * (n * 2 ^ (d - lo).toNat : Nat)
    if x < y then .less else if x = y then .equal else .greater

/-- An integer converted to a format (R95). -/
def Fmt.ofInt (f : Fmt) (rm : Nat) (i : Int) : FRes := f.round rm (i < 0) i.natAbs 0

/-- A datum converted to an integer within `[lo, hi]`, as the two's complement of the value (R95). -/
def Fmt.toInt (f : Fmt) (rm x : Nat) (lo hi : Int) : Int × Word :=
  match f.unpack x with
  | .nan _ => (0, fNV)
  | .inf s => (if s then lo else hi, fNV)
  | .fin s m e =>
    let r := roundAt rm s m e 0
    let v : Int := if s then - (r.1 : Int) else r.1
    if v < lo then (lo, fNV) else if hi < v then (hi, fNV) else (v, if r.2 then fNX else 0)

/-- A conversion between the formats (R93, R95). -/
def Fmt.convert (f g : Fmt) (rm x : Nat) : FRes :=
  match f.unpack x with
  | .nan s => ⟨g.qnan, if s then fNV else 0⟩
  | .inf s => ⟨g.infBits s, 0⟩
  | .fin s m e => g.round rm s m e

end Sys2Proof.Machine
end

