-- ==== Sys2Proof/Machine/State.lean ====
section
/-! DEFINITION. The state of the block, as plain data: every register, memory, queue, table and mode the spec names,
the queue of waiting commands, and the machine right after reset. -/

namespace Sys2Proof.Machine

/-- A place of a register field: the register's offset from 0x4000_0000 and the field's bit range (R9). -/
structure Fld where
  addr : Nat
  hi : Nat
  lo : Nat
  deriving DecidableEq, Repr

/-- One row of the register lists (R392): registers `stride` bytes apart, each `words` words long, with the masks of
the access codes RW, RWL, W1C and WO (Table 0.7) and the reset word. -/
structure RegRow where
  first : Nat
  stride : Nat
  count : Nat
  words : Nat
  rw : Word
  rwl : Word
  w1c : Word
  wo : Word
  reset : Word
  deriving DecidableEq, Repr

/-- The stored register words: address and word, addresses strictly rising, none equal to its reset word. -/
abbrev RegFile := List (Nat × Word)

/-- Memory cells: address and byte, addresses strictly rising, none equal to what an unlisted address reads as. -/
abbrev Cells := List Host.Cell

/-! ### OTP (R375) -/

/-- The factory area: burned at the factory, never in the field. -/
structure Factory where
  trim : BitVec 16 := 0
  deviceId : BitVec 128 := 0
  vendorId : BitVec 16 := 0
  /-- The factory trim words of AO and AI channels 0 to 3 (R276, R280). -/
  aoTrim : Vector Word 4 := Vector.replicate 4 0
  aiTrim : Vector Word 4 := Vector.replicate 4 0
  deriving DecidableEq, Repr

/-- One settings generation: bit `8 * i + j` is bit `j` of byte `i` (Table 16.5). -/
abbrev Settings := BitVec 4096

/-- The 16 KiB of OTP (Table 16.4). A bit only goes from 0 to 1. -/
structure Otp where
  factory : Factory := {}
  serviceKey : BitVec 256 := 0          -- byte 0 lowest
  keyHash : Vector (BitVec 256) 4 := Vector.replicate 4 0
  keyRevoked : BitVec 4 := 0
  gens : Vector Settings 8 := Vector.replicate 8 0
  deriving DecidableEq, Repr

/-! ### RECORDER (R350 to R359) -/

/-- An occurrence on its way into a record (Table 15.9). -/
structure RecEntry where
  source : Nat
  code : Nat
  ts : Nat                 -- µs
  rep : Nat := 0           -- repeats merged
  delta : Nat := 0         -- ms
  snap : List Word := []
  deriving DecidableEq, Repr

/-- The recorder area in MRAM (Table 15.10): the records by slot, 0 to 5,119, ordinary first; slots rising. -/
structure Area where
  slots : List (Nat × BitVec 512) := []
  deriving DecidableEq, Repr

/-- RECORDER's volatile state. -/
structure Rec where
  queue : List RecEntry := []                    -- ingress, oldest first (R355)
  lastW : List (Nat × Nat × RecEntry) := []      -- per source: slot and entry of its newest written record
  merged : List (Nat × Nat × Nat) := []          -- slots whose merged header waits: slot, REPEAT, DELTA (R354)
  lostMask : BitVec 64 := 0
  lostN : Nat := 0
  scanning : Bool := true
  deriving DecidableEq, Repr

/-! ### The program's view: MOVEMENT and ESCAPEMENT -/

/-- The registers of one task (R78). -/
structure Regs where
  w : Vector Word 16 := Vector.replicate 16 0
  l : Vector Bool 8 := Vector.replicate 8 false
  flags : Word := 0
  rs : Vector Word 16 := Vector.replicate 16 0
  d : Nat := 0
  deriving DecidableEq, Repr

/-- Which registers a strand instance has written (R61); `fl` holds one bit per FLAGS bit. -/
structure Owned where
  w : BitVec 16 := 0
  l : BitVec 8 := 0
  fl : Word := 0
  rs : Bool := false
  deriving DecidableEq, Repr

/-- A timer slot (Table 6.2). -/
structure Slot where
  last : Nat := 0
  et : Nat := 0
  new : Bool := true
  run : Bool := false
  q : Bool := false
  poison : Bool := false
  inPrev : Bool := false
  assigned : Bool := false
  owner : Nat := 0
  sub : Nat := 0
  deriving DecidableEq, Repr

/-- What an instance does outside memory when it commits (R64, R109, R342), in program order. -/
inductive Effect where
  | alert (n : Nat)
  | chkin
  | recev (code : Nat) (snap : List Word)
  | service (v : Word)
  deriving DecidableEq, Repr

/-- How an instance ended (R55): at `next`, which a control transfer at `via` reached, or as the top-level return;
`cont` says that a continuation follows. -/
structure Exit where
  next : Word
  via : Option Word := none
  top : Bool := false
  cont : Bool := false
  delay : List (Nat × Bool × Word) := []   -- the load delay a continuation begins with (R97)
  deriving DecidableEq, Repr

/-- Why an instance waits: R61, R62, R64, R124 or R192. -/
inductive Wait where
  | register
  | readList
  | head
  | log
  | bank
  | mark
  deriving DecidableEq, Repr

/-- A strand instance on a train (R52, R53). -/
structure Run where
  task : Nat
  sid : Nat := 0
  cont : Bool := false
  opened : Bool := false          -- its STRAND instruction has executed, or it is a continuation
  sealed : Bool := false
  start : Word
  base : Option Word := none      -- a continuation's STRAND instruction (R55, R57)
  pc : Word
  age : Nat                       -- program order among the instances in flight
  regs : Regs := {}
  owned : Owned := {}
  delay : List (Nat × Bool × Word) := []   -- load delay: register, is its old value known here, that value (R97)
  delay0 : List (Nat × Bool × Word) := []  -- the load delay a continuation begins with
  retired : Nat := 0
  lastPc : Option Word := none    -- the last instruction retired
  via : Option Word := none       -- the last instruction, when it was a taken control transfer
  buf : Cells := []               -- let-down buffer (R62)
  slots : List (Nat × Slot) := [] -- timer-slot updates held (R63)
  reads : List Nat := []          -- groups read, timer slot n as 65,536 + n (R62, R63)
  effects : List Effect := []
  pageLog : List DWord := []      -- results of page accesses this head has performed, in order (R64, R25)
  pagePos : Nat := 0
  primes : List Nat := []         -- primed bits this instance evaluated (R234)
  exit : Option Exit := none
  wait : Option Wait := none
  undeclared : Bool := false
  noDorm : Bool := false          -- executed an instruction that R72 excludes
  readChanged : Bool := false     -- a group of its read ranges has changed since it began (R72)
  skips : List Nat := []          -- SIDs skipped as dormant before this instance opened
  prevSealed : Option Bool := none -- whether the instance it closes was sealed, when known
  letDown : Bool := false
  timedOut : Bool := false        -- a completion timeout awaits its retry (R67)
  issued : List (Word × Nat) := [] -- retired instructions: address and issue time, for sampling (R363)
  deriving DecidableEq, Repr

/-- The record of the last execution of a strand, by SID and task (R72). -/
structure DormRec where
  sid : Nat
  task : Nat
  addr : Word
  ok : Bool                       -- every condition on the execution itself holds
  readChanged : Bool := false
  writeChanged : Bool := false
  deriving DecidableEq, Repr

/-- A complication entry (Table 5.2). -/
structure CpxEntry where
  count : Nat
  eflags : Nat
  ops : List Word
  deriving DecidableEq, Repr

/-- A decode bank: the complication table it holds (R123). -/
structure CpxBank where
  tableId : Word := 0
  present : BitVec 16 := 0
  entries : List CpxEntry := []
  deriving DecidableEq, Repr

/-- MOVEMENT (R52 to R77). -/
structure Mov where
  trains : Vector (Option Run) 4 := Vector.replicate 4 none
  nextAge : Nat := 0
  predictor : List (Nat × Word) := []   -- exit predictor, 1,024 entries (R59)
  dorm : List DormRec := []
  bank : CpxBank := {}
  staged : CpxBank := {}
  bankNo : Nat := 0                     -- the decode bank that is active, 0 or 1 (R123)
  heldSids : List Nat := []             -- strands held under R60
  retries : List (Nat × Word) := []     -- task and start of instances off their trains whose timeout retry is pending (R67)
  deriving DecidableEq, Repr

/-- A beat-view anchor (R149). -/
structure Anchor where
  sec : Nat := 0
  tb : Int := 0
  dst : Bool := false
  deriving DecidableEq, Repr

/-- One task at run time (R31 to R47, R78, R79). -/
structure Task where
  regs : Regs := {}
  pc : Word := 0
  contBase : Word := 0                 -- the STRAND instruction of the continuation that is next
  prevSealed : Bool := false
  cont : Option (Nat × Bool × List (Nat × Bool × Word)) := none -- a continuation is next: SID, SEALED, load delay
  active : Bool := false               -- released, cycle not complete
  halted : Bool := false
  relTime : Nat := 0
  relBeat : Nat := 0
  released : Bool := false             -- a release has occurred since entry to RUN (R37)
  unpublished : Bool := false          -- a completed cycle awaits its publish
  stretched : Bool := false            -- its release is held back (R45)
  dueTime : Nat := 0                   -- the release beat that was held back
  waitAck : Bool := false              -- the release waits for WELT's acknowledgement (R44)
  late : Bool := false                 -- SKIP: the cycle is late (R46)
  lateBeats : Nat := 0                 -- release beats passed since the one that overran
  publishNext : Bool := false          -- SKIP: publish at the next beat
  pendingAlert : Bool := false
  nextRelBeat : Nat := 0               -- alert tasks: earliest next release (R40)
  pubBeat : Option Nat := none         -- alert tasks: the beat that publishes (R40)
  stepped : Bool := false              -- released by a STEP (R30)
  lastPc : Option Word := none         -- last instruction of the newest committed instance of the cycle (R47)
  fullScan : Bool := true              -- the cycle executes every strand (R50)
  scanNext : Bool := true              -- its next cycle does: the first after entry to RUN, a seam or becoming SYNC (R50)
  safeDue : Bool := false              -- its ranges take safe values at the next beat (R47)
  dirty : List Nat := []               -- groups changed in the cycle (R42, R194)
  retSave : List (Nat × List Byte) := [] -- retentive groups changed in the cycle, as the last cycle left them (R47)
  dormN : Nat := 0                     -- strands skipped in the cycle
  loads : Nat := 0                     -- logged loads of the cycle (R193)
  commits : Nat := 0                   -- instances committed in the cycle (R192)
  anchor : Anchor := {}                -- the beat-view anchor in force at its release beat (R149)
  faultBase : Nat := 0                 -- `Dev.checkN` at its release (R198)
  acts : List (Nat × Nat) := []        -- alerts, check-ins and RECEVs the cycle committed (R197)
  slotsDirty : List Nat := []          -- timer slots the cycle committed
  ended : Option (Nat × Word) := none  -- the cycle has ended and waits for WELT's verdict: END code, trap PC (R196, R200)
  deriving DecidableEq, Repr

/-- One task of an image (Table 9.3, section TASKS). -/
structure TaskImg where
  cfg : Word := 0
  ph : Word := 0
  view : Word := 0
  entry : Nat := 0
  deriving DecidableEq, Repr

/-- One I/O-map record (Table 9.3, section IOMAP). -/
structure IoRec where
  typ : Nat
  owner : Nat
  start : Nat
  len : Nat
  safe : Nat
  deriving DecidableEq, Repr

/-- The parts of a verified program image that the blocks hold (Tables 9.1 and 9.3). -/
structure Image where
  half : Nat                   -- 0 half A, 1 half B
  imgVer : Word := 0
  keepVer : Word := 0
  tableId : Word := 0
  beat : Nat := 100000         -- P, 10 ns ticks
  tbTicks : Nat := 0           -- Tb, 10 ns ticks
  rmulM1 : Nat := 0
  layoutId : Nat := 0
  rsMode : Nat := 0            -- RS_MODE of FLAGS
  hash : List Byte := []       -- SHA-256 over all 256 header bytes
  escCtl : Word := 0
  tasks : List TaskImg := []
  io : List IoRec := []
  fpBase : Nat := 0
  fpCnt : Nat := 0
  ring : List Word := []
  carry : Nat × Nat := (0, 0)  -- offset and length of the section
  migrate : Nat × Nat := (0, 0)
  bodyLen : Nat := 0
  deriving DecidableEq, Repr

/-- ESCAPEMENT (R27 to R51). -/
structure Esc where
  tasks : Vector Task 16 := Vector.replicate 16 {}
  image : Option Image := none
  period : Nat := 1000000            -- P in ns (R27)
  lastBeat : Option Nat := none      -- time of the last beat
  bootEnd : Nat := 0
  lastKeep : Nat := 0                -- instant of the previous keep point (R43)
  safeFault : Bool := false          -- a fault whose reaction is SAFE awaits the next beat
  runReq : Bool := false             -- an accepted RUN awaits its beat
  stopReq : Bool := false            -- an accepted STOP awaits its beat
  stepReq : Bool := false            -- an accepted STEP awaits its beat
  stepping : Bool := false           -- stepped tasks are running
  runStart : Option Nat := none      -- RUN entered, first release beat not yet reached (R346)
  busy : Nat := 0                    -- time of the interval in which some task was active (R48)
  mark : Nat := 0                    -- instant up to which `busy` counts
  pub : Cells := []                  -- published image in the host's view
  pubNext : Cells := []              -- published image under construction
  pubOut : Cells := []               -- the output ranges as last published, at their addresses
  outSafe : Bool := false            -- the output ranges take their safe values at the next beat (R29)
  runBeat : Nat := 0                 -- beat number at entry to RUN (R32)
  deriving DecidableEq, Repr

/-! ### WATCH (R341 to R348) -/

/-- The watchdog: its window restarted at `r` of the time base; check-in state stands in its registers. -/
structure Wdg where
  r : Nat := 0
  period : Nat := 100000      -- µs, in force since the last restart
  opn : Nat := 50000
  dupTasks : BitVec 16 := 0
  deriving DecidableEq, Repr

/-! ### HOST (R366 to R370) -/

/-- The host port. -/
structure Hst where
  funcMask : Bool := false        -- Function Mask of MSI-X
  inBuf : Cells := []             -- the 4 KiB write buffer (R369)
  swaps : Nat := 0                -- published-image swaps since vector 16 last signalled
  targetSpeed : Nat := 2
  deriving DecidableEq, Repr

/-! ### Memory (R17, R241 to R249) -/

/-- Work memory at its byte addresses, the code store at 0x1000_0000 and up, the keep records area window at
0x2000_0000: the cells, the wrong symbols that stored groups hold (fold address divided by 32, then position and
error value, R241 to R243), and the poison table (entry, group, mask of R247). -/
structure Mem where
  cells : Cells := []
  errs : List (Nat × List (Nat × Byte)) := []
  poison : List (Nat × Nat × BitVec 32) := []
  deriving DecidableEq, Repr


/-! ### KEEP (R249 to R262) -/

/-- A half record (R216): the copy of the last header accepted for the half, and its state: 0 EMPTY, 1 STAGING,
2 TABLE, 3 VERIFIED, 4 ACTIVE, 5 INVALID. -/
structure HalfRec where
  header : List Byte := []
  state : Nat := 0
  tableBad : Bool := false               -- the half's table area is marked invalid (R115)
  deriving DecidableEq, Repr

/-- What one copy of the system records holds (Table 10.4). -/
structure SysRec where
  halves : Vector HalfRec 2 := Vector.replicate 2 {}
  spareRows : List (Nat × Nat) := []
  jWrites : Nat := 0
  rWrites : Nat := 0
  safeFlag : Bool := false
  csig : Word := 0
  deriving DecidableEq, Repr

/-- The keep journal and the system records in MRAM (Table 10.4): what survives power loss besides the code store and
the records area, which stand in memory, and the recorder area. The fields from `halves` on are the newest valid copy of
the system records, `sysSeq` its sequence number and `older` the other copy (R249). -/
structure Nv where
  ring : List (Nat × BitVec 256) := []   -- journal slots that differ from 0, rising
  badSlots : List Nat := []              -- journal slots that read UNCORRECTABLE (R252)
  badRec : List Nat := []                -- groups of the records area that read UNCORRECTABLE, 0 to 8,191
  badRcd : List Nat := []                -- groups of the recorder area that read UNCORRECTABLE, 0 to 10,239
  sysSeq : Nat := 0
  older : SysRec := {}
  halves : Vector HalfRec 2 := Vector.replicate 2 {}
  spareRows : List (Nat × Nat) := []     -- rows mapped: memory (0 work memory, 1 slots and banks, 2 MRAM) and row
  jWrites : Nat := 0                     -- journal slots written in the life of the device
  rWrites : Nat := 0                     -- records-area pages written
  safeFlag : Bool := false               -- the SAFE flag (R7)
  csig : Word := 0                       -- the confirmed safety signature (R322)
  deriving DecidableEq, Repr

/-- A committed keep record as recovery and the commits know it: opening slot, size, KSEQ and groups. -/
structure JRec where
  start : Nat
  size : Nat
  kseq : Nat
  groups : List Nat
  deriving DecidableEq, Repr

/-- A keep record being written (R251). -/
structure JPend where
  start : Nat
  t0 : Nat
  slots : List (BitVec 256 × Bool)       -- content, and whether it is written so as to read UNCORRECTABLE
  groups : List Nat                      -- groups in index order
  staged : List (Nat × BitVec 256)       -- the staged groups among them
  copies : Nat
  kept : List JRec                       -- the records that stay when this one commits (R252)
  kseq : Nat
  half : Nat
  ver : Nat
  seam : Bool                            -- the record of Table 9.5, step 9
  deriving DecidableEq, Repr

/-- A record of the records area that is in force (R256). -/
structure RecLive where
  key : Nat
  page : Nat
  seq : Nat
  ver : Nat
  len : Nat
  deriving DecidableEq, Repr

/-- KEEP's volatile state. -/
structure Keep where
  stage : List (Nat × BitVec 256) := []  -- the open side of the staging: retentive group 0 to 4,095, content
  pend : Option JPend := none
  recs : List JRec := []                 -- committed records not cleaned, oldest first
  live : List (Nat × Nat) := []          -- retentive group and slot of its newest committed copy
  head : Nat := 0
  nextKseq : Nat := 0
  namedHalf : Option Nat := none         -- what the newest committed record names
  namedVer : Nat := 0
  seamDue : Bool := false                -- the keep point of Table 9.5, step 9, is due at the next beat
  idx : List RecLive := []               -- records in force, keys rising
  pages : List Nat := []                 -- the pages of the records area, oldest first; all of them once scanned
  nextSeq : Nat := 0
  writes : List Nat := []                -- times of the records written in the last second (R257)
  lastPage : Option (Nat × BitVec 2048 × Nat) := none  -- the page written last: number, old content, start
  migrating : Bool := false
  migrStart : Bool := false              -- a migration starts at the next occasion (R239)
  scanStart : Nat := 0
  power : Option RecEntry := none        -- the power entry of a warning whose sequence has not reached the seal (R254)
  deriving DecidableEq, Repr

/-! ### REGULATOR: discipline, wake and calendar (R130 to R151) -/

/-- The battery island: the binary calendar (R141). `edge` is the time-base value at which SUB was 0, so that SUB
follows from the time base; `stopped` holds a frozen SUB while the oscillator is stopped or the range has ended. -/
structure Island where
  sec : Nat := 0
  edge : Int := 0
  stopped : Option Nat := none
  dst : Bool := false
  invalid : Bool := true
  ended : Bool := false
  oscStop : Bool := false
  commitAt : Option Nat := none          -- time-base value of the edge of the last commit (R144)
  deriving DecidableEq, Repr

/-- The discipline of the time base (R131 to R136), the wake (R151) and the anchors (R149, R150). -/
structure Gt where
  integ : Rat := 0
  last : Option Nat := none         -- reception time of the previous sample
  lastValid : Nat := 0              -- reception time of the last valid sample, or the power-on
  inN : Nat := 0                    -- consecutive samples within 10 ns, at most 8
  outN : Nat := 0                   -- consecutive samples beyond 10 ns, at most 4
  wakeArm : Nat := 0
  wakeK : Nat := 0                  -- wakes already due
  wakeDue : Bool := false           -- a due wake awaits its beat
  anchor : Anchor := {}             -- in force
  nextAnchor : Option Anchor := none
  sentAnchor : Option (Nat × Nat × Anchor) := none  -- on a pair: sent with the copy of a task's cycle at a release beat
  holderAnchor : Option Anchor := none  -- on a pair: the last anchor the holder's blocks brought
  calPend : Option Nat := none      -- a calendar command that waits for the calendar clock (R143)
  ackAnchor : Option Anchor := none   -- on a pair: takes effect at the next beat
  deriving DecidableEq, Repr

/-! ### LACE (R153 to R184) -/

/-- A candidate slice of a receiver (R163): its bytes, whether its copy qualifies by CROWN and epoch, and its MARK and
header marks. -/
structure Cand where
  seq : Nat
  data : List Byte
  crown : Bool                           -- CROWN of the copy's frame
  epoch : Nat                            -- EPOCH of the copy's frame
  late : Bool := false
  unlocked : Bool := false
  mismatch : Bool := false
  folded : Bool := false
  deriving DecidableEq, Repr

/-- A ring this device manages: the branch ring, or at the root the level-0 ring. Positions are branch indexes
there. -/
structure Ring where
  ids : List (Nat × BitVec 128) := []    -- device IDs by position
  admitted : List Nat := []
  present : List Nat := []
  rejoined : List Nat := []              -- rejoined, no data frozen since
  everSeen : List Nat := []              -- positions present at some time since BOOT
  cands : List (Nat × Cand) := []
  frozen : List (Nat × Nat) := []        -- SEQ of the slice frozen last
  sentSeq : Option Nat := none           -- the cyclic frame in flight
  sentAt : Nat := 0
  awaited : List Nat := []               -- positions of that SEQ not yet returned PRESENT
  failed : List Nat := []                -- positions of that SEQ returned unusable
  retries : Nat := 0                     -- retry frames of that SEQ in flight
  frames : Nat := 0                      -- cyclic or line frames of that SEQ in flight
  retried : Bool := false
  broken : Bool := false                 -- that frame was aborted or lost, and its outcome is not known yet
  due : Nat := 0                         -- when what is in flight must be back (R175)
  link : Option Nat := none              -- a link's delay on the path of the frame that came back last, 1/64 ns
  lines : Bool := false
  cw : Nat := 127                        -- last place in ring order on the clockwise line
  ccw : Nat := 1                         -- last place in ring order on the other line
  closing : Bool := false                -- the ring is closed before the next cyclic frame (R178)
  down : Bool := true                    -- no frame has come back since bring-up
  order : List Nat := []                 -- level 0: branch indexes in ring order (R156)
  refused : List (BitVec 128) := []      -- level 0: stations refused for a duplicate index (R157)
  laidOut : Bool := false                -- LAYOUT has been sent: step 7 of bring-up (R179)
  pairIds : List (Nat × BitVec 128 × BitVec 128) := [] -- level 0: both members of a pair, PAIR_PREF = 1 first
  deriving DecidableEq, Repr

/-- This device as a member of a ring (R162, R172, R173). -/
structure Member where
  layout : List RingRow := []
  pos : Nat := 0
  posCw : Bool := false                  -- ENUM has numbered it clockwise (R156)
  first : Option Nat := none             -- first admitted SEQ
  opened : Bool := false                 -- that SEQ has come
  cand : Option Cand := none
  frozen : Option Nat := none
  inserted : Option (Nat × List Byte × Bool) := none
  rejoin : Bool := false                 -- no data frozen since admission
  joinAfter : Nat := 0                   -- no JOIN_REQ before this time: refused less than 64 cycles ago
  errAt : List (Nat × Nat) := []         -- port and SEQ of a failed check
  sampled : Option Nat := none           -- SEQ that gave the last time sample
  deriving DecidableEq, Repr

/-- The request of a mailbox entry. -/
structure MbxWait where
  entry : Nat
  addr : Word
  data : List Byte
  at_ : Nat := 0                         -- time it became ACTIVE
  tries : Nat := 0
  deriving DecidableEq, Repr

/-- LACE beyond its registers. -/
structure Lac where
  branch : Ring := {}
  level0 : Ring := {}
  memb : Member := {}
  sts : List (Nat × Byte) := []          -- the status range, bytes other than 0x06
  mbx : List MbxWait := []               -- entries in posting order
  relay : List (Nat × MbxMsg) := []      -- the relay entries in use, at most 8, with the time of each
  acks : List (Nat × Nat × Bool × JoinAck) := [] -- JOIN_ACKs that await a window: port, cycle of the request, ring
  bringUp : Bool := false                -- bring-up is running
  bringStart : Nat := 0                  -- when it began
  lit : Bool := false                    -- a port had signal within 2 ms of that
  measured : List (Nat × Nat) := []      -- when each port's link was measured last
  out : Cells := []                      -- the outgoing buffers: published output bytes at their addresses
  pairs : List (Nat × Lease) := []       -- the keeper's lease table, by pair address
  leaseQ : List (Nat × Lease) := []      -- lease frames of the keeper, by the lease beat whose window they leave in
  deriving DecidableEq, Repr

/-! ### FIELD (R264 to R283) -/

/-- The whole output state that an output frame carries, and its apply edge (R264, R266). A DO state is a duty, 0 or
65,535 in mode SWITCH. -/
structure FieldFrame where
  duty : Vector Nat 8 := Vector.replicate 8 0
  code : Vector Nat 4 := Vector.replicate 4 0
  alm : BitVec 4 := 0
  almHi : BitVec 4 := 0                  -- the selected alarm levels, set where high
  trim : Vector (Nat × Nat) 4 := Vector.replicate 4 (0, 0)   -- A4 and A20 in use
  safe : Bool := true
  release : Bool := false
  edge : Nat := 0
  deriving DecidableEq, Repr

/-- The detection state of one AO (R278). -/
structure AoDet where
  openN : Nat := 0
  clearN : Nat := 0
  failN : Nat := 0
  passN : Nat := 0
  reaction : Bool := false
  deriving DecidableEq, Repr

/-- The field die and FIELD's end of the link. -/
structure FieldSt where
  power : Bool := true                   -- the field die has its supply
  released : Bool := false               -- the field die drives its outputs
  pend : Option FieldFrame := none       -- a frame composed at its event, not begun
  held : List FieldFrame := []           -- frames the field die holds, by apply edge
  applied : FieldFrame := {}
  last : FieldFrame := {}                -- the state last sent
  lastSent : Nat := 0
  lastGood : Nat := 0                    -- when the field die last had a good output frame
  silent : Bool := false                 -- SILENCE has expired
  uvWait : Bool := false                 -- VF_UV is over, the next output frame returns the outputs
  fails : Nat := 0                       -- consecutive beats whose input frame failed twice
  quality : Nat := 0
  published : Bool := false              -- the owner of the field output range has published in this RUN
  resIn : Option Nat := none             -- the outcome of the next beat's frames: 0 good, 1 resent, 2 failed
  resOut : Nat := 0
  relDue : Bool := false                 -- a release frame failed twice: the next good contact brings another release
  loopAo : Vector Nat 4 := Vector.replicate 4 0
  loopDo : Vector Nat 8 := Vector.replicate 8 0
  det : Vector AoDet 4 := Vector.replicate 4 {}
  aoUser : Vector (Option (Nat × Nat)) 4 := Vector.replicate 4 none
  aiUser : Vector (Option (Nat × Nat)) 4 := Vector.replicate 4 none
  aiSum : Vector (Nat × Nat) 4 := Vector.replicate 4 (0, 0)
  hot : BitVec 8 := 0                    -- channels above 150 °C since a shutdown
  deriving DecidableEq, Repr

/-! ### LOOP (R285 to R297): beyond the register blocks -/

/-- One loop's delay store and flags. -/
structure LoopSt where
  hist : List (BitVec 16) := []          -- OUT history, newest first, at most 256
  coldN : Nat := 0                       -- steps left before the model is warm and checked
  cold : Bool := true                    -- the model starts at the next step
  preset : Bool := false                 -- the next AUTO step presets the integrator
  first : Bool := false                  -- the first step after entry to RUN or EN set
  hold : Bool := false                   -- the HOLD reaction
  lastDue : Nat := 0                     -- the due instant stepped last
  deriving DecidableEq, Repr

/-! ### SAFE (R300 to R324): beyond its registers -/

/-- One axis. -/
structure AxisSt where
  latch : Bool := true                   -- waits for a safety reset
  faulted : Bool := false                -- the STO in force was caused by a fault
  ss1N : Nat := 0                        -- evaluations since t0, 250 µs each
  ss1V0 : Int := 0
  standAt : Option Nat := none           -- first evaluation of the present run within V_STAND
  ss1Fault : Nat := 0                    -- fault cause behind the SS1 demand, 0 none
  inc : Word := 0
  ssi : Word := 0                        -- the latest SSI word
  ssiBad : Bool := false
  inc0 : Word := 0
  ssi0 : Nat := 0
  z1 : Option Word := none               -- the count at the first Z pulse after capture
  failN : Nat := 0                       -- consecutive failed evaluations, at most 3
  hist : List Word := []                 -- counts at the last four evaluations, newest first
  sdiBase : Option Word := none          -- the count at SDI's activation
  violSto : Bool := false
  violSs1 : Bool := false
  deriving DecidableEq, Repr

/-- SAFE on the core die and the field die's end of the safety lane. -/
structure SafeSt where
  blockOk : Bool := false                -- the block was valid at BOOT
  absent : Bool := true                  -- the settings in force hold no block
  sigBad : Bool := false
  axes : Vector AxisSt 2 := Vector.replicate 2 {}
  laneIn : Option (BitVec 4) := none     -- the counter expected next
  laneFail : Bool := false               -- the last inbound frame failed
  laneBad : Bool := false                -- two consecutive inbound frames failed
  tpMiss : BitVec 8 := 0                 -- inputs that missed a pulse and await the extra one
  tpGood : BitVec 8 := 0                 -- latched inputs with a good pulse since
  disc : BitVec 4 := 0                   -- latched discrepancies by pair
  discZero : BitVec 4 := 0               -- latched pairs that have read 0 together since
  diffAt : Vector (Option Nat) 4 := Vector.replicate 4 none
  riseAt : Vector (Option Nat) 8 := Vector.replicate 8 none -- reset inputs: when the channel rose
  resetPend : Bool := false
  opRetry : Option Nat := none           -- the SQ that awaits its extra off-pulse
  respAt : Option Nat := none            -- filter acceptance of the STO whose response is being measured
  dieFilt : BitVec 8 := 0
  dieAt : Nat := 0                       -- the last filter acceptance
  dieBlank : Vector Nat 2 := Vector.replicate 2 0  -- ends of the blanking windows of STP0 and STP1
  dieSq : BitVec 4 := 0
  dieOpen : Bool := true
  dieLast : Nat := 0                     -- the last good outbound frame
  dieTherm : BitVec 4 := 0
  dieSsi : Vector (Word × Bool) 2 := Vector.replicate 2 (0, false) -- latest SSI words, and whether each frame failed
  deriving DecidableEq, Repr

/-! ### CAN (R325 to R340): beyond its registers and the objects, whose words stand with them -/

/-- One controller. -/
structure CanSt where
  reqs : List (Nat × Nat) := []          -- pending requests: object and time made, oldest first
  cancels : List Nat := []               -- cancelled while under way
  tries : List (Nat × Nat) := []         -- failed attempts by object
  ttStart : Option Nat := none           -- the last cycle start
  lastRef : Option Nat := none           -- the last reference message received, or the start of service
  noRef : Bool := false                  -- a slave without reference
  marked : List Nat := []                -- objects requested in this basic cycle
  integrated : Bool := false             -- 11 recessive bits seen since INIT was cleared
  faulted : Bool := false                -- a lasting object fault has been recorded since power-on
  deriving DecidableEq, Repr

/-! ### SERVICE (R215 to R240, R371 to R378) -/

/-- An open session of the service port. -/
structure Session where
  id : BitVec 32
  ks : List Byte
  seq : Nat                              -- the last executed SEQ
  lastAt : Nat                           -- the last valid request
  resp : List Byte := []                 -- the stored response
  busy : Option Nat := none              -- the command still being executed
  deriving DecidableEq, Repr

/-- An image in transfer (R220, R221). -/
structure Intake where
  hdr : List Byte
  kind : Nat
  rcvd : Nat := 0
  lastOff : Nat := 0
  lastBytes : List Byte := []
  buf : List Byte := []                  -- a settings body
  deriving DecidableEq, Repr

/-- SERVICE beyond its registers. -/
structure Svc where
  nd : Option (BitVec 128 × Nat) := none -- the outstanding nonce and its time
  sess : Option Session := none
  lockUntil : Option Nat := none
  intake : Option Intake := none
  staged : Option (List Byte × Nat) := none -- the staged settings image and its signer's slot
  burn : Option (Nat × Nat) := none      -- a burn: its start and its generation
  torn : Bool := false                   -- a warning has stopped the burn
  rslMode : Nat := 0
  rslA : Nat := 0
  rslB : Nat := 0
  rslAt : Nat := 0                       -- acceptance of the RESOLE
  rslT : Nat := 0                        -- the last T_seam reckoned
  frozen : Bool := false                 -- the input image has been frozen since the mover last looked
  sats : List (Nat × Nat) := []          -- carry entry, saturated elements of its latest conversion
  poisons : List (Nat × Nat) := []       -- carry entry, destination group poisoned from the seam on
  coreLost : Bool := false               -- trim, device ID or keys were lastingly unreadable at this BOOT (R6, R382)
  safeWrite : Bool := false              -- the SAFE flag awaits its copy
  exitPend : Bool := false               -- a STOP command in SAFE awaits the cleared flag
  vioAt : Nat := 0
  deriving DecidableEq, Repr

/-! ### WELT (R185 to R214): beyond its registers -/

/-- A finished task cycle as its digest block says (R195, R197): its items where it is a received copy. -/
structure WCycle where
  task : Nat
  relBeat : Nat
  digest : BitVec 64
  fault : Bool
  endCode : Nat
  items : List WItem := []
  deriving DecidableEq, Repr

/-- WELT beyond its registers. -/
structure Wlt where
  txSeq : Nat := 0                       -- BSEQ of the next block sent
  rxSeq : Nat := 0                       -- BSEQ expected next
  awaited : List Nat := []               -- failed blocks whose resends are awaited (R190)
  resent : List Nat := []                -- blocks sent again
  goodStatus : Nat := 0                  -- consecutive good STATUS blocks while the link is down
  peer : Option WStatus := none          -- the partner's last STATUS
  dropped : Bool := false                -- the holder treats a partner that still says SYNC as UNSYNC (R44)
  -- the standby
  mirror : Cells := []                   -- the holder's input image (R191)
  await : Bool := false                  -- its beat has come and SCHED has not
  boundary : List (Nat × Nat) := []      -- by task, the strand-commit count it stops at until SCHED comes (R192)
  ownBeat : Nat := 0                     -- time of its last beat
  limits : List (Nat × Nat) := []        -- by task, the highest strand-commit count received (R192)
  ended : List Nat := []                 -- tasks whose COPY_END has come: their cycles commit without limit
  displaced : List (Nat × Nat) := []     -- tasks that resume only up to a count before a release takes over
  loads : List (Nat × Nat × Nat) := []   -- load log: task, index, value
  rcopy : List WItem := []               -- COPY items since the last COPY_END
  held : List WCycle := []               -- copies that await their verdict (R196)
  -- both
  own : List WCycle := []                -- own finished cycles that await their verdict
  -- the holder
  lastIn : Cells := []                   -- the input image at the previous beat
  loopSnap : List (Nat × BitVec 256) := []  -- loop groups at the previous copy
  canSnap : List (Nat × BitVec 256) := []   -- CAN object groups at the previous copy
  recSnap : List (Nat × Nat) := []       -- records in force at the previous copy: key and SEQ
  ctlSnap : List WItem := []             -- control items at the previous copy
  rsPos : Option Nat := none             -- position in a resync pass
  rsSent : List (Nat × WItem) := []      -- the items a resync has sent, by position
  joinBeat : Option Nat := none          -- S of R209, by beat number
  matched : List Nat := []               -- tasks with a cycle of equal digests since S
  seamAt : Option Nat := none            -- the named seam beat (R211)
  bothTrap : Bool := false               -- both members' cycles ended with the same trap, under policy SAFE (R200)
  -- the crown
  grant : Option Nat := none             -- a GRANT names this member: LEPOCH
  yield : Bool := false                  -- RELINQUISH is due or sent
  relinquished : Bool := false
  safeAfter : Bool := false              -- enters SAFE once the partner is granted the crown (R200)
  partnerGranted : Bool := false
  soloBeat : Nat := 0                    -- lease beat at which it entered SOLO
  renewed : Option Nat := none           -- lease beat of the last RENEW sent
  lapsed : List Nat := []                -- the keeper: pairs whose lease lapsed without a grantee
  deriving DecidableEq, Repr


/-! ### The device -/

/-- What the block puts on its wires, newest first in `Dev.sent`: the model's observation of its outputs. -/
inductive Emission where
  | msix (vector : Nat) (addr : Nat) (data : Word)
  | ssp (bytes : List Byte)
  | tlpError (completerAbort : Bool)
  | completion (bytes : List Byte) (ep : Bool)  -- what a host read returns, and whether its EP bit is set (R247)
  | lace (port : Nat) (bytes : List Byte)
  | laceAbort (port : Nat)
  | laceMsg (port : Nat) (m : LaceMsg)
  | summaryUnlocked (port : Nat)         -- the frame just sent carries an unlocked branch manager's summary (R169)
  | welt (bseq : Nat) (b : WBlock)
  deriving DecidableEq, Repr

/-- Whether a LACE or WELT transmitter sends it: these run from the time base (R348). -/
def Emission.fromLink : Emission → Bool
  | .lace .. | .laceAbort .. | .laceMsg .. | .summaryUnlocked .. | .welt .. => true
  | .msix .. | .ssp .. | .tlpError .. | .completion .. => false

/-- Everything but OTP, the recorder area, memory and the command queue. -/
structure Dev where
  st : DevState := .off
  held : Bool := false                 -- RESET_N is low
  tb : Nat := 0                        -- time base, ns (R127)
  regs : RegFile := []
  locks : List (Requester × Nat) := [] -- open page locks (R388)
  latches : List (Requester × Nat × Word) := [] -- latched high words by register address (R389)
  slotSnap : List (Requester × List Word) := [] -- REG_SLOT_W0-W3 of each requester (R139)
  free : Nat := 0                      -- counter the free values are applied to
  sent : List Emission := []
  settings : Settings := 0             -- the settings in force (R376)
  keyHash : Vector (BitVec 256) 4 := Vector.replicate 4 0 -- the key slots as BOOT read them (R377)
  keyRevoked : BitVec 4 := 0
  factory : Factory := {}              -- the factory values BOOT read
  esc : Esc := {}
  mov : Mov := {}
  slots : List (Nat × Slot) := []      -- timer slots that differ from a cleared one (R137)
  rcd : Rec := {}
  wdg : Wdg := {}
  hst : Hst := {}
  watch : List (Nat × Nat) := []       -- watch list: fold address / 32 and re-read instant (R245)
  unwatched : List Nat := []           -- corrected while that list was full: their ordinary scrub read decides (R245)
  nv : Nv := {}
  keep : Keep := {}
  isl : Island := {}
  gt : Gt := {}
  lac : Lac := {}
  field : FieldSt := {}
  loops : List (Nat × LoopSt) := []
  safe : SafeSt := {}
  can : Vector CanSt 2 := Vector.replicate 2 {}
  svc : Svc := {}
  wlt : Wlt := {}
  checkN : Nat := 0                    -- check failures of the classes of R198 since power-on
  primes : List Nat := []               -- primed bits, by bit address (R234)
  primeTasks : List Nat := []           -- tasks of the new image that have completed no cycle since the seam
  tbStopped : Bool := false             -- the time base has no tick any more (R347)
  moverDirty : List Nat := []          -- groups changed since the mover last looked (R230)
  beatCnt : Nat := 0                    -- the central beat counter, 48 bits (R360)
  samplePend : BitVec 16 := 0          -- MODE 2 samples await a commit of these tasks (R363)
  sampleCnt : Nat := 0                 -- committed instructions since the last MODE 1 sample
  bwTx : Vector Nat 9 := Vector.replicate 9 0
  bwRx : Vector Nat 9 := Vector.replicate 9 0
  deriving DecidableEq, Repr

/-- Memory and device: what every command but those of OTP and of the recorder area works on. -/
structure Core where
  mem : Mem := {}
  dev : Dev := {}
  deriving DecidableEq, Repr

/-! ### Outcomes and the whole state -/

/-- Why a step can stop with a fault: no command of this block does. Traps, errors and lost frames are the block's own
behaviour and lead to a next state. -/
inductive Fault where
  deriving DecidableEq, Repr

/-- Why a step can be refused. -/
inductive Refusal where
  /-- Raised by `exec` on a command that has no meaning yet, with its mnemonic. Safe: the model stops. -/
  | notModelled (mnemonic : String)
  deriving DecidableEq, Repr

/-- The block: its OTP, the recorder area in MRAM, memory and device, and the commands that wait, first in first
out. -/
structure State where
  otp : Otp := {}
  area : Area := {}
  core : Core := {}
  pending : List Instr := []
  deriving DecidableEq, Repr

/-- The block with no supplies, its OTP and MRAM as they leave the factory: every register at its reset word, every
memory empty (DESIGN CHOICE, log entry 1). -/
def State.reset : State := {}

end Sys2Proof.Machine
end

