-- ==== Sys2Proof/Machine/Flags.lean ====
section
/-! DEFINITION. Every flag computation of Table 4.1 and the conditions of Table 4.5. -/

namespace Sys2Proof.Machine

/-- What an instruction writes of FLAGS: the fields in `mask` take the bits of `val`, the sticky bits are set. -/
structure FlagWrite where
  mask : Word := 0
  val : Word := 0
  sticky : Word := 0
  deriving DecidableEq, Repr

/-- FLAGS after a write. -/
def FlagWrite.apply (f : FlagWrite) (flags : Word) : Word := (flags &&& ~~~ f.mask) ||| (f.val &&& f.mask) ||| f.sticky

/-- The fields a write makes the instance's own (R61). -/
def FlagWrite.owns (f : FlagWrite) : Word := f.mask ||| f.sticky

/-- The implemented bits of FLAGS: reserved bits read 0 and PUTF ignores them (Table 4.1). -/
def flagsMask : Word := 0x33F1F#32

/-- A FLAGS bit as a condition. -/
def flagOf (flags : Word) (i : Nat) : Bool := flags.getLsbD i

/-- A Boolean at a bit of FLAGS. -/
def flagBit (b : Bool) (i : Nat) : Word := if b then 1#32 <<< i else 0

/-- Z and N of a `w`-bit result, with U = 0. -/
def znu (w r : Nat) : FlagWrite :=
  { mask := 0x13#32, val := flagBit (r % 2 ^ w = 0) 0 ||| flagBit (r / 2 ^ (w - 1) % 2 = 1) 1 }

/-- Z, N, C, V of a `w`-bit result, with U = 0. -/
def zncv (w r : Nat) (c v : Bool) : FlagWrite :=
  { mask := 0x1F#32, val := (znu w r).val ||| flagBit c 2 ||| flagBit v 3 }

/-- A result and its flags. -/
abbrev Res := Nat × FlagWrite

/-- Addition modulo 2^w: C the carry out, V the signed overflow. -/
def addRes (w x y : Nat) : Res :=
  let r := (x + y) % 2 ^ w
  (r, zncv w r (2 ^ w ≤ x + y) (signed w r ≠ signed w x + signed w y))
where signed (w n : Nat) : Int := if 2 * (n % 2 ^ w) < 2 ^ w then (n % 2 ^ w : Nat) else (n % 2 ^ w : Nat) - 2 ^ w

/-- Subtraction modulo 2^w: C is 1 when no borrow occurred. -/
def subRes (w x y : Nat) : Res :=
  let r := (x + 2 ^ w - y) % 2 ^ w
  (r, zncv w r (y ≤ x) (addRes.signed w r ≠ addRes.signed w x - addRes.signed w y))

/-- The low half of a product: C when the unsigned product does not fit, V when the signed one does not. -/
def mulRes (w x y : Nat) : Res :=
  let r := x * y % 2 ^ w
  (r, zncv w r (2 ^ w ≤ x * y) (addRes.signed w r ≠ addRes.signed w x * addRes.signed w y))

/-- Signed division (R88): saturates and never traps. -/
def divRes (w x y : Nat) : Res :=
  let s := addRes.signed w x
  let t := addRes.signed w y
  let top := 2 ^ (w - 1)
  let q : Nat × Word :=
    if t = 0 then (if 0 ≤ s then top - 1 else top, fDZ)
    else if x = top && t = -1 then (top - 1, fSAT)
    else ((Int.tdiv s t % 2 ^ w).toNat, 0)
  (q.1, { zncv w q.1 false false with sticky := q.2 })

/-- Unsigned division (R88). -/
def divuRes (w x y : Nat) : Res :=
  let q : Nat × Word := if y = 0 then (2 ^ w - 1, fDZ) else (x / y, 0)
  (q.1, { zncv w q.1 false false with sticky := q.2 })

/-- Signed remainder (R88): takes the sign of the dividend; 0 for a zero divisor. -/
def modRes (w x y : Nat) : Res :=
  let s := addRes.signed w x
  let t := addRes.signed w y
  let q : Nat × Word := if t = 0 then (0, fDZ) else ((Int.tmod s t % 2 ^ w).toNat, 0)
  (q.1, { zncv w q.1 false false with sticky := q.2 })

/-- Unsigned remainder (R88). -/
def moduRes (w x y : Nat) : Res :=
  let q : Nat × Word := if y = 0 then (0, fDZ) else (x % y, 0)
  (q.1, { zncv w q.1 false false with sticky := q.2 })

/-- A logic result, with Z, N and U. -/
def logicRes (w r : Nat) : Res := (r, znu w r)

/-- Shift left by `n` below the width. -/
def shlRes (w x n : Nat) : Res := logicRes w (x * 2 ^ n % 2 ^ w)

/-- Logical shift right. -/
def shrRes (w x n : Nat) : Res := logicRes w (x / 2 ^ n)

/-- Arithmetic shift right. -/
def sarRes (w x n : Nat) : Res := logicRes w ((addRes.signed w x / 2 ^ n % 2 ^ w).toNat)

/-- Rotate left. -/
def rolRes (w x n : Nat) : Res := logicRes w (x * 2 ^ n % 2 ^ w + x / 2 ^ (w - n))

/-- The flags of a floating compare (R94). -/
def fcmpFlags (c : FCmp) (nv : Bool) : FlagWrite :=
  { mask := 0x1F#32,
    val := match c with
      | .less => 0x2#32
      | .equal => 0x5#32
      | .greater => 0x4#32
      | .unordered => 0x10#32,
    sticky := if nv then fNV else 0 }

/-- The truth of condition `k` on FLAGS (Table 4.5). -/
def condTrue (k : Nat) (flags : Word) : Bool :=
  let z := flagOf flags 0
  let n := flagOf flags 1
  let c := flagOf flags 2
  let v := flagOf flags 3
  let u := flagOf flags 4
  match k with
  | 0 => z
  | 1 => !z
  | 2 => n != v && !u
  | 3 => n == v && !u
  | 4 => (z || n != v) && !u
  | 5 => !z && n == v && !u
  | 6 => !c
  | 7 => c
  | 8 => !c || z
  | 9 => c && !z
  | 10 => u
  | _ => false

/-- The FLAGS fields a condition reads (R61, Table 4.5). -/
def condReads (k : Nat) : Word :=
  match k with
  | 0 => 0x01#32
  | 1 => 0x01#32
  | 2 => 0x1A#32
  | 3 => 0x1A#32
  | 4 => 0x1B#32
  | 5 => 0x1B#32
  | 6 => 0x04#32
  | 7 => 0x04#32
  | 8 => 0x05#32
  | 9 => 0x05#32
  | 10 => 0x10#32
  | _ => 0

/-- The FLAGS bits of RM. -/
def rmMask : Word := 0x30000#32

/-- The rounding mode of FLAGS. -/
def rmOf (flags : Word) : Nat := (flags.extractLsb' 16 2).toNat

end Sys2Proof.Machine
end

