-- ==== Sys2Proof/Config.lean ====
section
/-! DEFINITION. What the spec leaves open: opaque values, applied to the plain counter `Dev.free` of the state, so
that nothing can be proved about them (DESIGN CHOICE, log entry 2).  And the constants of one implementation. -/

namespace Sys2Proof.Config

/-- The 128 bits of the fresh nonce ND of an IDENT (R373): the spec says fresh, not which. FREE VALUE. -/
opaque nonce : Nat → BitVec 128

/-- The session identifier of a successful OPEN (R373): the spec says nonzero, not which. FREE VALUE. -/
opaque session : Nat → BitVec 32

/-- A session identifier that is nonzero, as R373 asks. -/
def sessionId (n : Nat) : BitVec 32 := if session n = 0 then 1 else session n

/-- The bytes that stand in a retentive or staging group a carry element could not convert (R230): the spec poisons
the group and gives its bytes no value. FREE VALUE. -/
opaque poisonByte : Nat → BitVec 8

/-- The content of a damaged MRAM group that reads neither as before nor as written (Table 10.7). FREE VALUE. -/
opaque tornByte : Nat → BitVec 8

/-- A value that the spec does not state for some operands of an engine (LOOP, SAFE, FIELD). FREE VALUE. -/
opaque openWord : Nat → BitVec 32

/-- How many accesses of a committed instance found their bank busy (R71, R77). FREE VALUE. -/
opaque bankWaits : Nat → Nat

/-- The kind byte of an act in the words of a cycle digest (R197): alert 0, check-in 1, RECEV 2; the spec names the
byte and not its values. FREE VALUE. -/
opaque actKind : Nat → BitVec 8

/-- The number in the digest word of a check-in, which has none of its own (R197). FREE VALUE. -/
opaque chkinNumber : BitVec 24

/-- The device IDs of the root pair as its keeper knows them, 0 the member with PAIR_PREF = 1, 1 the other (R204,
R206): the spec names no message that tells them to branch manager 1. FREE VALUE. -/
opaque rootPair : Nat → BitVec 128

end Sys2Proof.Config
end

