-- ==== Sys2Proof/Machine/RegFields.lean ====
section
/-! DEFINITION. The addresses of the registers (namespace `A`) and the places of their fields (namespace `F`), as
the register tables of the spec give them (R386, R392 and Tables 1.2 to 17.2).  An address is the offset from
0x4000_0000, so that a page's index stands in bits 19 to 16. -/

namespace Sys2Proof.Machine.A

def SVC_PACE : Nat := 0xF0380
def SVC_PACE_LIM : Nat := 0xF0384
def SVC_HLTH_T (n : Nat) : Nat := 0xF0400 + 0x4 * n
def SVC_HLTH_L (n : Nat) : Nat := 0xF0440 + 0x4 * n
def SVC_HLTH_MAP : Nat := 0xF0480
def ESC_CTL : Nat := 0x10008
def ESC_STAT : Nat := 0x1000C
def ESC_EVT : Nat := 0x10010
def ESC_EVTEN : Nat := 0x10014
def ESC_FLT : Nat := 0x10018
def ESC_BEAT : Nat := 0x10040
def ESC_BNUM_LO : Nat := 0x10044
def ESC_BNUM_HI : Nat := 0x10048
def ESC_RSV : Nat := 0x1004C
def ESC_RSV_MIN : Nat := 0x10050
def ESC_PACE : Nat := 0x10054
def ESC_ALERT_PEND : Nat := 0x10058
def ESC_KEEPS : Nat := 0x1005C
def ESC_RSV_WARN : Nat := 0x10060
def ESC_TCFG (n : Nat) : Nat := 0x10100 + 0x20 * n
def ESC_TPH (n : Nat) : Nat := 0x10104 + 0x20 * n
def ESC_TVIEW (n : Nat) : Nat := 0x10108 + 0x20 * n
def ESC_TSTAT (n : Nat) : Nat := 0x1010C + 0x20 * n
def ESC_TCYC (n : Nat) : Nat := 0x10110 + 0x20 * n
def ESC_TSLK (n : Nat) : Nat := 0x10114 + 0x20 * n
def ESC_TSLKMIN (n : Nat) : Nat := 0x10118 + 0x20 * n
def ESC_TOVR (n : Nat) : Nat := 0x1011C + 0x20 * n
def MOV_CTL : Nat := 0x8
def MOV_STAT : Nat := 0xC
def MOV_EVT : Nat := 0x10
def MOV_EVTEN : Nat := 0x14
def MOV_FLT : Nat := 0x18
def MOV_TRAIN (t : Nat) : Nat := 0x40 + 0x4 * t
def MOV_TRAP_PC : Nat := 0x50
def MOV_TRAP_INFO : Nat := 0x54
def MOV_FP_BASE : Nat := 0x58
def MOV_FP_CNT : Nat := 0x5C
def MOV_CPX_ID : Nat := 0x60
def MOV_CPX_PRES : Nat := 0x64
def MOV_CPX_TRAP : Nat := 0x68
def MOV_CPX_STAGED : Nat := 0x6C
def REG_CTL : Nat := 0x20008
def REG_STAT : Nat := 0x2000C
def REG_EVT : Nat := 0x20010
def REG_EVTEN : Nat := 0x20014
def REG_FLT : Nat := 0x20018
def REG_TB_LO : Nat := 0x20040
def REG_TB_HI : Nat := 0x20044
def REG_TRIM : Nat := 0x20048
def REG_GT_OFS : Nat := 0x2004C
def REG_GT_DELAY : Nat := 0x20050
def REG_GT_STEER : Nat := 0x20054
def REG_GT_SAMPLES : Nat := 0x20058
def REG_SLOT_SEL : Nat := 0x20060
def REG_SLOT_W (n : Nat) : Nat := 0x20064 + 0x4 * n
def REG_CAL_CMD : Nat := 0x20100
def REG_CAL_STAT : Nat := 0x20104
def REG_CAL_WAKE : Nat := 0x20108
def REG_CAL_LSEC_LO : Nat := 0x20110
def REG_CAL_LSEC_HI : Nat := 0x20114
def REG_CAL_LSUB : Nat := 0x20118
def REG_CAL_LTIME : Nat := 0x2011C
def REG_CAL_LDATE : Nat := 0x20120
def REG_CAL_LINFO : Nat := 0x20124
def REG_CAL_SSEC_LO : Nat := 0x20130
def REG_CAL_SSEC_HI : Nat := 0x20134
def REG_CAL_STIME : Nat := 0x20138
def REG_CAL_SDATE : Nat := 0x2013C
def REG_CAL_SFLAGS : Nat := 0x20140
def REG_CAL_BSEC_LO : Nat := 0x20150
def REG_CAL_BSEC_HI : Nat := 0x20154
def REG_CAL_BSUB : Nat := 0x20158
def LAC_CTL : Nat := 0x30008
def LAC_STAT : Nat := 0x3000C
def LAC_EVT : Nat := 0x30010
def LAC_EVTEN : Nat := 0x30014
def LAC_FLT : Nat := 0x30018
def LAC_ADDR : Nat := 0x30040
def LAC_TB : Nat := 0x30044
def LAC_CFG : Nat := 0x30048
def LAC_LINKMAX : Nat := 0x3004C
def LAC_PORT (x : Nat) : Nat := 0x30050 + 0x4 * x
def LAC_SEQ : Nat := 0x30060
def LAC_EPOCH : Nat := 0x30064
def LAC_RING : Nat := 0x30068
def LAC_LAYOUT : Nat := 0x3006C
def LAC_TFRAME : Nat := 0x30070
def LAC_TFRAME_MAX : Nat := 0x30074
def LAC_STS_BASE : Nat := 0x30078
def LAC_CNT0 : Nat := 0x30080
def LAC_CNT1 : Nat := 0x30084
def LAC_CNT2 : Nat := 0x30088
def LAC_CNT3 : Nat := 0x3008C
def LAC_MBX_FREE : Nat := 0x30100
def LAC_MBX_DONE : Nat := 0x30104
def LAC_INBOX : Nat := 0x30108
def LAC_INBOX_POP : Nat := 0x3010C
def LAC_POS (n : Nat) : Nat := 0x30200 + 0x4 * n
def LAC_BR (b : Nat) : Nat := 0x30400 + 0x4 * b
def LAC_STG_DEST (r : Nat) : Nat := 0x31000 + 0x200 * r
def LAC_STG_ADDR (r : Nat) : Nat := 0x31004 + 0x200 * r
def LAC_STG_CMD (r : Nat) : Nat := 0x31008 + 0x200 * r
def LAC_STG_RESP (r : Nat) : Nat := 0x3100C + 0x200 * r
def LAC_STG_DATA (r : Nat) (k : Nat) : Nat := 0x31100 + 0x200 * r + 4 * k
def LAC_MBX_CTRL (e : Nat) : Nat := 0x32000 + 0x200 * e
def LAC_MBX_DEST (e : Nat) : Nat := 0x32004 + 0x200 * e
def LAC_MBX_DATA (e : Nat) (k : Nat) : Nat := 0x32100 + 0x200 * e + 4 * k
def LAC_INBOX_DATA (i : Nat) (k : Nat) : Nat := 0x36000 + 0x200 * i + 4 * k
def LAC_INBOX_INFO (i : Nat) : Nat := 0x36100 + 0x200 * i
def WLT_CTL : Nat := 0x40008
def WLT_STAT : Nat := 0x4000C
def WLT_EVT : Nat := 0x40010
def WLT_EVTEN : Nat := 0x40014
def WLT_FLT : Nat := 0x40018
def WLT_EPOCH : Nat := 0x40040
def WLT_LEASE_LO : Nat := 0x40044
def WLT_LEASE_HI : Nat := 0x40048
def WLT_DELAY : Nat := 0x4004C
def WLT_COPY : Nat := 0x40050
def WLT_LAG : Nat := 0x40054
def WLT_CNT0 : Nat := 0x40058
def WLT_CNT1 : Nat := 0x4005C
def WLT_RESYNC : Nat := 0x40060
def WLT_PEER_REC : Nat := 0x40064
def SVC_INTK : Nat := 0xF0200
def SVC_INTK_RCVD : Nat := 0xF0204
def SVC_HALF : Nat := 0xF0208
def SVC_RSL : Nat := 0xF020C
def SVC_RSL_CFG : Nat := 0xF0210
def SVC_SEAM_LO : Nat := 0xF0214
def SVC_SEAM_HI : Nat := 0xF0218
def SVC_SEAM_T : Nat := 0xF021C
def SVC_CARRY : Nat := 0xF0220
def SVC_MIGR : Nat := 0xF0224
def SVC_ACT_VER : Nat := 0xF0228
def SVC_STG_VER : Nat := 0xF022C
def SVC_EVT : Nat := 0xF0010
def SVC_EVTEN : Nat := 0xF0014
def WKM_CTL : Nat := 0x50008
def WKM_STAT : Nat := 0x5000C
def WKM_EVT : Nat := 0x50010
def WKM_EVTEN : Nat := 0x50014
def WKM_FLT : Nat := 0x50018
def WKM_SCRUB : Nat := 0x50040
def WKM_WATCH : Nat := 0x50044
def WKM_PSEL : Nat := 0x50048
def WKM_PENT : Nat := 0x5004C
def WKM_PMASK : Nat := 0x50050
def WKM_INJ_ADDR : Nat := 0x50060
def WKM_INJ : Nat := 0x50064
def WKM_SPARE (b : Nat) : Nat := 0x50080 + 0x4 * b
def KEP_CTL : Nat := 0x60008
def KEP_STAT : Nat := 0x6000C
def KEP_EVT : Nat := 0x60010
def KEP_EVTEN : Nat := 0x60014
def KEP_FLT : Nat := 0x60018
def KEP_INTERVAL : Nat := 0x60040
def KEP_INTERVAL_ACT : Nat := 0x60044
def KEP_WEAR_TARGET : Nat := 0x60048
def KEP_KSEQ : Nat := 0x6004C
def KEP_KREC : Nat := 0x60050
def KEP_JFREE : Nat := 0x60054
def KEP_WEAR : Nat := 0x60058
def KEP_RWEAR : Nat := 0x6005C
def KEP_BOOT_T : Nat := 0x60060
def KEP_VER : Nat := 0x60064
def KEP_SPARES : Nat := 0x60068
def KEP_RLIVE : Nat := 0x6006C
def KEP_RKEY (r : Nat) : Nat := 0x61000 + 0x100 * r
def KEP_RVER (r : Nat) : Nat := 0x61004 + 0x100 * r
def KEP_RCMD (r : Nat) : Nat := 0x61008 + 0x100 * r
def KEP_RRESP (r : Nat) : Nat := 0x6100C + 0x100 * r
def KEP_RSEQ (r : Nat) : Nat := 0x61010 + 0x100 * r
def KEP_RDATA (r : Nat) (k : Nat) : Nat := 0x61020 + 0x100 * r + 4 * k
def FLD_CTL : Nat := 0x70008
def FLD_STAT : Nat := 0x7000C
def FLD_EVT : Nat := 0x70010
def FLD_EVTEN : Nat := 0x70014
def FLD_FLT : Nat := 0x70018
def FLD_DIFLT (n : Nat) : Nat := 0x70040 + 0x4 * n
def FLD_DILIVE : Nat := 0x70048
def FLD_DOCFG (n : Nat) : Nat := 0x70050 + 0x4 * n
def FLD_DOSTAT : Nat := 0x70070
def FLD_DORESTART : Nat := 0x70074
def FLD_AOCFG (n : Nat) : Nat := 0x70080 + 0x10 * n
def FLD_AOSTAT (n : Nat) : Nat := 0x70084 + 0x10 * n
def FLD_AOHEAD (n : Nat) : Nat := 0x70088 + 0x10 * n
def FLD_AOCMD (n : Nat) : Nat := 0x7008C + 0x10 * n
def FLD_AICFG (n : Nat) : Nat := 0x700C0 + 0x4 * n
def FLD_AIVAL (n : Nat) : Nat := 0x700D0 + 0x4 * n
def FLD_SILENCE : Nat := 0x700E0
def FLD_VFIELD : Nat := 0x700E4
def FLD_LINKCNT : Nat := 0x700E8
def LOP_STAT : Nat := 0x8000C
def LOP_EVT : Nat := 0x80010
def LOP_EVTEN : Nat := 0x80014
def LOP_FLT : Nat := 0x80018
def LOP_PLAUS_LO : Nat := 0x80040
def LOP_PLAUS_HI : Nat := 0x80044
def LOP_QMAX : Nat := 0x80048
def LOP_CFG (n : Nat) : Nat := 0x80100 + 0x40 * n
def LOP_PER (n : Nat) : Nat := 0x80104 + 0x40 * n
def LOP_KP (n : Nat) : Nat := 0x80108 + 0x40 * n
def LOP_KI (n : Nat) : Nat := 0x8010C + 0x40 * n
def LOP_LIM (n : Nat) : Nat := 0x80110 + 0x40 * n
def LOP_SP (n : Nat) : Nat := 0x80114 + 0x40 * n
def LOP_IMG (n : Nat) : Nat := 0x80118 + 0x40 * n
def LOP_MOD (n : Nat) : Nat := 0x8011C + 0x40 * n
def LOP_SUP (n : Nat) : Nat := 0x80120 + 0x40 * n
def LOP_SAFE (n : Nat) : Nat := 0x80124 + 0x40 * n
def LOP_INTL (n : Nat) : Nat := 0x80128 + 0x40 * n
def LOP_INTH (n : Nat) : Nat := 0x8012C + 0x40 * n
def LOP_PV (n : Nat) : Nat := 0x80130 + 0x40 * n
def LOP_OUT (n : Nat) : Nat := 0x80134 + 0x40 * n
def LOP_STS (n : Nat) : Nat := 0x80138 + 0x40 * n
def LOP_DLY (n : Nat) : Nat := 0x8013C + 0x40 * n
def SAF_STAT : Nat := 0x9000C
def SAF_EVT : Nat := 0x90010
def SAF_EVTEN : Nat := 0x90014
def SAF_FLT : Nat := 0x90018
def SAF_REQ : Nat := 0x90040
def SAF_SI : Nat := 0x90044
def SAF_AX (a : Nat) : Nat := 0x90048 + 0x4 * a
def SAF_POS (a : Nat) : Nat := 0x90050 + 0x4 * a
def SAF_DEV (a : Nat) : Nat := 0x90058 + 0x4 * a
def SAF_OP : Nat := 0x90060
def SAF_SIG : Nat := 0x90064
def SAF_CONFIRM : Nat := 0x90068
def SAF_CSIG : Nat := 0x9006C
def SAF_RESET : Nat := 0x90070
def SAF_LANE : Nat := 0x90074
def SAF_RESP : Nat := 0x90078
def SAF_PARAM (n : Nat) : Nat := 0x90100 + 0x4 * n
def CAN_CTL : Nat := 0xA0008
def CAN_STAT : Nat := 0xA000C
def CAN_EVT : Nat := 0xA0010
def CAN_EVTEN : Nat := 0xA0014
def CAN_FLT : Nat := 0xA0018
def CAN_CFG (c : Nat) : Nat := 0xA0040 + 0x40 * c
def CAN_NBT (c : Nat) : Nat := 0xA0044 + 0x40 * c
def CAN_DBT (c : Nat) : Nat := 0xA0048 + 0x40 * c
def CAN_TDC (c : Nat) : Nat := 0xA004C + 0x40 * c
def CAN_ERR (c : Nat) : Nat := 0xA0050 + 0x40 * c
def CAN_BUS (c : Nat) : Nat := 0xA0054 + 0x40 * c
def CAN_TTCYC (c : Nat) : Nat := 0xA0058 + 0x40 * c
def CAN_TTPH (c : Nat) : Nat := 0xA005C + 0x40 * c
def CAN_TTREF (c : Nat) : Nat := 0xA0060 + 0x40 * c
def CAN_TTSTAT (c : Nat) : Nat := 0xA0064 + 0x40 * c
def CAN_CMD (c : Nat) : Nat := 0xA0068 + 0x40 * c
def CAN_RXSEQ (c : Nat) : Nat := 0xA006C + 0x40 * c
def WDG_CTL : Nat := 0xB0008
def WDG_STAT : Nat := 0xB000C
def WDG_EVT : Nat := 0xB0010
def WDG_EVTEN : Nat := 0xB0014
def WDG_FLT : Nat := 0xB0018
def WDG_SVC : Nat := 0xB0040
def WDG_PERIOD : Nat := 0xB0044
def WDG_OPEN : Nat := 0xB0048
def WDG_MASK : Nat := 0xB004C
def WDG_CNT_LO : Nat := 0xB0050
def WDG_CNT_HI : Nat := 0xB0054
def WDG_ELAPSED : Nat := 0xB0058
def WDG_LSVC_LO : Nat := 0xB005C
def WDG_LSVC_HI : Nat := 0xB0060
def WDG_EV0 : Nat := 0xB0064
def WDG_EV1 : Nat := 0xB0068
def WDG_RATIO : Nat := 0xB006C
def WDG_PC (n : Nat) : Nat := 0xB0080 + 0x4 * n
def REC_STAT : Nat := 0xC000C
def REC_EVT : Nat := 0xC0010
def REC_EVTEN : Nat := 0xC0014
def REC_FLT : Nat := 0xC0018
def REC_HEAD : Nat := 0xC0040
def REC_ORD_N : Nat := 0xC0044
def REC_PNEXT : Nat := 0xC0048
def REC_LOST_ORD : Nat := 0xC004C
def REC_QUEUE : Nat := 0xC0050
def REC_RPTWIN : Nat := 0xC0054
def REC_LOST (s : Nat) : Nat := 0xC0100 + 0x4 * s
def TAL_CTL : Nat := 0xD0008
def TAL_STAT : Nat := 0xD000C
def TAL_EVT : Nat := 0xD0010
def TAL_EVTEN : Nat := 0xD0014
def TAL_SNAPSEQ : Nat := 0xD0040
def TAL_OVF_LO : Nat := 0xD0060
def TAL_OVF_HI : Nat := 0xD0064
def TAL_OVF_P : Nat := 0xD0068
def TAL_SCTL : Nat := 0xD0070
def TAL_SNEXT : Nat := 0xD0074
def TAL_BWWIN : Nat := 0xD0078
def TAL_PSEL (k : Nat) : Nat := 0xD0080 + 0x10 * k
def TAL_PCNT_LO (k : Nat) : Nat := 0xD0084 + 0x10 * k
def TAL_PCNT_HI (k : Nat) : Nat := 0xD0088 + 0x10 * k
def TAL_BW_TX (p : Nat) : Nat := 0xD0100 + 0x8 * p
def TAL_BW_RX (p : Nat) : Nat := 0xD0104 + 0x8 * p
def TAL_L_LO (b : Nat) (i : Nat) : Nat := 0xD0200 + 0x20 * b + 0x8 * i
def TAL_L_HI (b : Nat) (i : Nat) : Nat := 0xD0204 + 0x20 * b + 0x8 * i
def TAL_SL (k : Nat) : Nat := 0xD0400 + 0x4 * k
def TAL_SP (k : Nat) : Nat := 0xD0600 + 0x4 * k
def TAL_SBEAT_LO : Nat := 0xD0640
def TAL_SBEAT_HI : Nat := 0xD0644
def TAL_STB_LO : Nat := 0xD0648
def TAL_STB_HI : Nat := 0xD064C
def TAL_SMP_PC (e : Nat) : Nat := 0xD0800 + 0x10 * e
def TAL_SMP_INFO (e : Nat) : Nat := 0xD0804 + 0x10 * e
def TAL_SMP_LAT (e : Nat) : Nat := 0xD0808 + 0x10 * e
def TAL_SMP_TB (e : Nat) : Nat := 0xD080C + 0x10 * e
def HST_CTL : Nat := 0xE0008
def HST_STAT : Nat := 0xE000C
def HST_EVT : Nat := 0xE0010
def HST_EVTEN : Nat := 0xE0014
def HST_FLT : Nat := 0xE0018
def HST_DOORBELL : Nat := 0xE0040
def HST_HELD : Nat := 0xE0044
def HST_IDS : Nat := 0xE0048
def HST_MSIX_ALO (v : Nat) : Nat := 0xE1000 + 0x10 * v
def HST_MSIX_AHI (v : Nat) : Nat := 0xE1004 + 0x10 * v
def HST_MSIX_DATA (v : Nat) : Nat := 0xE1008 + 0x10 * v
def HST_MSIX_VC (v : Nat) : Nat := 0xE100C + 0x10 * v
def HST_PBA : Nat := 0xE1200
def SVC_STAT : Nat := 0xF000C
def SVC_FLT : Nat := 0xF0018
def SVC_DEVID (n : Nat) : Nat := 0xF0040 + 0x4 * n
def SVC_OTP : Nat := 0xF0050
def SVC_KEYS : Nat := 0xF0054
def SVC_SESS : Nat := 0xF0058
def SVC_BOOT_T : Nat := 0xF0060
def SVC_FIRST_T : Nat := 0xF0064
def SVC_PWR : Nat := 0xF0300
def LOP_CTL : Nat := 0x80008
def SAF_CTL : Nat := 0x90008
def REC_CTL : Nat := 0xC0008
def TAL_FLT : Nat := 0xD0018
def SVC_CTL : Nat := 0xF0008

end Sys2Proof.Machine.A

namespace Sys2Proof.Machine.F

def SVC_PACE_SLOW : Fld := ⟨0xF0380, 31, 31⟩
def SVC_PACE_PACE_MAX : Fld := ⟨0xF0380, 30, 16⟩
def SVC_PACE_PACE : Fld := ⟨0xF0380, 15, 0⟩
def SVC_PACE_LIM_PACE_LIM : Fld := ⟨0xF0384, 15, 0⟩
def SVC_HLTH_T_TRANSIENT (n : Nat) : Fld := ⟨0xF0400 + 0x4 * n, 31, 0⟩
def SVC_HLTH_L_LASTING (n : Nat) : Fld := ⟨0xF0440 + 0x4 * n, 15, 0⟩
def SVC_HLTH_MAP_POISONED : Fld := ⟨0xF0480, 31, 16⟩
def SVC_HLTH_MAP_SPARES_USED : Fld := ⟨0xF0480, 8, 0⟩
def ESC_CTL_DORMANT_FULL : Fld := ⟨0x10008, 31, 24⟩
def ESC_CTL_DORMANT_EN : Fld := ⟨0x10008, 23, 23⟩
def ESC_CTL_OVR_LIM : Fld := ⟨0x10008, 22, 16⟩
def ESC_CTL_OVR_MODE : Fld := ⟨0x10008, 15, 15⟩
def ESC_STAT_LOCKED_WR : Fld := ⟨0x1000C, 31, 31⟩
def ESC_STAT_IDLE : Fld := ⟨0x1000C, 20, 20⟩
def ESC_STAT_ACTIVE : Fld := ⟨0x1000C, 19, 16⟩
def ESC_STAT_HALTED : Fld := ⟨0x1000C, 15, 0⟩
def ESC_EVT_RESERVE_LOW : Fld := ⟨0x10010, 6, 6⟩
def ESC_EVT_SEAM : Fld := ⟨0x10010, 5, 5⟩
def ESC_EVT_KEEP : Fld := ⟨0x10010, 4, 4⟩
def ESC_EVT_ALERT_COAL : Fld := ⟨0x10010, 3, 3⟩
def ESC_EVT_TASK_FAULT : Fld := ⟨0x10010, 2, 2⟩
def ESC_EVT_SKIP : Fld := ⟨0x10010, 1, 1⟩
def ESC_EVT_STRETCH : Fld := ⟨0x10010, 0, 0⟩
def ESC_EVTEN_RESERVE_LOW : Fld := ⟨0x10014, 6, 6⟩
def ESC_EVTEN_SEAM : Fld := ⟨0x10014, 5, 5⟩
def ESC_EVTEN_KEEP : Fld := ⟨0x10014, 4, 4⟩
def ESC_EVTEN_ALERT_COAL : Fld := ⟨0x10014, 3, 3⟩
def ESC_EVTEN_TASK_FAULT : Fld := ⟨0x10014, 2, 2⟩
def ESC_EVTEN_SKIP : Fld := ⟨0x10014, 1, 1⟩
def ESC_EVTEN_STRETCH : Fld := ⟨0x10014, 0, 0⟩
def ESC_FLT_TASK : Fld := ⟨0x10018, 11, 8⟩
def ESC_FLT_CAUSE : Fld := ⟨0x10018, 2, 0⟩
def ESC_BEAT_PERIOD : Fld := ⟨0x10040, 23, 0⟩
def ESC_BNUM_LO_BNUM : Fld := ⟨0x10044, 31, 0⟩
def ESC_BNUM_HI_BNUM : Fld := ⟨0x10048, 31, 0⟩
def ESC_RSV_RSV : Fld := ⟨0x1004C, 31, 0⟩
def ESC_RSV_MIN_RSV_MIN : Fld := ⟨0x10050, 31, 0⟩
def ESC_PACE_PACE : Fld := ⟨0x10054, 15, 0⟩
def ESC_ALERT_PEND_PEND : Fld := ⟨0x10058, 31, 0⟩
def ESC_KEEPS_KEEPS : Fld := ⟨0x1005C, 31, 0⟩
def ESC_RSV_WARN_WARN : Fld := ⟨0x10060, 31, 0⟩
def ESC_TCFG_EN (n : Nat) : Fld := ⟨0x10100 + 0x20 * n, 31, 31⟩
def ESC_TCFG_TRIG (n : Nat) : Fld := ⟨0x10100 + 0x20 * n, 30, 30⟩
def ESC_TCFG_FAULT_POL (n : Nat) : Fld := ⟨0x10100 + 0x20 * n, 29, 29⟩
def ESC_TCFG_PRIO (n : Nat) : Fld := ⟨0x10100 + 0x20 * n, 27, 24⟩
def ESC_TCFG_ALERT (n : Nat) : Fld := ⟨0x10100 + 0x20 * n, 20, 16⟩
def ESC_TCFG_PERIOD (n : Nat) : Fld := ⟨0x10100 + 0x20 * n, 15, 0⟩
def ESC_TPH_PHASE (n : Nat) : Fld := ⟨0x10104 + 0x20 * n, 15, 0⟩
def ESC_TVIEW_VIEW (n : Nat) : Fld := ⟨0x10108 + 0x20 * n, 31, 0⟩
def ESC_TSTAT_HALTED (n : Nat) : Fld := ⟨0x1010C + 0x20 * n, 31, 31⟩
def ESC_TSTAT_ACTIVE (n : Nat) : Fld := ⟨0x1010C + 0x20 * n, 30, 30⟩
def ESC_TSTAT_PENDING (n : Nat) : Fld := ⟨0x1010C + 0x20 * n, 29, 29⟩
def ESC_TSTAT_COAL (n : Nat) : Fld := ⟨0x1010C + 0x20 * n, 23, 16⟩
def ESC_TSTAT_DORM (n : Nat) : Fld := ⟨0x1010C + 0x20 * n, 15, 0⟩
def ESC_TCYC_CYC (n : Nat) : Fld := ⟨0x10110 + 0x20 * n, 31, 0⟩
def ESC_TSLK_SLACK (n : Nat) : Fld := ⟨0x10114 + 0x20 * n, 31, 0⟩
def ESC_TSLKMIN_SLACK_MIN (n : Nat) : Fld := ⟨0x10118 + 0x20 * n, 31, 0⟩
def ESC_TOVR_STRETCHES (n : Nat) : Fld := ⟨0x1011C + 0x20 * n, 31, 16⟩
def ESC_TOVR_SKIPS (n : Nat) : Fld := ⟨0x1011C + 0x20 * n, 15, 0⟩
def MOV_CTL_PRED_HOLD : Fld := ⟨0x8, 8, 8⟩
def MOV_CTL_SPEC_OFF : Fld := ⟨0x8, 3, 3⟩
def MOV_CTL_TRAINS : Fld := ⟨0x8, 1, 0⟩
def MOV_STAT_LOCKED_WR : Fld := ⟨0xC, 31, 31⟩
def MOV_STAT_BUSY : Fld := ⟨0xC, 19, 16⟩
def MOV_STAT_HEAD_VALID : Fld := ⟨0xC, 10, 10⟩
def MOV_STAT_HEAD : Fld := ⟨0xC, 9, 8⟩
def MOV_STAT_TASK : Fld := ⟨0xC, 3, 0⟩
def MOV_EVT_FOOTPRINT : Fld := ⟨0x10, 4, 4⟩
def MOV_EVT_AUTOSPLIT : Fld := ⟨0x10, 3, 3⟩
def MOV_EVT_TRAP : Fld := ⟨0x10, 2, 2⟩
def MOV_EVT_LASTING : Fld := ⟨0x10, 1, 1⟩
def MOV_EVT_TIMEOUT : Fld := ⟨0x10, 0, 0⟩
def MOV_EVTEN_FOOTPRINT : Fld := ⟨0x14, 4, 4⟩
def MOV_EVTEN_AUTOSPLIT : Fld := ⟨0x14, 3, 3⟩
def MOV_EVTEN_TRAP : Fld := ⟨0x14, 2, 2⟩
def MOV_EVTEN_LASTING : Fld := ⟨0x14, 1, 1⟩
def MOV_EVTEN_TIMEOUT : Fld := ⟨0x14, 0, 0⟩
def MOV_FLT_SID : Fld := ⟨0x18, 23, 12⟩
def MOV_FLT_TASK : Fld := ⟨0x18, 11, 8⟩
def MOV_FLT_CAUSE : Fld := ⟨0x18, 1, 0⟩
def MOV_TRAIN_BUSY (t : Nat) : Fld := ⟨0x40 + 0x4 * t, 31, 31⟩
def MOV_TRAIN_HEAD (t : Nat) : Fld := ⟨0x40 + 0x4 * t, 30, 30⟩
def MOV_TRAIN_WAITING (t : Nat) : Fld := ⟨0x40 + 0x4 * t, 29, 29⟩
def MOV_TRAIN_TASK (t : Nat) : Fld := ⟨0x40 + 0x4 * t, 27, 24⟩
def MOV_TRAIN_SID (t : Nat) : Fld := ⟨0x40 + 0x4 * t, 23, 12⟩
def MOV_TRAIN_CONT (t : Nat) : Fld := ⟨0x40 + 0x4 * t, 11, 11⟩
def MOV_TRAIN_INFLIGHT (t : Nat) : Fld := ⟨0x40 + 0x4 * t, 4, 0⟩
def MOV_TRAP_PC_PC : Fld := ⟨0x50, 31, 0⟩
def MOV_TRAP_INFO_SID : Fld := ⟨0x54, 31, 20⟩
def MOV_TRAP_INFO_TASK : Fld := ⟨0x54, 19, 16⟩
def MOV_TRAP_INFO_CODE : Fld := ⟨0x54, 7, 0⟩
def MOV_FP_BASE_BASE : Fld := ⟨0x58, 31, 0⟩
def MOV_FP_CNT_CNT : Fld := ⟨0x5C, 12, 0⟩
def MOV_CPX_ID_TABLE_ID : Fld := ⟨0x60, 31, 0⟩
def MOV_CPX_PRES_PRESENT : Fld := ⟨0x64, 15, 0⟩
def MOV_CPX_TRAP_IN_CPX : Fld := ⟨0x68, 8, 8⟩
def MOV_CPX_TRAP_INDEX : Fld := ⟨0x68, 5, 0⟩
def MOV_CPX_STAGED_TABLE_ID : Fld := ⟨0x6C, 31, 0⟩
def REG_CTL_CAL_MODE : Fld := ⟨0x20008, 2, 2⟩
def REG_CTL_GT_HOLD : Fld := ⟨0x20008, 1, 1⟩
def REG_CTL_GT_EN : Fld := ⟨0x20008, 0, 0⟩
def REG_STAT_LOCKED_WR : Fld := ⟨0x2000C, 31, 31⟩
def REG_STAT_SLOT_SPARES : Fld := ⟨0x2000C, 11, 8⟩
def REG_STAT_GT_LOCK : Fld := ⟨0x2000C, 1, 1⟩
def REG_STAT_GT_HOLDOVER : Fld := ⟨0x2000C, 0, 0⟩
def REG_EVT_CAL_WAKE : Fld := ⟨0x20010, 6, 6⟩
def REG_EVT_CAL_REFUSED : Fld := ⟨0x20010, 5, 5⟩
def REG_EVT_CAL_DONE : Fld := ⟨0x20010, 4, 4⟩
def REG_EVT_TRIM_CLAMP : Fld := ⟨0x20010, 3, 3⟩
def REG_EVT_GT_STEP : Fld := ⟨0x20010, 2, 2⟩
def REG_EVT_GT_LOCK_LOST : Fld := ⟨0x20010, 1, 1⟩
def REG_EVT_GT_LOCK_GAINED : Fld := ⟨0x20010, 0, 0⟩
def REG_EVTEN_CAL_WAKE : Fld := ⟨0x20014, 6, 6⟩
def REG_EVTEN_CAL_REFUSED : Fld := ⟨0x20014, 5, 5⟩
def REG_EVTEN_CAL_DONE : Fld := ⟨0x20014, 4, 4⟩
def REG_EVTEN_TRIM_CLAMP : Fld := ⟨0x20014, 3, 3⟩
def REG_EVTEN_GT_STEP : Fld := ⟨0x20014, 2, 2⟩
def REG_EVTEN_GT_LOCK_LOST : Fld := ⟨0x20014, 1, 1⟩
def REG_EVTEN_GT_LOCK_GAINED : Fld := ⟨0x20014, 0, 0⟩
def REG_FLT_SLOT_POISON : Fld := ⟨0x20018, 2, 2⟩
def REG_FLT_CAL_OSC : Fld := ⟨0x20018, 1, 1⟩
def REG_FLT_GT_SOURCE : Fld := ⟨0x20018, 0, 0⟩
def REG_TB_LO_TB : Fld := ⟨0x20040, 31, 0⟩
def REG_TB_HI_TB : Fld := ⟨0x20044, 31, 0⟩
def REG_TRIM_TRIM : Fld := ⟨0x20048, 15, 0⟩
def REG_GT_OFS_OFS : Fld := ⟨0x2004C, 31, 0⟩
def REG_GT_DELAY_DELAY : Fld := ⟨0x20050, 31, 0⟩
def REG_GT_STEER_STEER : Fld := ⟨0x20054, 31, 0⟩
def REG_GT_SAMPLES_COUNT : Fld := ⟨0x20058, 31, 0⟩
def REG_SLOT_SEL_SLOT : Fld := ⟨0x20060, 11, 0⟩
def REG_CAL_CMD_CMD : Fld := ⟨0x20100, 2, 0⟩
def REG_CAL_STAT_BAD_WRITE : Fld := ⟨0x20104, 8, 8⟩
def REG_CAL_STAT_DST_REFUSED : Fld := ⟨0x20104, 7, 7⟩
def REG_CAL_STAT_CMD_REFUSED : Fld := ⟨0x20104, 6, 6⟩
def REG_CAL_STAT_OSC_STOP : Fld := ⟨0x20104, 5, 5⟩
def REG_CAL_STAT_VBAK_LOW : Fld := ⟨0x20104, 4, 4⟩
def REG_CAL_STAT_END : Fld := ⟨0x20104, 3, 3⟩
def REG_CAL_STAT_INVALID : Fld := ⟨0x20104, 2, 2⟩
def REG_CAL_STAT_DST : Fld := ⟨0x20104, 1, 1⟩
def REG_CAL_STAT_BUSY : Fld := ⟨0x20104, 0, 0⟩
def REG_CAL_WAKE_PERIOD : Fld := ⟨0x20108, 23, 0⟩
def REG_CAL_LSEC_LO_SEC : Fld := ⟨0x20110, 31, 0⟩
def REG_CAL_LSEC_HI_SEC : Fld := ⟨0x20114, 7, 0⟩
def REG_CAL_LSUB_SUB : Fld := ⟨0x20118, 14, 0⟩
def REG_CAL_LTIME_HOUR : Fld := ⟨0x2011C, 23, 16⟩
def REG_CAL_LTIME_MIN : Fld := ⟨0x2011C, 15, 8⟩
def REG_CAL_LTIME_SEC : Fld := ⟨0x2011C, 7, 0⟩
def REG_CAL_LDATE_YEAR : Fld := ⟨0x20120, 31, 16⟩
def REG_CAL_LDATE_MONTH : Fld := ⟨0x20120, 15, 8⟩
def REG_CAL_LDATE_DAY : Fld := ⟨0x20120, 7, 0⟩
def REG_CAL_LINFO_DOW : Fld := ⟨0x20124, 10, 8⟩
def REG_CAL_LINFO_DST : Fld := ⟨0x20124, 0, 0⟩
def REG_CAL_SSEC_LO_SEC : Fld := ⟨0x20130, 31, 0⟩
def REG_CAL_SSEC_HI_SEC : Fld := ⟨0x20134, 7, 0⟩
def REG_CAL_STIME_TIME : Fld := ⟨0x20138, 31, 0⟩
def REG_CAL_SDATE_DATE : Fld := ⟨0x2013C, 31, 0⟩
def REG_CAL_SFLAGS_DST : Fld := ⟨0x20140, 0, 0⟩
def REG_CAL_BSEC_LO_SEC : Fld := ⟨0x20150, 31, 0⟩
def REG_CAL_BSEC_HI_DST : Fld := ⟨0x20154, 31, 31⟩
def REG_CAL_BSEC_HI_SEC : Fld := ⟨0x20154, 7, 0⟩
def REG_CAL_BSUB_SUB : Fld := ⟨0x20158, 14, 0⟩
def LAC_CTL_UNFOLD_AUTO : Fld := ⟨0x30008, 1, 1⟩
def LAC_CTL_DARK_UNUSED : Fld := ⟨0x30008, 0, 0⟩
def LAC_STAT_LOCKED_WR : Fld := ⟨0x3000C, 31, 31⟩
def LAC_STAT_MEMBER : Fld := ⟨0x3000C, 27, 26⟩
def LAC_STAT_RING : Fld := ⟨0x3000C, 25, 24⟩
def LAC_STAT_HOLD_CNT : Fld := ⟨0x3000C, 15, 8⟩
def LAC_STAT_FOLD : Fld := ⟨0x3000C, 7, 4⟩
def LAC_STAT_UP : Fld := ⟨0x3000C, 3, 0⟩
def LAC_EVT_LINK_LONG : Fld := ⟨0x30010, 11, 11⟩
def LAC_EVT_STRANGER : Fld := ⟨0x30010, 10, 10⟩
def LAC_EVT_INBOX : Fld := ⟨0x30010, 9, 9⟩
def LAC_EVT_MBX_BUSY : Fld := ⟨0x30010, 8, 8⟩
def LAC_EVT_MBX_DONE : Fld := ⟨0x30010, 7, 7⟩
def LAC_EVT_HOLD_EXPIRED : Fld := ⟨0x30010, 6, 6⟩
def LAC_EVT_MISMATCH : Fld := ⟨0x30010, 5, 5⟩
def LAC_EVT_STALE : Fld := ⟨0x30010, 4, 4⟩
def LAC_EVT_UNFOLD : Fld := ⟨0x30010, 3, 3⟩
def LAC_EVT_FOLD : Fld := ⟨0x30010, 2, 2⟩
def LAC_EVT_REJOIN : Fld := ⟨0x30010, 1, 1⟩
def LAC_EVT_ABSENT : Fld := ⟨0x30010, 0, 0⟩
def LAC_EVTEN_LINK_LONG : Fld := ⟨0x30014, 11, 11⟩
def LAC_EVTEN_STRANGER : Fld := ⟨0x30014, 10, 10⟩
def LAC_EVTEN_INBOX : Fld := ⟨0x30014, 9, 9⟩
def LAC_EVTEN_MBX_BUSY : Fld := ⟨0x30014, 8, 8⟩
def LAC_EVTEN_MBX_DONE : Fld := ⟨0x30014, 7, 7⟩
def LAC_EVTEN_HOLD_EXPIRED : Fld := ⟨0x30014, 6, 6⟩
def LAC_EVTEN_MISMATCH : Fld := ⟨0x30014, 5, 5⟩
def LAC_EVTEN_STALE : Fld := ⟨0x30014, 4, 4⟩
def LAC_EVTEN_UNFOLD : Fld := ⟨0x30014, 3, 3⟩
def LAC_EVTEN_FOLD : Fld := ⟨0x30014, 2, 2⟩
def LAC_EVTEN_REJOIN : Fld := ⟨0x30014, 1, 1⟩
def LAC_EVTEN_ABSENT : Fld := ⟨0x30014, 0, 0⟩
def LAC_FLT_POS : Fld := ⟨0x30018, 22, 16⟩
def LAC_FLT_PORT : Fld := ⟨0x30018, 9, 8⟩
def LAC_FLT_CAUSE : Fld := ⟨0x30018, 3, 0⟩
def LAC_ADDR_VALID : Fld := ⟨0x30040, 31, 31⟩
def LAC_ADDR_ADDR : Fld := ⟨0x30040, 13, 0⟩
def LAC_TB_TB : Fld := ⟨0x30044, 23, 0⟩
def LAC_CFG_HOLD : Fld := ⟨0x30048, 31, 24⟩
def LAC_CFG_RMUL_M1 : Fld := ⟨0x30048, 23, 16⟩
def LAC_CFG_TX_OFS : Fld := ⟨0x30048, 15, 0⟩
def LAC_LINKMAX_LINK_MAX : Fld := ⟨0x3004C, 15, 0⟩
def LAC_PORT_UP (x : Nat) : Fld := ⟨0x30050 + 0x4 * x, 31, 31⟩
def LAC_PORT_FOLD (x : Nat) : Fld := ⟨0x30050 + 0x4 * x, 30, 30⟩
def LAC_PORT_OUT (x : Nat) : Fld := ⟨0x30050 + 0x4 * x, 29, 29⟩
def LAC_PORT_DELAY (x : Nat) : Fld := ⟨0x30050 + 0x4 * x, 19, 0⟩
def LAC_SEQ_SEQ : Fld := ⟨0x30060, 15, 0⟩
def LAC_EPOCH_EPOCH : Fld := ⟨0x30064, 31, 0⟩
def LAC_RING_FOLD_POS : Fld := ⟨0x30068, 30, 24⟩
def LAC_RING_NPRES : Fld := ⟨0x30068, 22, 16⟩
def LAC_RING_NCFG : Fld := ⟨0x30068, 14, 8⟩
def LAC_LAYOUT_LAYOUT_ID : Fld := ⟨0x3006C, 15, 0⟩
def LAC_TFRAME_T : Fld := ⟨0x30070, 31, 0⟩
def LAC_TFRAME_MAX_T : Fld := ⟨0x30074, 31, 0⟩
def LAC_STS_BASE_BASE : Fld := ⟨0x30078, 31, 0⟩
def LAC_CNT0_MISMATCH : Fld := ⟨0x30080, 31, 16⟩
def LAC_CNT0_STALE_SEQ : Fld := ⟨0x30080, 15, 0⟩
def LAC_CNT1_RETRY_SENT : Fld := ⟨0x30084, 31, 16⟩
def LAC_CNT1_RETRY_SKIPPED : Fld := ⟨0x30084, 15, 0⟩
def LAC_CNT2_LATE : Fld := ⟨0x30088, 31, 16⟩
def LAC_CNT2_STRANGER : Fld := ⟨0x30088, 15, 0⟩
def LAC_CNT3_FOLDS : Fld := ⟨0x3008C, 31, 16⟩
def LAC_CNT3_REJOINS : Fld := ⟨0x3008C, 15, 0⟩
def LAC_MBX_FREE_FREE : Fld := ⟨0x30100, 5, 0⟩
def LAC_MBX_DONE_DONE : Fld := ⟨0x30104, 31, 0⟩
def LAC_INBOX_COUNT : Fld := ⟨0x30108, 3, 0⟩
def LAC_INBOX_POP_POP : Fld := ⟨0x3010C, 0, 0⟩
def LAC_POS_CFG (n : Nat) : Fld := ⟨0x30200 + 0x4 * n, 31, 31⟩
def LAC_POS_PRESENT (n : Nat) : Fld := ⟨0x30200 + 0x4 * n, 30, 30⟩
def LAC_POS_OUT_LEN (n : Nat) : Fld := ⟨0x30200 + 0x4 * n, 26, 16⟩
def LAC_POS_IN_LEN (n : Nat) : Fld := ⟨0x30200 + 0x4 * n, 10, 0⟩
def LAC_BR_CFG (b : Nat) : Fld := ⟨0x30400 + 0x4 * b, 31, 31⟩
def LAC_BR_PRESENT (b : Nat) : Fld := ⟨0x30400 + 0x4 * b, 30, 30⟩
def LAC_BR_OUT_LEN (b : Nat) : Fld := ⟨0x30400 + 0x4 * b, 26, 16⟩
def LAC_BR_IN_LEN (b : Nat) : Fld := ⟨0x30400 + 0x4 * b, 10, 0⟩
def LAC_STG_DEST_DEST (r : Nat) : Fld := ⟨0x31000 + 0x200 * r, 13, 0⟩
def LAC_STG_ADDR_ADDR (r : Nat) : Fld := ⟨0x31004 + 0x200 * r, 31, 0⟩
def LAC_STG_CMD_GO (r : Nat) : Fld := ⟨0x31008 + 0x200 * r, 31, 31⟩
def LAC_STG_CMD_KIND (r : Nat) : Fld := ⟨0x31008 + 0x200 * r, 10, 9⟩
def LAC_STG_CMD_LEN (r : Nat) : Fld := ⟨0x31008 + 0x200 * r, 8, 0⟩
def LAC_STG_RESP_BUSY (r : Nat) : Fld := ⟨0x3100C + 0x200 * r, 31, 31⟩
def LAC_STG_RESP_ENTRY (r : Nat) : Fld := ⟨0x3100C + 0x200 * r, 4, 0⟩
def LAC_STG_DATA_DATA (r : Nat) (k : Nat) : Fld := ⟨0x31100 + 0x200 * r + 4 * k, 31, 0⟩
def LAC_MBX_CTRL_STATE (e : Nat) : Fld := ⟨0x32000 + 0x200 * e, 31, 30⟩
def LAC_MBX_CTRL_RESULT (e : Nat) : Fld := ⟨0x32000 + 0x200 * e, 19, 16⟩
def LAC_MBX_CTRL_ORIGIN (e : Nat) : Fld := ⟨0x32000 + 0x200 * e, 13, 12⟩
def LAC_MBX_CTRL_KIND (e : Nat) : Fld := ⟨0x32000 + 0x200 * e, 10, 9⟩
def LAC_MBX_CTRL_LEN (e : Nat) : Fld := ⟨0x32000 + 0x200 * e, 8, 0⟩
def LAC_MBX_DEST_DEST (e : Nat) : Fld := ⟨0x32004 + 0x200 * e, 31, 0⟩
def LAC_MBX_DATA_DATA (e : Nat) (k : Nat) : Fld := ⟨0x32100 + 0x200 * e + 4 * k, 31, 0⟩
def LAC_INBOX_DATA_DATA (i : Nat) (k : Nat) : Fld := ⟨0x36000 + 0x200 * i + 4 * k, 31, 0⟩
def LAC_INBOX_INFO_LEN (i : Nat) : Fld := ⟨0x36100 + 0x200 * i, 24, 16⟩
def LAC_INBOX_INFO_SRC (i : Nat) : Fld := ⟨0x36100 + 0x200 * i, 13, 0⟩
def WLT_CTL_HANDOVER : Fld := ⟨0x40008, 31, 31⟩
def WLT_CTL_RESYNC_CHUNK : Fld := ⟨0x40008, 17, 6⟩
def WLT_CTL_LEASE : Fld := ⟨0x40008, 5, 0⟩
def WLT_STAT_LOCKED_WR : Fld := ⟨0x4000C, 31, 31⟩
def WLT_STAT_KEEPERLESS : Fld := ⟨0x4000C, 11, 11⟩
def WLT_STAT_LEASE_OK : Fld := ⟨0x4000C, 10, 10⟩
def WLT_STAT_LINK_UP : Fld := ⟨0x4000C, 9, 9⟩
def WLT_STAT_PAIRED : Fld := ⟨0x4000C, 8, 8⟩
def WLT_STAT_PEER : Fld := ⟨0x4000C, 6, 4⟩
def WLT_STAT_STATE : Fld := ⟨0x4000C, 2, 0⟩
def WLT_EVT_SEAM : Fld := ⟨0x40010, 7, 7⟩
def WLT_EVT_STRETCH : Fld := ⟨0x40010, 6, 6⟩
def WLT_EVT_SYNCED : Fld := ⟨0x40010, 5, 5⟩
def WLT_EVT_UNSYNCED : Fld := ⟨0x40010, 4, 4⟩
def WLT_EVT_MISMATCH : Fld := ⟨0x40010, 3, 3⟩
def WLT_EVT_CROWN_LOST : Fld := ⟨0x40010, 2, 2⟩
def WLT_EVT_CROWN_GAINED : Fld := ⟨0x40010, 1, 1⟩
def WLT_EVT_LINK_DOWN : Fld := ⟨0x40010, 0, 0⟩
def WLT_EVTEN_SEAM : Fld := ⟨0x40014, 7, 7⟩
def WLT_EVTEN_STRETCH : Fld := ⟨0x40014, 6, 6⟩
def WLT_EVTEN_SYNCED : Fld := ⟨0x40014, 5, 5⟩
def WLT_EVTEN_UNSYNCED : Fld := ⟨0x40014, 4, 4⟩
def WLT_EVTEN_MISMATCH : Fld := ⟨0x40014, 3, 3⟩
def WLT_EVTEN_CROWN_LOST : Fld := ⟨0x40014, 2, 2⟩
def WLT_EVTEN_CROWN_GAINED : Fld := ⟨0x40014, 1, 1⟩
def WLT_EVTEN_LINK_DOWN : Fld := ⟨0x40014, 0, 0⟩
def WLT_FLT_CAUSE : Fld := ⟨0x40018, 3, 0⟩
def WLT_EPOCH_EPOCH : Fld := ⟨0x40040, 31, 0⟩
def WLT_LEASE_LO_LC : Fld := ⟨0x40044, 31, 0⟩
def WLT_LEASE_HI_LC : Fld := ⟨0x40048, 31, 0⟩
def WLT_DELAY_DELAY : Fld := ⟨0x4004C, 15, 0⟩
def WLT_COPY_MAX : Fld := ⟨0x40050, 31, 16⟩
def WLT_COPY_LAST : Fld := ⟨0x40050, 15, 0⟩
def WLT_LAG_LAG : Fld := ⟨0x40054, 31, 0⟩
def WLT_CNT0_MISMATCH : Fld := ⟨0x40058, 31, 16⟩
def WLT_CNT0_CULPRITLESS : Fld := ⟨0x40058, 1, 0⟩
def WLT_CNT1_HANDOVERS : Fld := ⟨0x4005C, 31, 16⟩
def WLT_CNT1_RESYNCS : Fld := ⟨0x4005C, 15, 0⟩
def WLT_RESYNC_LEFT : Fld := ⟨0x40060, 16, 0⟩
def WLT_PEER_REC_SEQ : Fld := ⟨0x40064, 31, 0⟩
def SVC_INTK_STATE : Fld := ⟨0xF0200, 27, 24⟩
def SVC_INTK_KIND : Fld := ⟨0xF0200, 23, 16⟩
def SVC_INTK_REFUSAL : Fld := ⟨0xF0200, 7, 0⟩
def SVC_INTK_RCVD_BYTES : Fld := ⟨0xF0204, 21, 0⟩
def SVC_HALF_ACTIVE : Fld := ⟨0xF0208, 8, 8⟩
def SVC_HALF_STATE_B : Fld := ⟨0xF0208, 6, 4⟩
def SVC_HALF_STATE_A : Fld := ⟨0xF0208, 2, 0⟩
def SVC_RSL_STATE : Fld := ⟨0xF020C, 31, 28⟩
def SVC_RSL_DEFERS : Fld := ⟨0xF020C, 15, 0⟩
def SVC_RSL_CFG_TMO : Fld := ⟨0xF0210, 31, 16⟩
def SVC_RSL_CFG_MARGIN : Fld := ⟨0xF0210, 15, 0⟩
def SVC_SEAM_LO_BEAT : Fld := ⟨0xF0214, 31, 0⟩
def SVC_SEAM_HI_BEAT : Fld := ⟨0xF0218, 31, 0⟩
def SVC_SEAM_T_MAX : Fld := ⟨0xF021C, 31, 16⟩
def SVC_SEAM_T_LAST : Fld := ⟨0xF021C, 15, 0⟩
def SVC_CARRY_SAT : Fld := ⟨0xF0220, 31, 16⟩
def SVC_CARRY_DIRTY : Fld := ⟨0xF0220, 13, 0⟩
def SVC_MIGR_BUSY : Fld := ⟨0xF0224, 31, 31⟩
def SVC_MIGR_DONE : Fld := ⟨0xF0224, 30, 30⟩
def SVC_MIGR_RECORDS : Fld := ⟨0xF0224, 15, 0⟩
def SVC_ACT_VER_IMG_VER : Fld := ⟨0xF0228, 31, 0⟩
def SVC_STG_VER_IMG_VER : Fld := ⟨0xF022C, 31, 0⟩
def SVC_EVT_OTP_RETRY : Fld := ⟨0xF0010, 11, 11⟩
def SVC_EVT_BOOT_DONE : Fld := ⟨0xF0010, 10, 10⟩
def SVC_EVT_MIGR_DONE : Fld := ⟨0xF0010, 9, 9⟩
def SVC_EVT_RESOLE_DEFERRED : Fld := ⟨0xF0010, 8, 8⟩
def SVC_EVT_SEAM : Fld := ⟨0xF0010, 7, 7⟩
def SVC_EVT_IMG_REFUSED : Fld := ⟨0xF0010, 6, 6⟩
def SVC_EVT_IMG_VERIFIED : Fld := ⟨0xF0010, 5, 5⟩
def SVC_EVT_PACE : Fld := ⟨0xF0010, 4, 4⟩
def SVC_EVT_OTP_BURNED : Fld := ⟨0xF0010, 3, 3⟩
def SVC_EVT_AUTH_FAIL : Fld := ⟨0xF0010, 2, 2⟩
def SVC_EVT_SESSION : Fld := ⟨0xF0010, 1, 1⟩
def SVC_EVT_PFAIL : Fld := ⟨0xF0010, 0, 0⟩
def SVC_EVTEN_OTP_RETRY : Fld := ⟨0xF0014, 11, 11⟩
def SVC_EVTEN_BOOT_DONE : Fld := ⟨0xF0014, 10, 10⟩
def SVC_EVTEN_MIGR_DONE : Fld := ⟨0xF0014, 9, 9⟩
def SVC_EVTEN_RESOLE_DEFERRED : Fld := ⟨0xF0014, 8, 8⟩
def SVC_EVTEN_SEAM : Fld := ⟨0xF0014, 7, 7⟩
def SVC_EVTEN_IMG_REFUSED : Fld := ⟨0xF0014, 6, 6⟩
def SVC_EVTEN_IMG_VERIFIED : Fld := ⟨0xF0014, 5, 5⟩
def SVC_EVTEN_PACE : Fld := ⟨0xF0014, 4, 4⟩
def SVC_EVTEN_OTP_BURNED : Fld := ⟨0xF0014, 3, 3⟩
def SVC_EVTEN_AUTH_FAIL : Fld := ⟨0xF0014, 2, 2⟩
def SVC_EVTEN_SESSION : Fld := ⟨0xF0014, 1, 1⟩
def SVC_EVTEN_PFAIL : Fld := ⟨0xF0014, 0, 0⟩
def WKM_CTL_SCRUB_EN : Fld := ⟨0x50008, 0, 0⟩
def WKM_STAT_LOCKED_WR : Fld := ⟨0x5000C, 31, 31⟩
def WKM_STAT_POISON_N : Fld := ⟨0x5000C, 24, 16⟩
def WKM_STAT_SPARES : Fld := ⟨0x5000C, 8, 0⟩
def WKM_EVT_SPARE_OUT : Fld := ⟨0x50010, 5, 5⟩
def WKM_EVT_SCRUB_PASS : Fld := ⟨0x50010, 4, 4⟩
def WKM_EVT_POISONED : Fld := ⟨0x50010, 3, 3⟩
def WKM_EVT_SPARE_MAPPED : Fld := ⟨0x50010, 2, 2⟩
def WKM_EVT_UNCORR : Fld := ⟨0x50010, 1, 1⟩
def WKM_EVT_CORR : Fld := ⟨0x50010, 0, 0⟩
def WKM_EVTEN_SPARE_OUT : Fld := ⟨0x50014, 5, 5⟩
def WKM_EVTEN_SCRUB_PASS : Fld := ⟨0x50014, 4, 4⟩
def WKM_EVTEN_POISONED : Fld := ⟨0x50014, 3, 3⟩
def WKM_EVTEN_SPARE_MAPPED : Fld := ⟨0x50014, 2, 2⟩
def WKM_EVTEN_UNCORR : Fld := ⟨0x50014, 1, 1⟩
def WKM_EVTEN_CORR : Fld := ⟨0x50014, 0, 0⟩
def WKM_FLT_GROUP : Fld := ⟨0x50018, 31, 16⟩
def WKM_FLT_POISON_FULL : Fld := ⟨0x50018, 2, 2⟩
def WKM_FLT_SPARE_OUT : Fld := ⟨0x50018, 1, 1⟩
def WKM_FLT_POISONED : Fld := ⟨0x50018, 0, 0⟩
def WKM_SCRUB_PASSES : Fld := ⟨0x50040, 31, 16⟩
def WKM_SCRUB_NEXT : Fld := ⟨0x50040, 15, 0⟩
def WKM_WATCH_N : Fld := ⟨0x50044, 5, 0⟩
def WKM_PSEL_ENTRY : Fld := ⟨0x50048, 7, 0⟩
def WKM_PENT_VALID : Fld := ⟨0x5004C, 31, 31⟩
def WKM_PENT_GROUP : Fld := ⟨0x5004C, 15, 0⟩
def WKM_PMASK_MASK : Fld := ⟨0x50050, 31, 0⟩
def WKM_INJ_ADDR_GROUP : Fld := ⟨0x50060, 20, 5⟩
def WKM_INJ_ARM : Fld := ⟨0x50064, 31, 31⟩
def WKM_INJ_POS1 : Fld := ⟨0x50064, 21, 16⟩
def WKM_INJ_POS0 : Fld := ⟨0x50064, 13, 8⟩
def WKM_INJ_XOR : Fld := ⟨0x50064, 7, 0⟩
def WKM_SPARE_USED (b : Nat) : Fld := ⟨0x50080 + 0x4 * b, 4, 0⟩
def KEP_CTL_SCRUB_EN : Fld := ⟨0x60008, 0, 0⟩
def KEP_STAT_LOCKED_WR : Fld := ⟨0x6000C, 31, 31⟩
def KEP_STAT_THROTTLE : Fld := ⟨0x6000C, 4, 4⟩
def KEP_STAT_SEALED : Fld := ⟨0x6000C, 3, 3⟩
def KEP_STAT_SCAN_BUSY : Fld := ⟨0x6000C, 2, 2⟩
def KEP_STAT_KEEPING : Fld := ⟨0x6000C, 1, 1⟩
def KEP_STAT_RECOVERED : Fld := ⟨0x6000C, 0, 0⟩
def KEP_EVT_UNSEALED : Fld := ⟨0x60010, 8, 8⟩
def KEP_EVT_SEALED : Fld := ⟨0x60010, 7, 7⟩
def KEP_EVT_SPARE_MAPPED : Fld := ⟨0x60010, 6, 6⟩
def KEP_EVT_UNCORR : Fld := ⟨0x60010, 5, 5⟩
def KEP_EVT_CORR : Fld := ⟨0x60010, 4, 4⟩
def KEP_EVT_REC_REFUSED : Fld := ⟨0x60010, 3, 3⟩
def KEP_EVT_SCAN_DONE : Fld := ⟨0x60010, 2, 2⟩
def KEP_EVT_THROTTLE : Fld := ⟨0x60010, 1, 1⟩
def KEP_EVT_KEEP_DONE : Fld := ⟨0x60010, 0, 0⟩
def KEP_EVTEN_UNSEALED : Fld := ⟨0x60014, 8, 8⟩
def KEP_EVTEN_SEALED : Fld := ⟨0x60014, 7, 7⟩
def KEP_EVTEN_SPARE_MAPPED : Fld := ⟨0x60014, 6, 6⟩
def KEP_EVTEN_UNCORR : Fld := ⟨0x60014, 5, 5⟩
def KEP_EVTEN_CORR : Fld := ⟨0x60014, 4, 4⟩
def KEP_EVTEN_REC_REFUSED : Fld := ⟨0x60014, 3, 3⟩
def KEP_EVTEN_SCAN_DONE : Fld := ⟨0x60014, 2, 2⟩
def KEP_EVTEN_THROTTLE : Fld := ⟨0x60014, 1, 1⟩
def KEP_EVTEN_KEEP_DONE : Fld := ⟨0x60014, 0, 0⟩
def KEP_FLT_SPARE_OUT : Fld := ⟨0x60018, 3, 3⟩
def KEP_FLT_JOURNAL_LOST : Fld := ⟨0x60018, 2, 2⟩
def KEP_FLT_CODE_UNCORR : Fld := ⟨0x60018, 1, 1⟩
def KEP_FLT_TORN : Fld := ⟨0x60018, 0, 0⟩
def KEP_INTERVAL_INTERVAL : Fld := ⟨0x60040, 23, 0⟩
def KEP_INTERVAL_ACT_ACT : Fld := ⟨0x60044, 23, 0⟩
def KEP_WEAR_TARGET_YEARS : Fld := ⟨0x60048, 7, 0⟩
def KEP_KSEQ_KSEQ : Fld := ⟨0x6004C, 31, 0⟩
def KEP_KREC_SLOTS : Fld := ⟨0x60050, 31, 16⟩
def KEP_KREC_GROUPS : Fld := ⟨0x60050, 12, 0⟩
def KEP_JFREE_FREE : Fld := ⟨0x60054, 13, 0⟩
def KEP_WEAR_USED : Fld := ⟨0x60058, 31, 0⟩
def KEP_RWEAR_USED : Fld := ⟨0x6005C, 31, 0⟩
def KEP_BOOT_T_SCAN : Fld := ⟨0x60060, 31, 16⟩
def KEP_BOOT_T_RECOV : Fld := ⟨0x60060, 15, 0⟩
def KEP_VER_KEEP_VER : Fld := ⟨0x60064, 31, 0⟩
def KEP_SPARES_USED : Fld := ⟨0x60068, 5, 0⟩
def KEP_RLIVE_LIVE : Fld := ⟨0x6006C, 9, 0⟩
def KEP_RKEY_KEY (r : Nat) : Fld := ⟨0x61000 + 0x100 * r, 31, 0⟩
def KEP_RVER_VER (r : Nat) : Fld := ⟨0x61004 + 0x100 * r, 15, 0⟩
def KEP_RCMD_WR (r : Nat) : Fld := ⟨0x61008 + 0x100 * r, 31, 31⟩
def KEP_RCMD_RD (r : Nat) : Fld := ⟨0x61008 + 0x100 * r, 30, 30⟩
def KEP_RCMD_LEN (r : Nat) : Fld := ⟨0x61008 + 0x100 * r, 7, 0⟩
def KEP_RRESP_RESULT (r : Nat) : Fld := ⟨0x6100C + 0x100 * r, 31, 28⟩
def KEP_RRESP_LEN (r : Nat) : Fld := ⟨0x6100C + 0x100 * r, 23, 16⟩
def KEP_RRESP_VER (r : Nat) : Fld := ⟨0x6100C + 0x100 * r, 15, 0⟩
def KEP_RSEQ_SEQ (r : Nat) : Fld := ⟨0x61010 + 0x100 * r, 31, 0⟩
def KEP_RDATA_DATA (r : Nat) (k : Nat) : Fld := ⟨0x61020 + 0x100 * r + 4 * k, 31, 0⟩
def FLD_CTL_UTRIM_EN : Fld := ⟨0x70008, 0, 0⟩
def FLD_STAT_LOCKED_WR : Fld := ⟨0x7000C, 31, 31⟩
def FLD_STAT_CFG_REFUSED : Fld := ⟨0x7000C, 4, 4⟩
def FLD_STAT_RELEASED : Fld := ⟨0x7000C, 3, 3⟩
def FLD_STAT_DIE_DOWN : Fld := ⟨0x7000C, 2, 2⟩
def FLD_STAT_VF_UV : Fld := ⟨0x7000C, 1, 1⟩
def FLD_STAT_UTRIM_LOADED : Fld := ⟨0x7000C, 0, 0⟩
def FLD_EVT_UTRIM_LOADED : Fld := ⟨0x70010, 10, 10⟩
def FLD_EVT_SILENCE : Fld := ⟨0x70010, 9, 9⟩
def FLD_EVT_AI_FAULT : Fld := ⟨0x70010, 8, 8⟩
def FLD_EVT_COMPLIANCE : Fld := ⟨0x70010, 7, 7⟩
def FLD_EVT_OPEN : Fld := ⟨0x70010, 6, 6⟩
def FLD_EVT_THERMAL : Fld := ⟨0x70010, 5, 5⟩
def FLD_EVT_OVERLOAD : Fld := ⟨0x70010, 4, 4⟩
def FLD_EVT_VF_UV : Fld := ⟨0x70010, 3, 3⟩
def FLD_EVT_DIE_DOWN : Fld := ⟨0x70010, 2, 2⟩
def FLD_EVT_LINK_LASTING : Fld := ⟨0x70010, 1, 1⟩
def FLD_EVT_LINK_RETRY : Fld := ⟨0x70010, 0, 0⟩
def FLD_EVTEN_UTRIM_LOADED : Fld := ⟨0x70014, 10, 10⟩
def FLD_EVTEN_SILENCE : Fld := ⟨0x70014, 9, 9⟩
def FLD_EVTEN_AI_FAULT : Fld := ⟨0x70014, 8, 8⟩
def FLD_EVTEN_COMPLIANCE : Fld := ⟨0x70014, 7, 7⟩
def FLD_EVTEN_OPEN : Fld := ⟨0x70014, 6, 6⟩
def FLD_EVTEN_THERMAL : Fld := ⟨0x70014, 5, 5⟩
def FLD_EVTEN_OVERLOAD : Fld := ⟨0x70014, 4, 4⟩
def FLD_EVTEN_VF_UV : Fld := ⟨0x70014, 3, 3⟩
def FLD_EVTEN_DIE_DOWN : Fld := ⟨0x70014, 2, 2⟩
def FLD_EVTEN_LINK_LASTING : Fld := ⟨0x70014, 1, 1⟩
def FLD_EVTEN_LINK_RETRY : Fld := ⟨0x70014, 0, 0⟩
def FLD_FLT_CHANNEL : Fld := ⟨0x70018, 10, 8⟩
def FLD_FLT_CAUSE : Fld := ⟨0x70018, 2, 0⟩
def FLD_DIFLT_FLT (n : Nat) : Fld := ⟨0x70040 + 0x4 * n, 23, 0⟩
def FLD_DILIVE_DI : Fld := ⟨0x70048, 15, 0⟩
def FLD_DOCFG_PERIOD (n : Nat) : Fld := ⟨0x70050 + 0x4 * n, 31, 16⟩
def FLD_DOCFG_LATCH (n : Nat) : Fld := ⟨0x70050 + 0x4 * n, 2, 2⟩
def FLD_DOCFG_MODE (n : Nat) : Fld := ⟨0x70050 + 0x4 * n, 1, 0⟩
def FLD_DOSTAT_THERM : Fld := ⟨0x70070, 23, 16⟩
def FLD_DOSTAT_OVL : Fld := ⟨0x70070, 15, 8⟩
def FLD_DOSTAT_PIN : Fld := ⟨0x70070, 7, 0⟩
def FLD_DORESTART_RESTART : Fld := ⟨0x70074, 7, 0⟩
def FLD_AOCFG_RELOAD (n : Nat) : Fld := ⟨0x70080 + 0x10 * n, 6, 6⟩
def FLD_AOCFG_TRIM_SEL (n : Nat) : Fld := ⟨0x70080 + 0x10 * n, 5, 5⟩
def FLD_AOCFG_REACT (n : Nat) : Fld := ⟨0x70080 + 0x10 * n, 4, 4⟩
def FLD_AOCFG_ALM_OVR (n : Nat) : Fld := ⟨0x70080 + 0x10 * n, 3, 3⟩
def FLD_AOCFG_ALM_HI (n : Nat) : Fld := ⟨0x70080 + 0x10 * n, 2, 2⟩
def FLD_AOCFG_SRC (n : Nat) : Fld := ⟨0x70080 + 0x10 * n, 0, 0⟩
def FLD_AOSTAT_READBACK (n : Nat) : Fld := ⟨0x70084 + 0x10 * n, 31, 16⟩
def FLD_AOSTAT_UTRIM (n : Nat) : Fld := ⟨0x70084 + 0x10 * n, 4, 4⟩
def FLD_AOSTAT_ALARM_ACTIVE (n : Nat) : Fld := ⟨0x70084 + 0x10 * n, 3, 3⟩
def FLD_AOSTAT_HEAD_LOW (n : Nat) : Fld := ⟨0x70084 + 0x10 * n, 2, 2⟩
def FLD_AOSTAT_COMPLIANCE (n : Nat) : Fld := ⟨0x70084 + 0x10 * n, 1, 1⟩
def FLD_AOSTAT_OPEN (n : Nat) : Fld := ⟨0x70084 + 0x10 * n, 0, 0⟩
def FLD_AOHEAD_HEAD (n : Nat) : Fld := ⟨0x70088 + 0x10 * n, 15, 0⟩
def FLD_AOCMD_EFF (n : Nat) : Fld := ⟨0x7008C + 0x10 * n, 31, 16⟩
def FLD_AOCMD_CODE (n : Nat) : Fld := ⟨0x7008C + 0x10 * n, 15, 0⟩
def FLD_AICFG_EN (n : Nat) : Fld := ⟨0x700C0 + 0x4 * n, 2, 2⟩
def FLD_AICFG_AVG (n : Nat) : Fld := ⟨0x700C0 + 0x4 * n, 1, 0⟩
def FLD_AIVAL_Q (n : Nat) : Fld := ⟨0x700D0 + 0x4 * n, 23, 16⟩
def FLD_AIVAL_CODE (n : Nat) : Fld := ⟨0x700D0 + 0x4 * n, 15, 0⟩
def FLD_SILENCE_MS : Fld := ⟨0x700E0, 7, 0⟩
def FLD_VFIELD_MV : Fld := ⟨0x700E4, 15, 0⟩
def FLD_LINKCNT_RETRIES : Fld := ⟨0x700E8, 31, 16⟩
def FLD_LINKCNT_DOWNS : Fld := ⟨0x700E8, 15, 0⟩
def LOP_STAT_LOCKED_WR : Fld := ⟨0x8000C, 31, 31⟩
def LOP_STAT_CFG_REFUSED : Fld := ⟨0x8000C, 30, 30⟩
def LOP_STAT_ACTIVE : Fld := ⟨0x8000C, 6, 0⟩
def LOP_EVT_CFG_LOST : Fld := ⟨0x80010, 4, 4⟩
def LOP_EVT_FAULT : Fld := ⟨0x80010, 3, 3⟩
def LOP_EVT_SAT : Fld := ⟨0x80010, 2, 2⟩
def LOP_EVT_LATE : Fld := ⟨0x80010, 1, 1⟩
def LOP_EVT_PLAUS : Fld := ⟨0x80010, 0, 0⟩
def LOP_EVTEN_CFG_LOST : Fld := ⟨0x80014, 4, 4⟩
def LOP_EVTEN_FAULT : Fld := ⟨0x80014, 3, 3⟩
def LOP_EVTEN_SAT : Fld := ⟨0x80014, 2, 2⟩
def LOP_EVTEN_LATE : Fld := ⟨0x80014, 1, 1⟩
def LOP_EVTEN_PLAUS : Fld := ⟨0x80014, 0, 0⟩
def LOP_FLT_LOOP : Fld := ⟨0x80018, 13, 8⟩
def LOP_FLT_STATE : Fld := ⟨0x80018, 0, 0⟩
def LOP_PLAUS_LO_PLAUS : Fld := ⟨0x80040, 31, 0⟩
def LOP_PLAUS_HI_PLAUS : Fld := ⟨0x80044, 31, 0⟩
def LOP_QMAX_NS : Fld := ⟨0x80048, 31, 0⟩
def LOP_CFG_EN (n : Nat) : Fld := ⟨0x80100 + 0x40 * n, 31, 31⟩
def LOP_CFG_AUTO (n : Nat) : Fld := ⟨0x80100 + 0x40 * n, 30, 30⟩
def LOP_CFG_PV_SRC (n : Nat) : Fld := ⟨0x80100 + 0x40 * n, 29, 28⟩
def LOP_CFG_PV_CH (n : Nat) : Fld := ⟨0x80100 + 0x40 * n, 27, 26⟩
def LOP_CFG_SP_CAS (n : Nat) : Fld := ⟨0x80100 + 0x40 * n, 25, 25⟩
def LOP_CFG_DIR (n : Nat) : Fld := ⟨0x80100 + 0x40 * n, 24, 24⟩
def LOP_CFG_SP_LOOP (n : Nat) : Fld := ⟨0x80100 + 0x40 * n, 23, 18⟩
def LOP_CFG_DST (n : Nat) : Fld := ⟨0x80100 + 0x40 * n, 17, 16⟩
def LOP_CFG_DST_CH (n : Nat) : Fld := ⟨0x80100 + 0x40 * n, 15, 13⟩
def LOP_CFG_KSH (n : Nat) : Fld := ⟨0x80100 + 0x40 * n, 12, 10⟩
def LOP_CFG_PREACT (n : Nat) : Fld := ⟨0x80100 + 0x40 * n, 9, 8⟩
def LOP_PER_PERIOD (n : Nat) : Fld := ⟨0x80104 + 0x40 * n, 23, 0⟩
def LOP_KP_KD (n : Nat) : Fld := ⟨0x80108 + 0x40 * n, 31, 16⟩
def LOP_KP_KP (n : Nat) : Fld := ⟨0x80108 + 0x40 * n, 15, 0⟩
def LOP_KI_A (n : Nat) : Fld := ⟨0x8010C + 0x40 * n, 31, 16⟩
def LOP_KI_KI (n : Nat) : Fld := ⟨0x8010C + 0x40 * n, 15, 0⟩
def LOP_LIM_OUT_HI (n : Nat) : Fld := ⟨0x80110 + 0x40 * n, 31, 16⟩
def LOP_LIM_OUT_LO (n : Nat) : Fld := ⟨0x80110 + 0x40 * n, 15, 0⟩
def LOP_SP_MAN (n : Nat) : Fld := ⟨0x80114 + 0x40 * n, 31, 16⟩
def LOP_SP_SP (n : Nat) : Fld := ⟨0x80114 + 0x40 * n, 15, 0⟩
def LOP_IMG_OUT_OFS (n : Nat) : Fld := ⟨0x80118 + 0x40 * n, 31, 16⟩
def LOP_IMG_PV_OFS (n : Nat) : Fld := ⟨0x80118 + 0x40 * n, 15, 0⟩
def LOP_MOD_MG (n : Nat) : Fld := ⟨0x8011C + 0x40 * n, 31, 16⟩
def LOP_MOD_MA (n : Nat) : Fld := ⟨0x8011C + 0x40 * n, 15, 0⟩
def LOP_SUP_DEAD (n : Nat) : Fld := ⟨0x80120 + 0x40 * n, 31, 24⟩
def LOP_SUP_NLIM (n : Nat) : Fld := ⟨0x80120 + 0x40 * n, 23, 16⟩
def LOP_SUP_THR (n : Nat) : Fld := ⟨0x80120 + 0x40 * n, 15, 0⟩
def LOP_SAFE_SAFE (n : Nat) : Fld := ⟨0x80124 + 0x40 * n, 15, 0⟩
def LOP_INTL_I (n : Nat) : Fld := ⟨0x80128 + 0x40 * n, 31, 0⟩
def LOP_INTH_DF (n : Nat) : Fld := ⟨0x8012C + 0x40 * n, 31, 16⟩
def LOP_INTH_I (n : Nat) : Fld := ⟨0x8012C + 0x40 * n, 7, 0⟩
def LOP_PV_Y (n : Nat) : Fld := ⟨0x80130 + 0x40 * n, 31, 16⟩
def LOP_PV_PV (n : Nat) : Fld := ⟨0x80130 + 0x40 * n, 15, 0⟩
def LOP_OUT_GOOD (n : Nat) : Fld := ⟨0x80134 + 0x40 * n, 31, 16⟩
def LOP_OUT_OUT (n : Nat) : Fld := ⟨0x80134 + 0x40 * n, 15, 0⟩
def LOP_STS_PLAUSIBILITY (n : Nat) : Fld := ⟨0x80138 + 0x40 * n, 31, 31⟩
def LOP_STS_HELD (n : Nat) : Fld := ⟨0x80138 + 0x40 * n, 30, 30⟩
def LOP_STS_SATF (n : Nat) : Fld := ⟨0x80138 + 0x40 * n, 29, 29⟩
def LOP_STS_WARM (n : Nat) : Fld := ⟨0x80138 + 0x40 * n, 28, 28⟩
def LOP_STS_FAULT (n : Nat) : Fld := ⟨0x80138 + 0x40 * n, 27, 27⟩
def LOP_STS_CNT (n : Nat) : Fld := ⟨0x80138 + 0x40 * n, 23, 16⟩
def LOP_STS_LATE (n : Nat) : Fld := ⟨0x80138 + 0x40 * n, 15, 0⟩
def LOP_DLY_MAX (n : Nat) : Fld := ⟨0x8013C + 0x40 * n, 31, 16⟩
def LOP_DLY_LAST (n : Nat) : Fld := ⟨0x8013C + 0x40 * n, 15, 0⟩
def SAF_STAT_LOCKED_WR : Fld := ⟨0x9000C, 31, 31⟩
def SAF_STAT_RESET_REFUSED : Fld := ⟨0x9000C, 30, 30⟩
def SAF_STAT_CUTOFF_OPEN : Fld := ⟨0x9000C, 15, 15⟩
def SAF_STAT_UNCONFIRMED : Fld := ⟨0x9000C, 14, 14⟩
def SAF_STAT_PARAM_OK : Fld := ⟨0x9000C, 13, 13⟩
def SAF_STAT_LANE_OK : Fld := ⟨0x9000C, 12, 12⟩
def SAF_STAT_SQ : Fld := ⟨0x9000C, 11, 8⟩
def SAF_EVT_OP_NORET : Fld := ⟨0x90010, 12, 12⟩
def SAF_EVT_RESET : Fld := ⟨0x90010, 11, 11⟩
def SAF_EVT_PARAM : Fld := ⟨0x90010, 10, 10⟩
def SAF_EVT_LANE : Fld := ⟨0x90010, 9, 9⟩
def SAF_EVT_STUCK_ON : Fld := ⟨0x90010, 8, 8⟩
def SAF_EVT_DISC : Fld := ⟨0x90010, 7, 7⟩
def SAF_EVT_TP_FAULT : Fld := ⟨0x90010, 6, 6⟩
def SAF_EVT_ENC_FAULT : Fld := ⟨0x90010, 5, 5⟩
def SAF_EVT_SDI_VIOL : Fld := ⟨0x90010, 4, 4⟩
def SAF_EVT_SLP_VIOL : Fld := ⟨0x90010, 3, 3⟩
def SAF_EVT_SLS_VIOL : Fld := ⟨0x90010, 2, 2⟩
def SAF_EVT_SS1 : Fld := ⟨0x90010, 1, 1⟩
def SAF_EVT_STO : Fld := ⟨0x90010, 0, 0⟩
def SAF_EVTEN_OP_NORET : Fld := ⟨0x90014, 12, 12⟩
def SAF_EVTEN_RESET : Fld := ⟨0x90014, 11, 11⟩
def SAF_EVTEN_PARAM : Fld := ⟨0x90014, 10, 10⟩
def SAF_EVTEN_LANE : Fld := ⟨0x90014, 9, 9⟩
def SAF_EVTEN_STUCK_ON : Fld := ⟨0x90014, 8, 8⟩
def SAF_EVTEN_DISC : Fld := ⟨0x90014, 7, 7⟩
def SAF_EVTEN_TP_FAULT : Fld := ⟨0x90014, 6, 6⟩
def SAF_EVTEN_ENC_FAULT : Fld := ⟨0x90014, 5, 5⟩
def SAF_EVTEN_SDI_VIOL : Fld := ⟨0x90014, 4, 4⟩
def SAF_EVTEN_SLP_VIOL : Fld := ⟨0x90014, 3, 3⟩
def SAF_EVTEN_SLS_VIOL : Fld := ⟨0x90014, 2, 2⟩
def SAF_EVTEN_SS1 : Fld := ⟨0x90014, 1, 1⟩
def SAF_EVTEN_STO : Fld := ⟨0x90014, 0, 0⟩
def SAF_FLT_WHERE : Fld := ⟨0x90018, 11, 8⟩
def SAF_FLT_CAUSE : Fld := ⟨0x90018, 3, 0⟩
def SAF_REQ_SDI : Fld := ⟨0x90040, 11, 10⟩
def SAF_REQ_SLP : Fld := ⟨0x90040, 9, 8⟩
def SAF_REQ_SLS1 : Fld := ⟨0x90040, 7, 6⟩
def SAF_REQ_SLS0 : Fld := ⟨0x90040, 5, 4⟩
def SAF_REQ_SS1 : Fld := ⟨0x90040, 3, 2⟩
def SAF_REQ_STO : Fld := ⟨0x90040, 1, 0⟩
def SAF_SI_TPF : Fld := ⟨0x90044, 23, 16⟩
def SAF_SI_RAW : Fld := ⟨0x90044, 15, 8⟩
def SAF_SI_FILT : Fld := ⟨0x90044, 7, 0⟩
def SAF_AX_STATE (a : Nat) : Fld := ⟨0x90048 + 0x4 * a, 31, 29⟩
def SAF_AX_ACT (a : Nat) : Fld := ⟨0x90048 + 0x4 * a, 28, 26⟩
def SAF_AX_ENC_OK (a : Nat) : Fld := ⟨0x90048 + 0x4 * a, 25, 25⟩
def SAF_AX_SLS_IDX (a : Nat) : Fld := ⟨0x90048 + 0x4 * a, 21, 20⟩
def SAF_AX_CAUSE (a : Nat) : Fld := ⟨0x90048 + 0x4 * a, 19, 16⟩
def SAF_AX_SPEED (a : Nat) : Fld := ⟨0x90048 + 0x4 * a, 15, 0⟩
def SAF_POS_P (a : Nat) : Fld := ⟨0x90050 + 0x4 * a, 31, 0⟩
def SAF_DEV_DEV (a : Nat) : Fld := ⟨0x90058 + 0x4 * a, 31, 0⟩
def SAF_OP_PASSES : Fld := ⟨0x90060, 31, 16⟩
def SAF_OP_RETRY : Fld := ⟨0x90060, 11, 8⟩
def SAF_OP_READBACK : Fld := ⟨0x90060, 3, 0⟩
def SAF_SIG_SSIG : Fld := ⟨0x90064, 31, 0⟩
def SAF_CONFIRM_SSIG : Fld := ⟨0x90068, 31, 0⟩
def SAF_CSIG_SSIG : Fld := ⟨0x9006C, 31, 0⟩
def SAF_RESET_RESET : Fld := ⟨0x90070, 0, 0⟩
def SAF_LANE_BAD : Fld := ⟨0x90074, 31, 16⟩
def SAF_LANE_LASTING : Fld := ⟨0x90074, 15, 0⟩
def SAF_RESP_MAX : Fld := ⟨0x90078, 31, 16⟩
def SAF_RESP_LAST : Fld := ⟨0x90078, 15, 0⟩
def CAN_CTL_RECOVER : Fld := ⟨0xA0008, 9, 8⟩
def CAN_CTL_INIT : Fld := ⟨0xA0008, 1, 0⟩
def CAN_STAT_LOCKED_WR : Fld := ⟨0xA000C, 31, 31⟩
def CAN_STAT_CFG_REFUSED : Fld := ⟨0xA000C, 30, 30⟩
def CAN_STAT_LISTEN_ONLY : Fld := ⟨0xA000C, 3, 2⟩
def CAN_STAT_ACTIVE : Fld := ⟨0xA000C, 1, 0⟩
def CAN_EVT_OBJ_FAULT (c : Nat) : Fld := ⟨0xA0010, 8 * c + 7, 8 * c + 7⟩
def CAN_EVT_TT_MASTER (c : Nat) : Fld := ⟨0xA0010, 8 * c + 6, 8 * c + 6⟩
def CAN_EVT_TT_REF_MISS (c : Nat) : Fld := ⟨0xA0010, 8 * c + 5, 8 * c + 5⟩
def CAN_EVT_RECOVERED (c : Nat) : Fld := ⟨0xA0010, 8 * c + 4, 8 * c + 4⟩
def CAN_EVT_BUS_OFF (c : Nat) : Fld := ⟨0xA0010, 8 * c + 3, 8 * c + 3⟩
def CAN_EVT_ERR_PASSIVE (c : Nat) : Fld := ⟨0xA0010, 8 * c + 2, 8 * c + 2⟩
def CAN_EVT_RX_OVR (c : Nat) : Fld := ⟨0xA0010, 8 * c + 1, 8 * c + 1⟩
def CAN_EVT_TXOK (c : Nat) : Fld := ⟨0xA0010, 8 * c + 0, 8 * c + 0⟩
def CAN_EVTEN_OBJ_FAULT (c : Nat) : Fld := ⟨0xA0014, 8 * c + 7, 8 * c + 7⟩
def CAN_EVTEN_TT_MASTER (c : Nat) : Fld := ⟨0xA0014, 8 * c + 6, 8 * c + 6⟩
def CAN_EVTEN_TT_REF_MISS (c : Nat) : Fld := ⟨0xA0014, 8 * c + 5, 8 * c + 5⟩
def CAN_EVTEN_RECOVERED (c : Nat) : Fld := ⟨0xA0014, 8 * c + 4, 8 * c + 4⟩
def CAN_EVTEN_BUS_OFF (c : Nat) : Fld := ⟨0xA0014, 8 * c + 3, 8 * c + 3⟩
def CAN_EVTEN_ERR_PASSIVE (c : Nat) : Fld := ⟨0xA0014, 8 * c + 2, 8 * c + 2⟩
def CAN_EVTEN_RX_OVR (c : Nat) : Fld := ⟨0xA0014, 8 * c + 1, 8 * c + 1⟩
def CAN_EVTEN_TXOK (c : Nat) : Fld := ⟨0xA0014, 8 * c + 0, 8 * c + 0⟩
def CAN_FLT_CTRL : Fld := ⟨0xA0018, 8, 8⟩
def CAN_FLT_OBJ : Fld := ⟨0xA0018, 6, 0⟩
def CAN_CFG_FD_EN (c : Nat) : Fld := ⟨0xA0040 + 0x40 * c, 31, 31⟩
def CAN_CFG_LISTEN (c : Nat) : Fld := ⟨0xA0040 + 0x40 * c, 30, 30⟩
def CAN_CFG_RETX (c : Nat) : Fld := ⟨0xA0040 + 0x40 * c, 29, 28⟩
def CAN_CFG_TT_MODE (c : Nat) : Fld := ⟨0xA0040 + 0x40 * c, 27, 26⟩
def CAN_CFG_TT_GTSYNC (c : Nat) : Fld := ⟨0xA0040 + 0x40 * c, 25, 25⟩
def CAN_CFG_TT_PRIO (c : Nat) : Fld := ⟨0xA0040 + 0x40 * c, 24, 22⟩
def CAN_CFG_NCYC_M1 (c : Nat) : Fld := ⟨0xA0040 + 0x40 * c, 5, 0⟩
def CAN_NBT_NBRP_M1 (c : Nat) : Fld := ⟨0xA0044 + 0x40 * c, 31, 24⟩
def CAN_NBT_NTSEG1_M1 (c : Nat) : Fld := ⟨0xA0044 + 0x40 * c, 23, 16⟩
def CAN_NBT_NTSEG2_M1 (c : Nat) : Fld := ⟨0xA0044 + 0x40 * c, 14, 8⟩
def CAN_NBT_NSJW_M1 (c : Nat) : Fld := ⟨0xA0044 + 0x40 * c, 6, 0⟩
def CAN_DBT_DBRP_M1 (c : Nat) : Fld := ⟨0xA0048 + 0x40 * c, 28, 24⟩
def CAN_DBT_DTSEG1_M1 (c : Nat) : Fld := ⟨0xA0048 + 0x40 * c, 20, 16⟩
def CAN_DBT_DTSEG2_M1 (c : Nat) : Fld := ⟨0xA0048 + 0x40 * c, 11, 8⟩
def CAN_DBT_DSJW_M1 (c : Nat) : Fld := ⟨0xA0048 + 0x40 * c, 3, 0⟩
def CAN_TDC_TDC_EN (c : Nat) : Fld := ⟨0xA004C + 0x40 * c, 15, 15⟩
def CAN_TDC_TDCO (c : Nat) : Fld := ⟨0xA004C + 0x40 * c, 14, 8⟩
def CAN_TDC_TDCV (c : Nat) : Fld := ⟨0xA004C + 0x40 * c, 7, 0⟩
def CAN_ERR_STATE (c : Nat) : Fld := ⟨0xA0050 + 0x40 * c, 31, 30⟩
def CAN_ERR_TEC (c : Nat) : Fld := ⟨0xA0050 + 0x40 * c, 24, 16⟩
def CAN_ERR_REC (c : Nat) : Fld := ⟨0xA0050 + 0x40 * c, 8, 0⟩
def CAN_BUS_LAST_ERR (c : Nat) : Fld := ⟨0xA0054 + 0x40 * c, 31, 28⟩
def CAN_BUS_RSEQ (c : Nat) : Fld := ⟨0xA0054 + 0x40 * c, 7, 0⟩
def CAN_TTCYC_CYCLE (c : Nat) : Fld := ⟨0xA0058 + 0x40 * c, 23, 0⟩
def CAN_TTPH_PHASE (c : Nat) : Fld := ⟨0xA005C + 0x40 * c, 23, 0⟩
def CAN_TTREF_REF_ID (c : Nat) : Fld := ⟨0xA0060 + 0x40 * c, 28, 18⟩
def CAN_TTSTAT_ROLE (c : Nat) : Fld := ⟨0xA0064 + 0x40 * c, 31, 30⟩
def CAN_TTSTAT_CYCCNT (c : Nat) : Fld := ⟨0xA0064 + 0x40 * c, 21, 16⟩
def CAN_TTSTAT_MISSES (c : Nat) : Fld := ⟨0xA0064 + 0x40 * c, 15, 0⟩
def CAN_CMD_OP (c : Nat) : Fld := ⟨0xA0068 + 0x40 * c, 31, 30⟩
def CAN_CMD_OBJ (c : Nat) : Fld := ⟨0xA0068 + 0x40 * c, 6, 0⟩
def CAN_RXSEQ_RXSEQ (c : Nat) : Fld := ⟨0xA006C + 0x40 * c, 15, 0⟩
def WDG_CTL_SRC_RC : Fld := ⟨0xB0008, 1, 1⟩
def WDG_CTL_CHKIN_EN : Fld := ⟨0xB0008, 0, 0⟩
def WDG_STAT_LOCKED_WR : Fld := ⟨0xB000C, 31, 31⟩
def WDG_STAT_STATE : Fld := ⟨0xB000C, 19, 17⟩
def WDG_STAT_BAD_VALUE : Fld := ⟨0xB000C, 16, 16⟩
def WDG_STAT_DUP : Fld := ⟨0xB000C, 15, 0⟩
def WDG_EVT_FAULT : Fld := ⟨0xB0010, 3, 3⟩
def WDG_EVT_DUP : Fld := ⟨0xB0010, 2, 2⟩
def WDG_EVT_CHKIN : Fld := ⟨0xB0010, 1, 1⟩
def WDG_EVT_SERVICED : Fld := ⟨0xB0010, 0, 0⟩
def WDG_EVTEN_FAULT : Fld := ⟨0xB0014, 3, 3⟩
def WDG_EVTEN_DUP : Fld := ⟨0xB0014, 2, 2⟩
def WDG_EVTEN_CHKIN : Fld := ⟨0xB0014, 1, 1⟩
def WDG_EVTEN_SERVICED : Fld := ⟨0xB0014, 0, 0⟩
def WDG_FLT_CAUSE : Fld := ⟨0xB0018, 3, 0⟩
def WDG_SVC_KEY : Fld := ⟨0xB0040, 31, 0⟩
def WDG_PERIOD_PERIOD : Fld := ⟨0xB0044, 23, 0⟩
def WDG_OPEN_OPEN : Fld := ⟨0xB0048, 23, 0⟩
def WDG_MASK_CHK : Fld := ⟨0xB004C, 31, 16⟩
def WDG_MASK_EXP : Fld := ⟨0xB004C, 15, 0⟩
def WDG_ELAPSED_US : Fld := ⟨0xB0058, 23, 0⟩
def WDG_LSVC_LO_TB : Fld := ⟨0xB005C, 31, 0⟩
def WDG_LSVC_HI_TB : Fld := ⟨0xB0060, 31, 0⟩
def WDG_EV0_DUP : Fld := ⟨0xB0064, 31, 16⟩
def WDG_EV0_EXP : Fld := ⟨0xB0064, 15, 0⟩
def WDG_EV1_ACTIVE : Fld := ⟨0xB0068, 31, 16⟩
def WDG_EV1_CHK : Fld := ⟨0xB0068, 15, 0⟩
def WDG_RATIO_FAULTS : Fld := ⟨0xB006C, 31, 16⟩
def WDG_RATIO_RC : Fld := ⟨0xB006C, 10, 0⟩
def WDG_PC_PC (n : Nat) : Fld := ⟨0xB0080 + 0x4 * n, 31, 0⟩
def REC_STAT_LOCKED_WR : Fld := ⟨0xC000C, 31, 31⟩
def REC_STAT_ORD_FULL : Fld := ⟨0xC000C, 2, 2⟩
def REC_STAT_PRIV_CIRC : Fld := ⟨0xC000C, 1, 1⟩
def REC_STAT_SCANNING : Fld := ⟨0xC000C, 0, 0⟩
def REC_EVT_UNREADABLE : Fld := ⟨0xC0010, 4, 4⟩
def REC_EVT_LOST : Fld := ⟨0xC0010, 3, 3⟩
def REC_EVT_ORD_FULL : Fld := ⟨0xC0010, 2, 2⟩
def REC_EVT_PRIV : Fld := ⟨0xC0010, 1, 1⟩
def REC_EVT_ENTRY : Fld := ⟨0xC0010, 0, 0⟩
def REC_EVTEN_UNREADABLE : Fld := ⟨0xC0014, 4, 4⟩
def REC_EVTEN_LOST : Fld := ⟨0xC0014, 3, 3⟩
def REC_EVTEN_ORD_FULL : Fld := ⟨0xC0014, 2, 2⟩
def REC_EVTEN_PRIV : Fld := ⟨0xC0014, 1, 1⟩
def REC_EVTEN_ENTRY : Fld := ⟨0xC0014, 0, 0⟩
def REC_FLT_UNREADABLE : Fld := ⟨0xC0018, 0, 0⟩
def REC_HEAD_SEQ : Fld := ⟨0xC0040, 31, 0⟩
def REC_ORD_N_N : Fld := ⟨0xC0044, 11, 0⟩
def REC_PNEXT_SLOT : Fld := ⟨0xC0048, 9, 0⟩
def REC_LOST_ORD_LOST : Fld := ⟨0xC004C, 31, 0⟩
def REC_QUEUE_N : Fld := ⟨0xC0050, 5, 0⟩
def REC_RPTWIN_MS : Fld := ⟨0xC0054, 15, 0⟩
def REC_LOST_LOST (s : Nat) : Fld := ⟨0xC0100 + 0x4 * s, 15, 0⟩
def TAL_CTL_SNAP : Fld := ⟨0xD0008, 1, 1⟩
def TAL_CTL_BEAT_SNAP : Fld := ⟨0xD0008, 0, 0⟩
def TAL_STAT_LOCKED_WR : Fld := ⟨0xD000C, 31, 31⟩
def TAL_STAT_SFULL : Fld := ⟨0xD000C, 9, 9⟩
def TAL_STAT_SAMPLES : Fld := ⟨0xD000C, 8, 0⟩
def TAL_EVT_SNAP : Fld := ⟨0xD0010, 2, 2⟩
def TAL_EVT_SFULL : Fld := ⟨0xD0010, 1, 1⟩
def TAL_EVT_OVF : Fld := ⟨0xD0010, 0, 0⟩
def TAL_EVTEN_SNAP : Fld := ⟨0xD0014, 2, 2⟩
def TAL_EVTEN_SFULL : Fld := ⟨0xD0014, 1, 1⟩
def TAL_EVTEN_OVF : Fld := ⟨0xD0014, 0, 0⟩
def TAL_SNAPSEQ_SEQ : Fld := ⟨0xD0040, 31, 0⟩
def TAL_OVF_LO_OVF : Fld := ⟨0xD0060, 31, 0⟩
def TAL_OVF_HI_OVF : Fld := ⟨0xD0064, 31, 0⟩
def TAL_OVF_P_BEAT : Fld := ⟨0xD0068, 8, 8⟩
def TAL_OVF_P_PROG : Fld := ⟨0xD0068, 7, 0⟩
def TAL_SCTL_MODE : Fld := ⟨0xD0070, 31, 30⟩
def TAL_SCTL_FREEZE : Fld := ⟨0xD0070, 29, 29⟩
def TAL_SCTL_EVENT : Fld := ⟨0xD0070, 27, 16⟩
def TAL_SCTL_N_M1 : Fld := ⟨0xD0070, 15, 0⟩
def TAL_SNEXT_ENTRY : Fld := ⟨0xD0074, 7, 0⟩
def TAL_BWWIN_US : Fld := ⟨0xD0078, 19, 0⟩
def TAL_PSEL_EVENT (k : Nat) : Fld := ⟨0xD0080 + 0x10 * k, 11, 0⟩
def TAL_PCNT_HI_CNT (k : Nat) : Fld := ⟨0xD0088 + 0x10 * k, 15, 0⟩
def TAL_BW_TX_BYTES (p : Nat) : Fld := ⟨0xD0100 + 0x8 * p, 31, 0⟩
def TAL_BW_RX_BYTES (p : Nat) : Fld := ⟨0xD0104 + 0x8 * p, 31, 0⟩
def TAL_L_HI_CNT (b : Nat) (i : Nat) : Fld := ⟨0xD0204 + 0x20 * b + 0x8 * i, 15, 0⟩
def TAL_SBEAT_LO_BEAT : Fld := ⟨0xD0640, 31, 0⟩
def TAL_SBEAT_HI_BEAT : Fld := ⟨0xD0644, 15, 0⟩
def TAL_STB_LO_TB : Fld := ⟨0xD0648, 31, 0⟩
def TAL_STB_HI_TB : Fld := ⟨0xD064C, 31, 0⟩
def TAL_SMP_PC_PC (e : Nat) : Fld := ⟨0xD0800 + 0x10 * e, 31, 0⟩
def TAL_SMP_INFO_TRAIN (e : Nat) : Fld := ⟨0xD0804 + 0x10 * e, 31, 30⟩
def TAL_SMP_INFO_TASK (e : Nat) : Fld := ⟨0xD0804 + 0x10 * e, 29, 26⟩
def TAL_SMP_INFO_SID (e : Nat) : Fld := ⟨0xD0804 + 0x10 * e, 25, 14⟩
def TAL_SMP_INFO_LETDOWN (e : Nat) : Fld := ⟨0xD0804 + 0x10 * e, 13, 13⟩
def TAL_SMP_LAT_LATENCY (e : Nat) : Fld := ⟨0xD0808 + 0x10 * e, 31, 0⟩
def TAL_SMP_TB_TB (e : Nat) : Fld := ⟨0xD080C + 0x10 * e, 31, 0⟩
def HST_CTL_BEATDIV : Fld := ⟨0xE0008, 15, 8⟩
def HST_CTL_HOLD : Fld := ⟨0xE0008, 0, 0⟩
def HST_STAT_LOCKED_WR : Fld := ⟨0xE000C, 31, 31⟩
def HST_STAT_BUS_MASTER : Fld := ⟨0xE000C, 5, 5⟩
def HST_STAT_MSIX_EN : Fld := ⟨0xE000C, 4, 4⟩
def HST_STAT_SPEED : Fld := ⟨0xE000C, 3, 2⟩
def HST_STAT_LINK_UP : Fld := ⟨0xE000C, 1, 1⟩
def HST_STAT_HELD : Fld := ⟨0xE000C, 0, 0⟩
def HST_EVT_PERST : Fld := ⟨0xE0010, 3, 3⟩
def HST_EVT_LINK_DOWN : Fld := ⟨0xE0010, 2, 2⟩
def HST_EVT_LINK_UP : Fld := ⟨0xE0010, 1, 1⟩
def HST_EVT_UNMAPPED : Fld := ⟨0xE0010, 0, 0⟩
def HST_EVTEN_PERST : Fld := ⟨0xE0014, 3, 3⟩
def HST_EVTEN_LINK_DOWN : Fld := ⟨0xE0014, 2, 2⟩
def HST_EVTEN_LINK_UP : Fld := ⟨0xE0014, 1, 1⟩
def HST_EVTEN_UNMAPPED : Fld := ⟨0xE0014, 0, 0⟩
def HST_FLT_BUS : Fld := ⟨0xE0018, 1, 1⟩
def HST_FLT_UNMAPPED : Fld := ⟨0xE0018, 0, 0⟩
def HST_DOORBELL_BELL : Fld := ⟨0xE0040, 7, 0⟩
def HST_HELD_BEATS : Fld := ⟨0xE0044, 31, 0⟩
def HST_IDS_DEVICE : Fld := ⟨0xE0048, 31, 16⟩
def HST_IDS_VENDOR : Fld := ⟨0xE0048, 15, 0⟩
def HST_MSIX_ALO_ADDR (v : Nat) : Fld := ⟨0xE1000 + 0x10 * v, 31, 2⟩
def HST_MSIX_VC_MASK (v : Nat) : Fld := ⟨0xE100C + 0x10 * v, 0, 0⟩
def HST_PBA_PEND : Fld := ⟨0xE1200, 31, 0⟩
def SVC_STAT_LOCKED_WR : Fld := ⟨0xF000C, 31, 31⟩
def SVC_STAT_STATE : Fld := ⟨0xF000C, 10, 8⟩
def SVC_STAT_TEST_EN : Fld := ⟨0xF000C, 4, 4⟩
def SVC_STAT_WARN : Fld := ⟨0xF000C, 3, 3⟩
def SVC_STAT_SESSION : Fld := ⟨0xF000C, 2, 2⟩
def SVC_STAT_BURNING : Fld := ⟨0xF000C, 1, 1⟩
def SVC_STAT_DEFAULTS : Fld := ⟨0xF000C, 0, 0⟩
def SVC_FLT_CAUSE : Fld := ⟨0xF0018, 3, 0⟩
def SVC_DEVID_ID (n : Nat) : Fld := ⟨0xF0040 + 0x4 * n, 31, 0⟩
def SVC_OTP_USED : Fld := ⟨0xF0050, 23, 16⟩
def SVC_OTP_FMT : Fld := ⟨0xF0050, 11, 8⟩
def SVC_OTP_GEN : Fld := ⟨0xF0050, 3, 0⟩
def SVC_KEYS_REVOKED : Fld := ⟨0xF0054, 7, 4⟩
def SVC_KEYS_BURNED : Fld := ⟨0xF0054, 3, 0⟩
def SVC_SESS_FAILS : Fld := ⟨0xF0058, 31, 16⟩
def SVC_SESS_SEQ : Fld := ⟨0xF0058, 15, 0⟩
def SVC_BOOT_T_US : Fld := ⟨0xF0060, 31, 0⟩
def SVC_FIRST_T_US : Fld := ⟨0xF0064, 31, 0⟩
def SVC_PWR_WARNINGS : Fld := ⟨0xF0300, 31, 16⟩
def SVC_PWR_VIO : Fld := ⟨0xF0300, 15, 0⟩

end Sys2Proof.Machine.F
end

