-- ==== Sys2Proof/Machine/RegTable.lean ====
section
/-! DEFINITION. The access codes and reset words of every block-specific register (Tables 0.7, 17.1, 17.3, 17.4 and
the register tables of the chapters).  A row covers `count` registers `stride` bytes apart, each `words` words long;
the four masks say which bits the codes RW, RWL, W1C and WO cover, every other bit is RO, RWS or reserved. -/

namespace Sys2Proof.Machine.RegTable

/-- The MOV page (block 0). -/
def pageMOV : List RegRow :=
  [⟨0x8, 0x4, 1, 1, 0x0, 0x10B, 0x0, 0x0, 0x103⟩ /- MOV_CTL -/,
   ⟨0xC, 0x4, 1, 1, 0x0, 0x0, 0x80000000, 0x0, 0x0⟩ /- MOV_STAT -/,
   ⟨0x10, 0x4, 1, 1, 0x0, 0x0, 0x1F, 0x0, 0x0⟩ /- MOV_EVT -/,
   ⟨0x14, 0x4, 1, 1, 0x1F, 0x0, 0x0, 0x0, 0x0⟩ /- MOV_EVTEN -/,
   ⟨0x18, 0x4, 1, 1, 0x0, 0x0, 0x0, 0x0, 0x0⟩ /- MOV_FLT -/,
   ⟨0x40, 0x4, 4, 1, 0x0, 0x0, 0x0, 0x0, 0x0⟩ /- MOV_TRAIN -/,
   ⟨0x50, 0x4, 1, 1, 0x0, 0x0, 0x0, 0x0, 0x0⟩ /- MOV_TRAP_PC -/,
   ⟨0x54, 0x4, 1, 1, 0x0, 0x0, 0x0, 0x0, 0x0⟩ /- MOV_TRAP_INFO -/,
   ⟨0x58, 0x4, 1, 1, 0x0, 0x0, 0x0, 0x0, 0x0⟩ /- MOV_FP_BASE -/,
   ⟨0x5C, 0x4, 1, 1, 0x0, 0x0, 0x0, 0x0, 0x0⟩ /- MOV_FP_CNT -/,
   ⟨0x60, 0x4, 1, 1, 0x0, 0x0, 0x0, 0x0, 0x0⟩ /- MOV_CPX_ID -/,
   ⟨0x64, 0x4, 1, 1, 0x0, 0x0, 0x0, 0x0, 0x0⟩ /- MOV_CPX_PRES -/,
   ⟨0x68, 0x4, 1, 1, 0x0, 0x0, 0x0, 0x0, 0x0⟩ /- MOV_CPX_TRAP -/,
   ⟨0x6C, 0x4, 1, 1, 0x0, 0x0, 0x0, 0x0, 0x0⟩ /- MOV_CPX_STAGED -/]

/-- The ESC page (block 1). -/
def pageESC : List RegRow :=
  [⟨0x8, 0x4, 1, 1, 0x0, 0x0, 0x0, 0x0, 0x10190000⟩ /- ESC_CTL -/,
   ⟨0xC, 0x4, 1, 1, 0x0, 0x0, 0x80000000, 0x0, 0x100000⟩ /- ESC_STAT -/,
   ⟨0x10, 0x4, 1, 1, 0x0, 0x0, 0x7F, 0x0, 0x0⟩ /- ESC_EVT -/,
   ⟨0x14, 0x4, 1, 1, 0x7F, 0x0, 0x0, 0x0, 0x0⟩ /- ESC_EVTEN -/,
   ⟨0x18, 0x4, 1, 1, 0x0, 0x0, 0x0, 0x0, 0x0⟩ /- ESC_FLT -/,
   ⟨0x40, 0x4, 1, 1, 0x0, 0x0, 0x0, 0x0, 0x0⟩ /- ESC_BEAT -/,
   ⟨0x44, 0x4, 1, 1, 0x0, 0x0, 0x0, 0x0, 0x0⟩ /- ESC_BNUM_LO -/,
   ⟨0x48, 0x4, 1, 1, 0x0, 0x0, 0x0, 0x0, 0x0⟩ /- ESC_BNUM_HI -/,
   ⟨0x4C, 0x4, 1, 1, 0x0, 0x0, 0x0, 0x0, 0x0⟩ /- ESC_RSV -/,
   ⟨0x50, 0x4, 1, 1, 0x0, 0x0, 0x0, 0x0, 0xFFFFFFFF⟩ /- ESC_RSV_MIN -/,
   ⟨0x54, 0x4, 1, 1, 0x0, 0x0, 0x0, 0x0, 0x0⟩ /- ESC_PACE -/,
   ⟨0x58, 0x4, 1, 1, 0x0, 0x0, 0x0, 0x0, 0x0⟩ /- ESC_ALERT_PEND -/,
   ⟨0x5C, 0x4, 1, 1, 0x0, 0x0, 0x0, 0x0, 0x0⟩ /- ESC_KEEPS -/,
   ⟨0x60, 0x4, 1, 1, 0xFFFFFFFF, 0x0, 0x0, 0x0, 0x0⟩ /- ESC_RSV_WARN -/,
   ⟨0x100, 0x20, 16, 1, 0x0, 0x0, 0x0, 0x0, 0x0⟩ /- ESC_TCFG -/,
   ⟨0x104, 0x20, 16, 1, 0x0, 0x0, 0x0, 0x0, 0x0⟩ /- ESC_TPH -/,
   ⟨0x108, 0x20, 16, 1, 0x0, 0x0, 0x0, 0x0, 0x0⟩ /- ESC_TVIEW -/,
   ⟨0x10C, 0x20, 16, 1, 0x0, 0x0, 0x0, 0x0, 0x0⟩ /- ESC_TSTAT -/,
   ⟨0x110, 0x20, 16, 1, 0x0, 0x0, 0x0, 0x0, 0x0⟩ /- ESC_TCYC -/,
   ⟨0x114, 0x20, 16, 1, 0x0, 0x0, 0x0, 0x0, 0x0⟩ /- ESC_TSLK -/,
   ⟨0x118, 0x20, 16, 1, 0x0, 0x0, 0x0, 0x0, 0xFFFFFFFF⟩ /- ESC_TSLKMIN -/,
   ⟨0x11C, 0x20, 16, 1, 0x0, 0x0, 0x0, 0x0, 0x0⟩ /- ESC_TOVR -/]

/-- The REG page (block 2). -/
def pageREG : List RegRow :=
  [⟨0x8, 0x4, 1, 1, 0x4, 0x3, 0x0, 0x0, 0x1⟩ /- REG_CTL -/,
   ⟨0xC, 0x4, 1, 1, 0x0, 0x0, 0x80000000, 0x0, 0x0⟩ /- REG_STAT -/,
   ⟨0x10, 0x4, 1, 1, 0x0, 0x0, 0x7F, 0x0, 0x0⟩ /- REG_EVT -/,
   ⟨0x14, 0x4, 1, 1, 0x7F, 0x0, 0x0, 0x0, 0x0⟩ /- REG_EVTEN -/,
   ⟨0x18, 0x4, 1, 1, 0x0, 0x0, 0x0, 0x0, 0x0⟩ /- REG_FLT -/,
   ⟨0x40, 0x4, 1, 1, 0x0, 0x0, 0x0, 0x0, 0x0⟩ /- REG_TB_LO -/,
   ⟨0x44, 0x4, 1, 1, 0x0, 0x0, 0x0, 0x0, 0x0⟩ /- REG_TB_HI -/,
   ⟨0x48, 0x4, 1, 1, 0x0, 0xFFFF, 0x0, 0x0, 0x0⟩ /- REG_TRIM -/,
   ⟨0x4C, 0x4, 1, 1, 0x0, 0x0, 0x0, 0x0, 0x0⟩ /- REG_GT_OFS -/,
   ⟨0x50, 0x4, 1, 1, 0x0, 0x0, 0x0, 0x0, 0x0⟩ /- REG_GT_DELAY -/,
   ⟨0x54, 0x4, 1, 1, 0x0, 0x0, 0x0, 0x0, 0x0⟩ /- REG_GT_STEER -/,
   ⟨0x58, 0x4, 1, 1, 0x0, 0x0, 0x0, 0x0, 0x0⟩ /- REG_GT_SAMPLES -/,
   ⟨0x60, 0x4, 1, 1, 0xFFF, 0x0, 0x0, 0x0, 0x0⟩ /- REG_SLOT_SEL -/,
   ⟨0x64, 0x4, 4, 1, 0x0, 0x0, 0x0, 0x0, 0x0⟩ /- REG_SLOT_W -/,
   ⟨0x100, 0x4, 1, 1, 0x0, 0x0, 0x0, 0x7, 0x0⟩ /- REG_CAL_CMD -/,
   ⟨0x104, 0x4, 1, 1, 0x0, 0x0, 0x1C0, 0x0, 0x0⟩ /- REG_CAL_STAT -/,
   ⟨0x108, 0x4, 1, 1, 0xFFFFFF, 0x0, 0x0, 0x0, 0x0⟩ /- REG_CAL_WAKE -/,
   ⟨0x110, 0x4, 1, 1, 0x0, 0x0, 0x0, 0x0, 0x0⟩ /- REG_CAL_LSEC_LO -/,
   ⟨0x114, 0x4, 1, 1, 0x0, 0x0, 0x0, 0x0, 0x0⟩ /- REG_CAL_LSEC_HI -/,
   ⟨0x118, 0x4, 1, 1, 0x0, 0x0, 0x0, 0x0, 0x0⟩ /- REG_CAL_LSUB -/,
   ⟨0x11C, 0x4, 1, 1, 0x0, 0x0, 0x0, 0x0, 0x0⟩ /- REG_CAL_LTIME -/,
   ⟨0x120, 0x4, 1, 1, 0x0, 0x0, 0x0, 0x0, 0x20000101⟩ /- REG_CAL_LDATE -/,
   ⟨0x124, 0x4, 1, 1, 0x0, 0x0, 0x0, 0x0, 0x600⟩ /- REG_CAL_LINFO -/,
   ⟨0x130, 0x4, 1, 1, 0xFFFFFFFF, 0x0, 0x0, 0x0, 0x0⟩ /- REG_CAL_SSEC_LO -/,
   ⟨0x134, 0x4, 1, 1, 0xFF, 0x0, 0x0, 0x0, 0x0⟩ /- REG_CAL_SSEC_HI -/,
   ⟨0x138, 0x4, 1, 1, 0xFFFFFFFF, 0x0, 0x0, 0x0, 0x0⟩ /- REG_CAL_STIME -/,
   ⟨0x13C, 0x4, 1, 1, 0xFFFFFFFF, 0x0, 0x0, 0x0, 0x20000101⟩ /- REG_CAL_SDATE -/,
   ⟨0x140, 0x4, 1, 1, 0x1, 0x0, 0x0, 0x0, 0x0⟩ /- REG_CAL_SFLAGS -/,
   ⟨0x150, 0x4, 1, 1, 0x0, 0x0, 0x0, 0x0, 0x0⟩ /- REG_CAL_BSEC_LO -/,
   ⟨0x154, 0x4, 1, 1, 0x0, 0x0, 0x0, 0x0, 0x0⟩ /- REG_CAL_BSEC_HI -/,
   ⟨0x158, 0x4, 1, 1, 0x0, 0x0, 0x0, 0x0, 0x0⟩ /- REG_CAL_BSUB -/]

/-- The LAC page (block 3). -/
def pageLAC : List RegRow :=
  [⟨0x8, 0x4, 1, 1, 0x0, 0x3, 0x0, 0x0, 0x3⟩ /- LAC_CTL -/,
   ⟨0xC, 0x4, 1, 1, 0x0, 0x0, 0x80000000, 0x0, 0x0⟩ /- LAC_STAT -/,
   ⟨0x10, 0x4, 1, 1, 0x0, 0x0, 0xFFF, 0x0, 0x0⟩ /- LAC_EVT -/,
   ⟨0x14, 0x4, 1, 1, 0xFFF, 0x0, 0x0, 0x0, 0x0⟩ /- LAC_EVTEN -/,
   ⟨0x18, 0x4, 1, 1, 0x0, 0x0, 0x0, 0x0, 0x0⟩ /- LAC_FLT -/,
   ⟨0x40, 0x4, 1, 1, 0x0, 0x0, 0x0, 0x0, 0x0⟩ /- LAC_ADDR -/,
   ⟨0x44, 0x4, 1, 1, 0x0, 0x0, 0x0, 0x0, 0x0⟩ /- LAC_TB -/,
   ⟨0x48, 0x4, 1, 1, 0x0, 0x0, 0x0, 0x0, 0x3000190⟩ /- LAC_CFG -/,
   ⟨0x4C, 0x4, 1, 1, 0x0, 0x0, 0x0, 0x0, 0x32⟩ /- LAC_LINKMAX -/,
   ⟨0x50, 0x4, 4, 1, 0x0, 0x0, 0x0, 0x0, 0x0⟩ /- LAC_PORT -/,
   ⟨0x60, 0x4, 1, 1, 0x0, 0x0, 0x0, 0x0, 0x0⟩ /- LAC_SEQ -/,
   ⟨0x64, 0x4, 1, 1, 0x0, 0x0, 0x0, 0x0, 0x0⟩ /- LAC_EPOCH -/,
   ⟨0x68, 0x4, 1, 1, 0x0, 0x0, 0x0, 0x0, 0x7F000000⟩ /- LAC_RING -/,
   ⟨0x6C, 0x4, 1, 1, 0x0, 0x0, 0x0, 0x0, 0x0⟩ /- LAC_LAYOUT -/,
   ⟨0x70, 0x4, 1, 1, 0x0, 0x0, 0x0, 0x0, 0x0⟩ /- LAC_TFRAME -/,
   ⟨0x74, 0x4, 1, 1, 0x0, 0x0, 0x0, 0x0, 0x0⟩ /- LAC_TFRAME_MAX -/,
   ⟨0x78, 0x4, 1, 1, 0x0, 0x0, 0x0, 0x0, 0x0⟩ /- LAC_STS_BASE -/,
   ⟨0x80, 0x4, 1, 1, 0x0, 0x0, 0x0, 0x0, 0x0⟩ /- LAC_CNT0 -/,
   ⟨0x84, 0x4, 1, 1, 0x0, 0x0, 0x0, 0x0, 0x0⟩ /- LAC_CNT1 -/,
   ⟨0x88, 0x4, 1, 1, 0x0, 0x0, 0x0, 0x0, 0x0⟩ /- LAC_CNT2 -/,
   ⟨0x8C, 0x4, 1, 1, 0x0, 0x0, 0x0, 0x0, 0x0⟩ /- LAC_CNT3 -/,
   ⟨0x100, 0x4, 1, 1, 0x0, 0x0, 0x0, 0x0, 0x20⟩ /- LAC_MBX_FREE -/,
   ⟨0x104, 0x4, 1, 1, 0x0, 0x0, 0xFFFFFFFF, 0x0, 0x0⟩ /- LAC_MBX_DONE -/,
   ⟨0x108, 0x4, 1, 1, 0x0, 0x0, 0x0, 0x0, 0x0⟩ /- LAC_INBOX -/,
   ⟨0x10C, 0x4, 1, 1, 0x0, 0x0, 0x0, 0x1, 0x0⟩ /- LAC_INBOX_POP -/,
   ⟨0x204, 0x4, 127, 1, 0x0, 0x0, 0x0, 0x0, 0x0⟩ /- LAC_POS -/,
   ⟨0x404, 0x4, 127, 1, 0x0, 0x0, 0x0, 0x0, 0x0⟩ /- LAC_BR -/,
   ⟨0x1000, 0x200, 3, 1, 0x3FFF, 0x0, 0x0, 0x0, 0x0⟩ /- LAC_STG_DEST -/,
   ⟨0x1004, 0x200, 3, 1, 0xFFFFFFFF, 0x0, 0x0, 0x0, 0x0⟩ /- LAC_STG_ADDR -/,
   ⟨0x1008, 0x200, 3, 1, 0x7FF, 0x0, 0x0, 0x80000000, 0x0⟩ /- LAC_STG_CMD -/,
   ⟨0x100C, 0x200, 3, 1, 0x0, 0x0, 0x0, 0x0, 0x0⟩ /- LAC_STG_RESP -/,
   ⟨0x1100, 0x200, 3, 64, 0xFFFFFFFF, 0x0, 0x0, 0x0, 0x0⟩ /- LAC_STG_DATA -/,
   ⟨0x2000, 0x200, 32, 1, 0x0, 0x0, 0x0, 0x0, 0x0⟩ /- LAC_MBX_CTRL -/,
   ⟨0x2004, 0x200, 32, 1, 0x0, 0x0, 0x0, 0x0, 0x0⟩ /- LAC_MBX_DEST -/,
   ⟨0x2100, 0x200, 32, 64, 0x0, 0x0, 0x0, 0x0, 0x0⟩ /- LAC_MBX_DATA -/,
   ⟨0x6000, 0x200, 8, 64, 0x0, 0x0, 0x0, 0x0, 0x0⟩ /- LAC_INBOX_DATA -/,
   ⟨0x6100, 0x200, 8, 1, 0x0, 0x0, 0x0, 0x0, 0x0⟩ /- LAC_INBOX_INFO -/]

/-- The WLT page (block 4). -/
def pageWLT : List RegRow :=
  [⟨0x8, 0x4, 1, 1, 0x0, 0x3FFFF, 0x0, 0x80000000, 0x8004⟩ /- WLT_CTL -/,
   ⟨0xC, 0x4, 1, 1, 0x0, 0x0, 0x80000000, 0x0, 0x0⟩ /- WLT_STAT -/,
   ⟨0x10, 0x4, 1, 1, 0x0, 0x0, 0xFF, 0x0, 0x0⟩ /- WLT_EVT -/,
   ⟨0x14, 0x4, 1, 1, 0xFF, 0x0, 0x0, 0x0, 0x0⟩ /- WLT_EVTEN -/,
   ⟨0x18, 0x4, 1, 1, 0x0, 0x0, 0x0, 0x0, 0x0⟩ /- WLT_FLT -/,
   ⟨0x40, 0x4, 1, 1, 0x0, 0x0, 0x0, 0x0, 0x0⟩ /- WLT_EPOCH -/,
   ⟨0x44, 0x4, 1, 1, 0x0, 0x0, 0x0, 0x0, 0x0⟩ /- WLT_LEASE_LO -/,
   ⟨0x48, 0x4, 1, 1, 0x0, 0x0, 0x0, 0x0, 0x0⟩ /- WLT_LEASE_HI -/,
   ⟨0x4C, 0x4, 1, 1, 0x0, 0x0, 0x0, 0x0, 0x0⟩ /- WLT_DELAY -/,
   ⟨0x50, 0x4, 1, 1, 0x0, 0x0, 0x0, 0x0, 0x0⟩ /- WLT_COPY -/,
   ⟨0x54, 0x4, 1, 1, 0x0, 0x0, 0x0, 0x0, 0x0⟩ /- WLT_LAG -/,
   ⟨0x58, 0x4, 1, 1, 0x0, 0x0, 0x0, 0x0, 0x0⟩ /- WLT_CNT0 -/,
   ⟨0x5C, 0x4, 1, 1, 0x0, 0x0, 0x0, 0x0, 0x0⟩ /- WLT_CNT1 -/,
   ⟨0x60, 0x4, 1, 1, 0x0, 0x0, 0x0, 0x0, 0x0⟩ /- WLT_RESYNC -/,
   ⟨0x64, 0x4, 1, 1, 0x0, 0x0, 0x0, 0x0, 0x0⟩ /- WLT_PEER_REC -/]

/-- The WKM page (block 5). -/
def pageWKM : List RegRow :=
  [⟨0x8, 0x4, 1, 1, 0x0, 0x1, 0x0, 0x0, 0x1⟩ /- WKM_CTL -/,
   ⟨0xC, 0x4, 1, 1, 0x0, 0x0, 0x80000000, 0x0, 0x0⟩ /- WKM_STAT -/,
   ⟨0x10, 0x4, 1, 1, 0x0, 0x0, 0x3F, 0x0, 0x0⟩ /- WKM_EVT -/,
   ⟨0x14, 0x4, 1, 1, 0x3F, 0x0, 0x0, 0x0, 0x0⟩ /- WKM_EVTEN -/,
   ⟨0x18, 0x4, 1, 1, 0x0, 0x0, 0x0, 0x0, 0x0⟩ /- WKM_FLT -/,
   ⟨0x40, 0x4, 1, 1, 0x0, 0x0, 0x0, 0x0, 0x0⟩ /- WKM_SCRUB -/,
   ⟨0x44, 0x4, 1, 1, 0x0, 0x0, 0x0, 0x0, 0x0⟩ /- WKM_WATCH -/,
   ⟨0x48, 0x4, 1, 1, 0xFF, 0x0, 0x0, 0x0, 0x0⟩ /- WKM_PSEL -/,
   ⟨0x4C, 0x4, 1, 1, 0x0, 0x0, 0x0, 0x0, 0x0⟩ /- WKM_PENT -/,
   ⟨0x50, 0x4, 1, 1, 0x0, 0x0, 0x0, 0x0, 0x0⟩ /- WKM_PMASK -/,
   ⟨0x60, 0x4, 1, 1, 0x0, 0x1FFFE0, 0x0, 0x0, 0x0⟩ /- WKM_INJ_ADDR -/,
   ⟨0x64, 0x4, 1, 1, 0x0, 0x803F3FFF, 0x0, 0x0, 0x3F3F00⟩ /- WKM_INJ -/,
   ⟨0x80, 0x4, 16, 1, 0x0, 0x0, 0x0, 0x0, 0x0⟩ /- WKM_SPARE -/]

/-- The KEP page (block 6). -/
def pageKEP : List RegRow :=
  [⟨0x8, 0x4, 1, 1, 0x0, 0x1, 0x0, 0x0, 0x1⟩ /- KEP_CTL -/,
   ⟨0xC, 0x4, 1, 1, 0x0, 0x0, 0x80000000, 0x0, 0x4⟩ /- KEP_STAT -/,
   ⟨0x10, 0x4, 1, 1, 0x0, 0x0, 0x1FF, 0x0, 0x0⟩ /- KEP_EVT -/,
   ⟨0x14, 0x4, 1, 1, 0x1FF, 0x0, 0x0, 0x0, 0x0⟩ /- KEP_EVTEN -/,
   ⟨0x18, 0x4, 1, 1, 0x0, 0x0, 0x0, 0x0, 0x0⟩ /- KEP_FLT -/,
   ⟨0x40, 0x4, 1, 1, 0x0, 0xFFFFFF, 0x0, 0x0, 0x0⟩ /- KEP_INTERVAL -/,
   ⟨0x44, 0x4, 1, 1, 0x0, 0x0, 0x0, 0x0, 0x0⟩ /- KEP_INTERVAL_ACT -/,
   ⟨0x48, 0x4, 1, 1, 0x0, 0xFF, 0x0, 0x0, 0x0⟩ /- KEP_WEAR_TARGET -/,
   ⟨0x4C, 0x4, 1, 1, 0x0, 0x0, 0x0, 0x0, 0x0⟩ /- KEP_KSEQ -/,
   ⟨0x50, 0x4, 1, 1, 0x0, 0x0, 0x0, 0x0, 0x0⟩ /- KEP_KREC -/,
   ⟨0x54, 0x4, 1, 1, 0x0, 0x0, 0x0, 0x0, 0x0⟩ /- KEP_JFREE -/,
   ⟨0x58, 0x4, 1, 1, 0x0, 0x0, 0x0, 0x0, 0x0⟩ /- KEP_WEAR -/,
   ⟨0x5C, 0x4, 1, 1, 0x0, 0x0, 0x0, 0x0, 0x0⟩ /- KEP_RWEAR -/,
   ⟨0x60, 0x4, 1, 1, 0x0, 0x0, 0x0, 0x0, 0x0⟩ /- KEP_BOOT_T -/,
   ⟨0x64, 0x4, 1, 1, 0x0, 0x0, 0x0, 0x0, 0x0⟩ /- KEP_VER -/,
   ⟨0x68, 0x4, 1, 1, 0x0, 0x0, 0x0, 0x0, 0x0⟩ /- KEP_SPARES -/,
   ⟨0x6C, 0x4, 1, 1, 0x0, 0x0, 0x0, 0x0, 0x0⟩ /- KEP_RLIVE -/,
   ⟨0x1000, 0x100, 3, 1, 0xFFFFFFFF, 0x0, 0x0, 0x0, 0x0⟩ /- KEP_RKEY -/,
   ⟨0x1004, 0x100, 3, 1, 0xFFFF, 0x0, 0x0, 0x0, 0x0⟩ /- KEP_RVER -/,
   ⟨0x1008, 0x100, 3, 1, 0xFF, 0x0, 0x0, 0xC0000000, 0x0⟩ /- KEP_RCMD -/,
   ⟨0x100C, 0x100, 3, 1, 0x0, 0x0, 0x0, 0x0, 0x0⟩ /- KEP_RRESP -/,
   ⟨0x1010, 0x100, 3, 1, 0x0, 0x0, 0x0, 0x0, 0x0⟩ /- KEP_RSEQ -/,
   ⟨0x1020, 0x100, 3, 56, 0xFFFFFFFF, 0x0, 0x0, 0x0, 0x0⟩ /- KEP_RDATA -/]

/-- The FLD page (block 7). -/
def pageFLD : List RegRow :=
  [⟨0x8, 0x4, 1, 1, 0x0, 0x1, 0x0, 0x0, 0x1⟩ /- FLD_CTL -/,
   ⟨0xC, 0x4, 1, 1, 0x0, 0x0, 0x80000010, 0x0, 0x0⟩ /- FLD_STAT -/,
   ⟨0x10, 0x4, 1, 1, 0x0, 0x0, 0x7FF, 0x0, 0x0⟩ /- FLD_EVT -/,
   ⟨0x14, 0x4, 1, 1, 0x7FF, 0x0, 0x0, 0x0, 0x0⟩ /- FLD_EVTEN -/,
   ⟨0x18, 0x4, 1, 1, 0x0, 0x0, 0x0, 0x0, 0x0⟩ /- FLD_FLT -/,
   ⟨0x40, 0x4, 2, 1, 0x0, 0xFFFFFF, 0x0, 0x0, 0x0⟩ /- FLD_DIFLT -/,
   ⟨0x48, 0x4, 1, 1, 0x0, 0x0, 0x0, 0x0, 0x0⟩ /- FLD_DILIVE -/,
   ⟨0x50, 0x4, 8, 1, 0x0, 0xFFFF0007, 0x0, 0x0, 0x3E80000⟩ /- FLD_DOCFG -/,
   ⟨0x70, 0x4, 1, 1, 0x0, 0x0, 0x0, 0x0, 0x0⟩ /- FLD_DOSTAT -/,
   ⟨0x74, 0x4, 1, 1, 0x0, 0x0, 0x0, 0xFF, 0x0⟩ /- FLD_DORESTART -/,
   ⟨0x80, 0x10, 4, 1, 0x0, 0x3D, 0x0, 0x40, 0x10⟩ /- FLD_AOCFG -/,
   ⟨0x84, 0x10, 4, 1, 0x0, 0x0, 0x2, 0x0, 0x0⟩ /- FLD_AOSTAT -/,
   ⟨0x88, 0x10, 4, 1, 0x0, 0x0, 0x0, 0x0, 0x0⟩ /- FLD_AOHEAD -/,
   ⟨0x8C, 0x10, 4, 1, 0x0, 0x0, 0x0, 0x0, 0x0⟩ /- FLD_AOCMD -/,
   ⟨0xC0, 0x4, 4, 1, 0x0, 0x7, 0x0, 0x0, 0x4⟩ /- FLD_AICFG -/,
   ⟨0xD0, 0x4, 4, 1, 0x0, 0x0, 0x0, 0x0, 0x30000⟩ /- FLD_AIVAL -/,
   ⟨0xE0, 0x4, 1, 1, 0x0, 0x0, 0x0, 0x0, 0x0⟩ /- FLD_SILENCE -/,
   ⟨0xE4, 0x4, 1, 1, 0x0, 0x0, 0x0, 0x0, 0x0⟩ /- FLD_VFIELD -/,
   ⟨0xE8, 0x4, 1, 1, 0x0, 0x0, 0x0, 0x0, 0x0⟩ /- FLD_LINKCNT -/]

/-- The LOP page (block 8). -/
def pageLOP : List RegRow :=
  [⟨0x8, 0x4, 1, 1, 0x0, 0x0, 0x0, 0x0, 0x0⟩ /- LOP_CTL -/,
   ⟨0xC, 0x4, 1, 1, 0x0, 0x0, 0xC0000000, 0x0, 0x0⟩ /- LOP_STAT -/,
   ⟨0x10, 0x4, 1, 1, 0x0, 0x0, 0x1F, 0x0, 0x0⟩ /- LOP_EVT -/,
   ⟨0x14, 0x4, 1, 1, 0x1F, 0x0, 0x0, 0x0, 0x0⟩ /- LOP_EVTEN -/,
   ⟨0x18, 0x4, 1, 1, 0x0, 0x0, 0x0, 0x0, 0x0⟩ /- LOP_FLT -/,
   ⟨0x40, 0x4, 1, 1, 0x0, 0x0, 0x0, 0x0, 0x0⟩ /- LOP_PLAUS_LO -/,
   ⟨0x44, 0x4, 1, 1, 0x0, 0x0, 0x0, 0x0, 0x0⟩ /- LOP_PLAUS_HI -/,
   ⟨0x48, 0x4, 1, 1, 0x0, 0x0, 0x0, 0x0, 0x0⟩ /- LOP_QMAX -/,
   ⟨0x100, 0x40, 64, 1, 0x41001F00, 0xBEFFE000, 0x0, 0x0, 0x300⟩ /- LOP_CFG -/,
   ⟨0x104, 0x40, 64, 1, 0x0, 0xFFFFFF, 0x0, 0x0, 0x3E8⟩ /- LOP_PER -/,
   ⟨0x108, 0x40, 64, 1, 0xFFFFFFFF, 0x0, 0x0, 0x0, 0x0⟩ /- LOP_KP -/,
   ⟨0x10C, 0x40, 64, 1, 0xFFFFFFFF, 0x0, 0x0, 0x0, 0x0⟩ /- LOP_KI -/,
   ⟨0x110, 0x40, 64, 1, 0xFFFFFFFF, 0x0, 0x0, 0x0, 0x7FFF0000⟩ /- LOP_LIM -/,
   ⟨0x114, 0x40, 64, 1, 0xFFFFFFFF, 0x0, 0x0, 0x0, 0x0⟩ /- LOP_SP -/,
   ⟨0x118, 0x40, 64, 1, 0x0, 0xFFFFFFFF, 0x0, 0x0, 0x0⟩ /- LOP_IMG -/,
   ⟨0x11C, 0x40, 64, 1, 0xFFFFFFFF, 0x0, 0x0, 0x0, 0x0⟩ /- LOP_MOD -/,
   ⟨0x120, 0x40, 64, 1, 0xFFFFFFFF, 0x0, 0x0, 0x0, 0x10000⟩ /- LOP_SUP -/,
   ⟨0x124, 0x40, 64, 1, 0xFFFF, 0x0, 0x0, 0x0, 0x0⟩ /- LOP_SAFE -/,
   ⟨0x128, 0x40, 64, 1, 0x0, 0x0, 0x0, 0x0, 0x0⟩ /- LOP_INTL -/,
   ⟨0x12C, 0x40, 64, 1, 0x0, 0x0, 0x0, 0x0, 0x0⟩ /- LOP_INTH -/,
   ⟨0x130, 0x40, 64, 1, 0x0, 0x0, 0x0, 0x0, 0x0⟩ /- LOP_PV -/,
   ⟨0x134, 0x40, 64, 1, 0x0, 0x0, 0x0, 0x0, 0x0⟩ /- LOP_OUT -/,
   ⟨0x138, 0x40, 64, 1, 0x0, 0x0, 0xA0000000, 0x0, 0x0⟩ /- LOP_STS -/,
   ⟨0x13C, 0x40, 64, 1, 0x0, 0x0, 0x0, 0x0, 0x0⟩ /- LOP_DLY -/]

/-- The SAF page (block 9). -/
def pageSAF : List RegRow :=
  [⟨0x8, 0x4, 1, 1, 0x0, 0x0, 0x0, 0x0, 0x0⟩ /- SAF_CTL -/,
   ⟨0xC, 0x4, 1, 1, 0x0, 0x0, 0xC0000000, 0x0, 0x8000⟩ /- SAF_STAT -/,
   ⟨0x10, 0x4, 1, 1, 0x0, 0x0, 0x1FFF, 0x0, 0x0⟩ /- SAF_EVT -/,
   ⟨0x14, 0x4, 1, 1, 0x1FFF, 0x0, 0x0, 0x0, 0x0⟩ /- SAF_EVTEN -/,
   ⟨0x18, 0x4, 1, 1, 0x0, 0x0, 0x0, 0x0, 0x0⟩ /- SAF_FLT -/,
   ⟨0x40, 0x4, 1, 1, 0xFFF, 0x0, 0x0, 0x0, 0x0⟩ /- SAF_REQ -/,
   ⟨0x44, 0x4, 1, 1, 0x0, 0x0, 0x0, 0x0, 0x0⟩ /- SAF_SI -/,
   ⟨0x48, 0x4, 2, 1, 0x0, 0x0, 0x0, 0x0, 0x60000000⟩ /- SAF_AX -/,
   ⟨0x50, 0x4, 2, 1, 0x0, 0x0, 0x0, 0x0, 0x0⟩ /- SAF_POS -/,
   ⟨0x58, 0x4, 2, 1, 0x0, 0x0, 0x0, 0x0, 0x0⟩ /- SAF_DEV -/,
   ⟨0x60, 0x4, 1, 1, 0x0, 0x0, 0x0, 0x0, 0x0⟩ /- SAF_OP -/,
   ⟨0x64, 0x4, 1, 1, 0x0, 0x0, 0x0, 0x0, 0x0⟩ /- SAF_SIG -/,
   ⟨0x68, 0x4, 1, 1, 0x0, 0x0, 0x0, 0xFFFFFFFF, 0x0⟩ /- SAF_CONFIRM -/,
   ⟨0x6C, 0x4, 1, 1, 0x0, 0x0, 0x0, 0x0, 0x0⟩ /- SAF_CSIG -/,
   ⟨0x70, 0x4, 1, 1, 0x0, 0x0, 0x0, 0x1, 0x0⟩ /- SAF_RESET -/,
   ⟨0x74, 0x4, 1, 1, 0x0, 0x0, 0x0, 0x0, 0x0⟩ /- SAF_LANE -/,
   ⟨0x78, 0x4, 1, 1, 0x0, 0x0, 0x0, 0x0, 0x0⟩ /- SAF_RESP -/,
   ⟨0x100, 0x4, 48, 1, 0x0, 0x0, 0x0, 0x0, 0x0⟩ /- SAF_PARAM -/]

/-- The CAN page (block 10). -/
def pageCAN : List RegRow :=
  [⟨0x8, 0x4, 1, 1, 0x0, 0x3, 0x0, 0x300, 0x3⟩ /- CAN_CTL -/,
   ⟨0xC, 0x4, 1, 1, 0x0, 0x0, 0xC0000000, 0x0, 0x0⟩ /- CAN_STAT -/,
   ⟨0x10, 0x4, 1, 1, 0x0, 0x0, 0xFFFF, 0x0, 0x0⟩ /- CAN_EVT -/,
   ⟨0x14, 0x4, 1, 1, 0xFFFF, 0x0, 0x0, 0x0, 0x0⟩ /- CAN_EVTEN -/,
   ⟨0x18, 0x4, 1, 1, 0x0, 0x0, 0x0, 0x0, 0x0⟩ /- CAN_FLT -/,
   ⟨0x40, 0x40, 2, 1, 0x0, 0xFFC0003F, 0x0, 0x0, 0x0⟩ /- CAN_CFG -/,
   ⟨0x44, 0x40, 2, 1, 0x0, 0xFFFF7F7F, 0x0, 0x0, 0x3E0F0F⟩ /- CAN_NBT -/,
   ⟨0x48, 0x40, 2, 1, 0x0, 0x1F1F0F0F, 0x0, 0x0, 0x60101⟩ /- CAN_DBT -/,
   ⟨0x4C, 0x40, 2, 1, 0x0, 0xFF00, 0x0, 0x0, 0x0⟩ /- CAN_TDC -/,
   ⟨0x50, 0x40, 2, 1, 0x0, 0x0, 0x0, 0x0, 0x0⟩ /- CAN_ERR -/,
   ⟨0x54, 0x40, 2, 1, 0x0, 0x0, 0x0, 0x0, 0x0⟩ /- CAN_BUS -/,
   ⟨0x58, 0x40, 2, 1, 0x0, 0xFFFFFF, 0x0, 0x0, 0x3E8⟩ /- CAN_TTCYC -/,
   ⟨0x5C, 0x40, 2, 1, 0x0, 0xFFFFFF, 0x0, 0x0, 0x0⟩ /- CAN_TTPH -/,
   ⟨0x60, 0x40, 2, 1, 0x0, 0x1FFC0000, 0x0, 0x0, 0x0⟩ /- CAN_TTREF -/,
   ⟨0x64, 0x40, 2, 1, 0x0, 0x0, 0x0, 0x0, 0x0⟩ /- CAN_TTSTAT -/,
   ⟨0x68, 0x40, 2, 1, 0x0, 0x0, 0x0, 0xC000007F, 0x0⟩ /- CAN_CMD -/,
   ⟨0x6C, 0x40, 2, 1, 0x0, 0x0, 0x0, 0x0, 0x0⟩ /- CAN_RXSEQ -/]

/-- The WDG page (block 11). -/
def pageWDG : List RegRow :=
  [⟨0x8, 0x4, 1, 1, 0x0, 0x0, 0x0, 0x0, 0x0⟩ /- WDG_CTL -/,
   ⟨0xC, 0x4, 1, 1, 0x0, 0x0, 0x80010000, 0x0, 0x0⟩ /- WDG_STAT -/,
   ⟨0x10, 0x4, 1, 1, 0x0, 0x0, 0xF, 0x0, 0x0⟩ /- WDG_EVT -/,
   ⟨0x14, 0x4, 1, 1, 0xF, 0x0, 0x0, 0x0, 0x0⟩ /- WDG_EVTEN -/,
   ⟨0x18, 0x4, 1, 1, 0x0, 0x0, 0x0, 0x0, 0x0⟩ /- WDG_FLT -/,
   ⟨0x40, 0x4, 1, 1, 0x0, 0x0, 0x0, 0xFFFFFFFF, 0x0⟩ /- WDG_SVC -/,
   ⟨0x44, 0x4, 1, 1, 0x0, 0xFFFFFF, 0x0, 0x0, 0x0⟩ /- WDG_PERIOD -/,
   ⟨0x48, 0x4, 1, 1, 0x0, 0xFFFFFF, 0x0, 0x0, 0x0⟩ /- WDG_OPEN -/,
   ⟨0x4C, 0x4, 1, 1, 0x0, 0x0, 0x0, 0x0, 0x0⟩ /- WDG_MASK -/,
   ⟨0x50, 0x4, 1, 1, 0x0, 0x0, 0x0, 0x0, 0x0⟩ /- WDG_CNT_LO -/,
   ⟨0x54, 0x4, 1, 1, 0x0, 0x0, 0x0, 0x0, 0x0⟩ /- WDG_CNT_HI -/,
   ⟨0x58, 0x4, 1, 1, 0x0, 0x0, 0x0, 0x0, 0x0⟩ /- WDG_ELAPSED -/,
   ⟨0x5C, 0x4, 1, 1, 0x0, 0x0, 0x0, 0x0, 0x0⟩ /- WDG_LSVC_LO -/,
   ⟨0x60, 0x4, 1, 1, 0x0, 0x0, 0x0, 0x0, 0x0⟩ /- WDG_LSVC_HI -/,
   ⟨0x64, 0x4, 1, 1, 0x0, 0x0, 0x0, 0x0, 0x0⟩ /- WDG_EV0 -/,
   ⟨0x68, 0x4, 1, 1, 0x0, 0x0, 0x0, 0x0, 0x0⟩ /- WDG_EV1 -/,
   ⟨0x6C, 0x4, 1, 1, 0x0, 0x0, 0x0, 0x0, 0x0⟩ /- WDG_RATIO -/,
   ⟨0x80, 0x4, 16, 1, 0x0, 0x0, 0x0, 0x0, 0x0⟩ /- WDG_PC -/]

/-- The REC page (block 12). -/
def pageREC : List RegRow :=
  [⟨0x8, 0x4, 1, 1, 0x0, 0x0, 0x0, 0x0, 0x0⟩ /- REC_CTL -/,
   ⟨0xC, 0x4, 1, 1, 0x0, 0x0, 0x80000000, 0x0, 0x1⟩ /- REC_STAT -/,
   ⟨0x10, 0x4, 1, 1, 0x0, 0x0, 0x1F, 0x0, 0x0⟩ /- REC_EVT -/,
   ⟨0x14, 0x4, 1, 1, 0x1F, 0x0, 0x0, 0x0, 0x0⟩ /- REC_EVTEN -/,
   ⟨0x18, 0x4, 1, 1, 0x0, 0x0, 0x0, 0x0, 0x0⟩ /- REC_FLT -/,
   ⟨0x40, 0x4, 1, 1, 0x0, 0x0, 0x0, 0x0, 0x0⟩ /- REC_HEAD -/,
   ⟨0x44, 0x4, 1, 1, 0x0, 0x0, 0x0, 0x0, 0x0⟩ /- REC_ORD_N -/,
   ⟨0x48, 0x4, 1, 1, 0x0, 0x0, 0x0, 0x0, 0x0⟩ /- REC_PNEXT -/,
   ⟨0x4C, 0x4, 1, 1, 0x0, 0x0, 0x0, 0x0, 0x0⟩ /- REC_LOST_ORD -/,
   ⟨0x50, 0x4, 1, 1, 0x0, 0x0, 0x0, 0x0, 0x0⟩ /- REC_QUEUE -/,
   ⟨0x54, 0x4, 1, 1, 0x0, 0xFFFF, 0x0, 0x0, 0x3E8⟩ /- REC_RPTWIN -/,
   ⟨0x100, 0x4, 64, 1, 0x0, 0x0, 0x0, 0x0, 0x0⟩ /- REC_LOST -/]

/-- The TAL page (block 13). -/
def pageTAL : List RegRow :=
  [⟨0x8, 0x4, 1, 1, 0x1, 0x0, 0x0, 0x2, 0x1⟩ /- TAL_CTL -/,
   ⟨0xC, 0x4, 1, 1, 0x0, 0x0, 0x80000000, 0x0, 0x0⟩ /- TAL_STAT -/,
   ⟨0x10, 0x4, 1, 1, 0x0, 0x0, 0x7, 0x0, 0x0⟩ /- TAL_EVT -/,
   ⟨0x14, 0x4, 1, 1, 0x7, 0x0, 0x0, 0x0, 0x0⟩ /- TAL_EVTEN -/,
   ⟨0x18, 0x4, 1, 1, 0x0, 0x0, 0x0, 0x0, 0x0⟩ /- TAL_FLT -/,
   ⟨0x40, 0x4, 1, 1, 0x0, 0x0, 0x0, 0x0, 0x0⟩ /- TAL_SNAPSEQ -/,
   ⟨0x60, 0x4, 1, 1, 0x0, 0x0, 0xFFFFFFFF, 0x0, 0x0⟩ /- TAL_OVF_LO -/,
   ⟨0x64, 0x4, 1, 1, 0x0, 0x0, 0xFFFFFFFF, 0x0, 0x0⟩ /- TAL_OVF_HI -/,
   ⟨0x68, 0x4, 1, 1, 0x0, 0x0, 0x1FF, 0x0, 0x0⟩ /- TAL_OVF_P -/,
   ⟨0x70, 0x4, 1, 1, 0xEFFFFFFF, 0x0, 0x0, 0x0, 0x0⟩ /- TAL_SCTL -/,
   ⟨0x74, 0x4, 1, 1, 0x0, 0x0, 0x0, 0x0, 0x0⟩ /- TAL_SNEXT -/,
   ⟨0x78, 0x4, 1, 1, 0xFFFFF, 0x0, 0x0, 0x0, 0x3E8⟩ /- TAL_BWWIN -/,
   ⟨0x80, 0x10, 8, 1, 0xFFF, 0x0, 0x0, 0x0, 0xFFF⟩ /- TAL_PSEL -/,
   ⟨0x84, 0x10, 8, 1, 0x0, 0x0, 0x0, 0x0, 0x0⟩ /- TAL_PCNT_LO -/,
   ⟨0x88, 0x10, 8, 1, 0x0, 0x0, 0x0, 0x0, 0x0⟩ /- TAL_PCNT_HI -/,
   ⟨0x100, 0x8, 9, 1, 0x0, 0x0, 0x0, 0x0, 0x0⟩ /- TAL_BW_TX -/,
   ⟨0x104, 0x8, 9, 1, 0x0, 0x0, 0x0, 0x0, 0x0⟩ /- TAL_BW_RX -/,
   ⟨0x200, 0x8, 64, 1, 0x0, 0x0, 0x0, 0x0, 0x0⟩ /- TAL_L_LO -/,
   ⟨0x204, 0x8, 64, 1, 0x0, 0x0, 0x0, 0x0, 0x0⟩ /- TAL_L_HI -/,
   ⟨0x400, 0x4, 128, 1, 0x0, 0x0, 0x0, 0x0, 0x0⟩ /- TAL_SL -/,
   ⟨0x600, 0x4, 16, 1, 0x0, 0x0, 0x0, 0x0, 0x0⟩ /- TAL_SP -/,
   ⟨0x640, 0x4, 1, 1, 0x0, 0x0, 0x0, 0x0, 0x0⟩ /- TAL_SBEAT_LO -/,
   ⟨0x644, 0x4, 1, 1, 0x0, 0x0, 0x0, 0x0, 0x0⟩ /- TAL_SBEAT_HI -/,
   ⟨0x648, 0x4, 1, 1, 0x0, 0x0, 0x0, 0x0, 0x0⟩ /- TAL_STB_LO -/,
   ⟨0x64C, 0x4, 1, 1, 0x0, 0x0, 0x0, 0x0, 0x0⟩ /- TAL_STB_HI -/,
   ⟨0x800, 0x10, 256, 1, 0x0, 0x0, 0x0, 0x0, 0x0⟩ /- TAL_SMP_PC -/,
   ⟨0x804, 0x10, 256, 1, 0x0, 0x0, 0x0, 0x0, 0x0⟩ /- TAL_SMP_INFO -/,
   ⟨0x808, 0x10, 256, 1, 0x0, 0x0, 0x0, 0x0, 0x0⟩ /- TAL_SMP_LAT -/,
   ⟨0x80C, 0x10, 256, 1, 0x0, 0x0, 0x0, 0x0, 0x0⟩ /- TAL_SMP_TB -/]

/-- The HST page (block 14). -/
def pageHST : List RegRow :=
  [⟨0x8, 0x4, 1, 1, 0xFF01, 0x0, 0x0, 0x0, 0x0⟩ /- HST_CTL -/,
   ⟨0xC, 0x4, 1, 1, 0x0, 0x0, 0x80000000, 0x0, 0x0⟩ /- HST_STAT -/,
   ⟨0x10, 0x4, 1, 1, 0x0, 0x0, 0xF, 0x0, 0x0⟩ /- HST_EVT -/,
   ⟨0x14, 0x4, 1, 1, 0xF, 0x0, 0x0, 0x0, 0x0⟩ /- HST_EVTEN -/,
   ⟨0x18, 0x4, 1, 1, 0x0, 0x0, 0x0, 0x0, 0x0⟩ /- HST_FLT -/,
   ⟨0x40, 0x4, 1, 1, 0x0, 0x0, 0x0, 0xFF, 0x0⟩ /- HST_DOORBELL -/,
   ⟨0x44, 0x4, 1, 1, 0x0, 0x0, 0x0, 0x0, 0x0⟩ /- HST_HELD -/,
   ⟨0x48, 0x4, 1, 1, 0x0, 0x0, 0x0, 0x0, 0x96400000⟩ /- HST_IDS -/,
   ⟨0x1000, 0x10, 32, 1, 0xFFFFFFFC, 0x0, 0x0, 0x0, 0x0⟩ /- HST_MSIX_ALO -/,
   ⟨0x1004, 0x10, 32, 1, 0xFFFFFFFF, 0x0, 0x0, 0x0, 0x0⟩ /- HST_MSIX_AHI -/,
   ⟨0x1008, 0x10, 32, 1, 0xFFFFFFFF, 0x0, 0x0, 0x0, 0x0⟩ /- HST_MSIX_DATA -/,
   ⟨0x100C, 0x10, 32, 1, 0x1, 0x0, 0x0, 0x0, 0x1⟩ /- HST_MSIX_VC -/,
   ⟨0x1200, 0x4, 1, 1, 0x0, 0x0, 0x0, 0x0, 0x0⟩ /- HST_PBA -/]

/-- The SVC page (block 15). -/
def pageSVC : List RegRow :=
  [⟨0x8, 0x4, 1, 1, 0x0, 0x0, 0x0, 0x0, 0x0⟩ /- SVC_CTL -/,
   ⟨0xC, 0x4, 1, 1, 0x0, 0x0, 0x80000000, 0x0, 0x100⟩ /- SVC_STAT -/,
   ⟨0x10, 0x4, 1, 1, 0x0, 0x0, 0xFFF, 0x0, 0x0⟩ /- SVC_EVT -/,
   ⟨0x14, 0x4, 1, 1, 0xFFF, 0x0, 0x0, 0x0, 0x0⟩ /- SVC_EVTEN -/,
   ⟨0x18, 0x4, 1, 1, 0x0, 0x0, 0x0, 0x0, 0x0⟩ /- SVC_FLT -/,
   ⟨0x40, 0x4, 4, 1, 0x0, 0x0, 0x0, 0x0, 0x0⟩ /- SVC_DEVID -/,
   ⟨0x50, 0x4, 1, 1, 0x0, 0x0, 0x0, 0x0, 0x0⟩ /- SVC_OTP -/,
   ⟨0x54, 0x4, 1, 1, 0x0, 0x0, 0x0, 0x0, 0x0⟩ /- SVC_KEYS -/,
   ⟨0x58, 0x4, 1, 1, 0x0, 0x0, 0x0, 0x0, 0x0⟩ /- SVC_SESS -/,
   ⟨0x60, 0x4, 1, 1, 0x0, 0x0, 0x0, 0x0, 0x0⟩ /- SVC_BOOT_T -/,
   ⟨0x64, 0x4, 1, 1, 0x0, 0x0, 0x0, 0x0, 0x0⟩ /- SVC_FIRST_T -/,
   ⟨0x200, 0x4, 1, 1, 0x0, 0x0, 0x0, 0x0, 0x0⟩ /- SVC_INTK -/,
   ⟨0x204, 0x4, 1, 1, 0x0, 0x0, 0x0, 0x0, 0x0⟩ /- SVC_INTK_RCVD -/,
   ⟨0x208, 0x4, 1, 1, 0x0, 0x0, 0x0, 0x0, 0x0⟩ /- SVC_HALF -/,
   ⟨0x20C, 0x4, 1, 1, 0x0, 0x0, 0x0, 0x0, 0x0⟩ /- SVC_RSL -/,
   ⟨0x210, 0x4, 1, 1, 0x0, 0xFFFFFFFF, 0x0, 0x0, 0x3E807D0⟩ /- SVC_RSL_CFG -/,
   ⟨0x214, 0x4, 1, 1, 0x0, 0x0, 0x0, 0x0, 0x0⟩ /- SVC_SEAM_LO -/,
   ⟨0x218, 0x4, 1, 1, 0x0, 0x0, 0x0, 0x0, 0x0⟩ /- SVC_SEAM_HI -/,
   ⟨0x21C, 0x4, 1, 1, 0x0, 0x0, 0x0, 0x0, 0x0⟩ /- SVC_SEAM_T -/,
   ⟨0x220, 0x4, 1, 1, 0x0, 0x0, 0x0, 0x0, 0x0⟩ /- SVC_CARRY -/,
   ⟨0x224, 0x4, 1, 1, 0x0, 0x0, 0x0, 0x0, 0x0⟩ /- SVC_MIGR -/,
   ⟨0x228, 0x4, 1, 1, 0x0, 0x0, 0x0, 0x0, 0x0⟩ /- SVC_ACT_VER -/,
   ⟨0x22C, 0x4, 1, 1, 0x0, 0x0, 0x0, 0x0, 0x0⟩ /- SVC_STG_VER -/,
   ⟨0x300, 0x4, 1, 1, 0x0, 0x0, 0x0, 0x0, 0x0⟩ /- SVC_PWR -/,
   ⟨0x380, 0x4, 1, 1, 0x0, 0x0, 0x80000000, 0x0, 0x0⟩ /- SVC_PACE -/,
   ⟨0x384, 0x4, 1, 1, 0xFFFF, 0x0, 0x0, 0x0, 0x4B5⟩ /- SVC_PACE_LIM -/,
   ⟨0x400, 0x4, 9, 1, 0x0, 0x0, 0x0, 0x0, 0x0⟩ /- SVC_HLTH_T -/,
   ⟨0x440, 0x4, 9, 1, 0x0, 0x0, 0x0, 0x0, 0x0⟩ /- SVC_HLTH_L -/,
   ⟨0x480, 0x4, 1, 1, 0x0, 0x0, 0x0, 0x0, 0x0⟩ /- SVC_HLTH_MAP -/]

/-- The rows of page `i` (R386). -/
def ofPage : Nat → List RegRow
  | 0 => pageMOV
  | 1 => pageESC
  | 2 => pageREG
  | 3 => pageLAC
  | 4 => pageWLT
  | 5 => pageWKM
  | 6 => pageKEP
  | 7 => pageFLD
  | 8 => pageLOP
  | 9 => pageSAF
  | 10 => pageCAN
  | 11 => pageWDG
  | 12 => pageREC
  | 13 => pageTAL
  | 14 => pageHST
  | 15 => pageSVC
  | _ => []

end Sys2Proof.Machine.RegTable
end

