-- ==== Sys2Proof/Machine/Ops.lean ====
section
/-! DEFINITION. The named operations over registers, memory cells, events, recorder occurrences, counters and alerts
that every family shares. -/

namespace Sys2Proof.Machine

/-! ### Bits -/

/-- The bits `hi` to `lo` of a number. -/
def bitsOf (n hi lo : Nat) : Nat := n / 2 ^ lo % 2 ^ (hi + 1 - lo)

/-- A number whose bits `hi` to `lo` are replaced by the low bits of `v`. -/
def setBits (n hi lo v : Nat) : Nat :=
  n - bitsOf n hi lo * 2 ^ lo + v % 2 ^ (hi + 1 - lo) * 2 ^ lo

/-- The signed reading of the low `w` bits of a number. -/
def signed (w n : Nat) : Int :=
  let m := n % 2 ^ w
  if 2 * m < 2 ^ w then m else (m : Int) - 2 ^ w

/-- The low `w` bits of an integer in two's complement. -/
def unsigned (w : Nat) (i : Int) : Nat := (i % (2 ^ w : Int)).toNat

/-- An integer held within bounds. -/
def clampI (lo hi i : Int) : Int := if i < lo then lo else if hi < i then hi else i

/-- A number held within bounds. -/
def clampN (lo hi n : Nat) : Nat := if n < lo then lo else if hi < n then hi else n

/-! ### Lists in order -/

/-- An element put into an ordered list, before the first one it may precede. -/
def insertBy {α : Type} (le : α → α → Bool) (x : α) : List α → List α
  | [] => [x]
  | y :: ys => if le x y then x :: y :: ys else y :: insertBy le x ys

/-- A list in order; equal elements keep their order. -/
def sortBy {α : Type} (le : α → α → Bool) (l : List α) : List α := l.foldr (insertBy le) []

/-! ### Sorted association lists: the canonical form of registers, cells and slots -/

/-- The value at a key, or the default. -/
def alGet {α : Type} (k : Nat) (dflt : α) : List (Nat × α) → α
  | [] => dflt
  | (a, v) :: rest => if a = k then v else alGet k dflt rest

/-- The list without a key. -/
def alDel {α : Type} (k : Nat) : List (Nat × α) → List (Nat × α)
  | [] => []
  | (a, v) :: rest => if a = k then alDel k rest else (a, v) :: alDel k rest

/-- The list with a key set. -/
def alPut {α : Type} (k : Nat) (x : α) : List (Nat × α) → List (Nat × α)
  | [] => [(k, x)]
  | (a, v) :: rest =>
    if a = k then (k, x) :: rest else if k < a then (k, x) :: (a, v) :: rest else (a, v) :: alPut k x rest

/-- The list with a key set, in the canonical form that lists no default. -/
def alSet {α : Type} [DecidableEq α] (dflt : α) (k : Nat) (x : α) (l : List (Nat × α)) : List (Nat × α) :=
  if x = dflt then alDel k l else alPut k x l

/-- Whether the keys rise strictly from above `lo` and no value is the default of its key. -/
def alWf {α : Type} [DecidableEq α] (dflt : Nat → α) : Option Nat → List (Nat × α) → Bool
  | _, [] => true
  | lo, (a, v) :: rest =>
    (match lo with | none => true | some b => decide (b < a)) && decide (v ≠ dflt a) && alWf dflt (some a) rest

/-! ### Memory cells -/

/-- What an address that lists no byte reads as (DESIGN CHOICE, log entry 3). -/
def emptyByte : Byte := 0

/-- One byte of memory. -/
def Cells.read (m : Cells) (a : Nat) : Byte := alGet a emptyByte m

/-- One byte written. -/
def Cells.write (m : Cells) (a : Nat) (b : Byte) : Cells := alSet emptyByte a b m

/-- The canonical form of memory. -/
def Cells.wf (m : Cells) : Bool := alWf (fun _ => emptyByte) none m

/-- `n` bytes from an address. -/
def Cells.readN (m : Cells) (a : Nat) : Nat → List Byte
  | 0 => []
  | n + 1 => m.read a :: Cells.readN m (a + 1) n

/-- Bytes written from an address upward. -/
def Cells.writeN (m : Cells) (a : Nat) : List Byte → Cells
  | [] => m
  | b :: bs => Cells.writeN (m.write a b) (a + 1) bs

/-- A little-endian word of `n` bytes. -/
def Cells.le (m : Cells) (a n : Nat) : Nat := leNat (m.readN a n)

/-- Cells laid over cells: each listed byte of `upper` replaces the byte beneath. -/
def Cells.overlay (upper under : Cells) : Cells := upper.foldl (fun m c => m.write c.1 c.2) under

/-! ### Registers -/

/-- Whether a row of the register lists covers a page offset. -/
def RegRow.covers (r : RegRow) (off : Nat) : Bool :=
  decide (r.first ≤ off) && decide ((off - r.first) / r.stride < r.count)
    && decide ((off - r.first) % r.stride % 4 = 0) && decide ((off - r.first) % r.stride / 4 < r.words)

/-- The row of a block-specific register, if its page holds one at this address (R386, R392). -/
def regRow (addr : Nat) : Option RegRow :=
  (RegTable.ofPage (addr / 0x10000)).find? fun r => r.covers (addr % 0x10000)

/-- The reset word of a register (Tables 17.3 and 17.4); 0 where no register stands. -/
def resetWord (addr : Nat) : Word :=
  match regRow addr with
  | some r => r.reset
  | none => 0

/-- The stored word of a register. -/
def RegFile.get (r : RegFile) (addr : Nat) : Word := alGet addr (resetWord addr) r

/-- The register file with one word changed. -/
def RegFile.set (r : RegFile) (addr : Nat) (w : Word) : RegFile := alSet (resetWord addr) addr w r

/-- The canonical form of the register file. -/
def RegFile.wf (r : RegFile) : Bool := alWf resetWord none r

namespace Nv

/-- What the newest copy of the system records holds. -/
def sys (v : Nv) : SysRec := ⟨v.halves, v.spareRows, v.jWrites, v.rWrites, v.safeFlag, v.csig⟩

/-- A write of the system records: the older of the two copies takes the new content with the next sequence number, so
that the copy before it still stands (R249). -/
def sysWrite (v : Nv) (f : Nv → Nv) : Nv := { f v with older := v.sys, sysSeq := (v.sysSeq + 1) % 2 ^ 32 }

/-- The copy that wins when the newest reads invalid (R249). -/
def sysBack (v : Nv) : Nv :=
  let o := v.older
  { v with halves := o.halves, spareRows := o.spareRows, jWrites := o.jWrites, rWrites := o.rWrites,
           safeFlag := o.safeFlag, csig := o.csig, sysSeq := (v.sysSeq + 2 ^ 32 - 1) % 2 ^ 32 }

end Nv

namespace Dev

/-- The stored word of a register. -/
def rget (d : Dev) (addr : Nat) : Word := d.regs.get addr

/-- The device with the stored word of a register changed. -/
def rset (d : Dev) (addr : Nat) (w : Word) : Dev := { d with regs := d.regs.set addr w }

/-- The stored word of a register as a number. -/
def rnat (d : Dev) (addr : Nat) : Nat := (d.rget addr).toNat

/-- The device with a register set to a number. -/
def rsetN (d : Dev) (addr n : Nat) : Dev := d.rset addr (BitVec.ofNat 32 n)

/-- A field of a stored register. -/
def fget (d : Dev) (f : Fld) : Nat := bitsOf (d.rnat f.addr) f.hi f.lo

/-- The device with a field of a stored register changed. -/
def fset (d : Dev) (f : Fld) (v : Nat) : Dev := d.rsetN f.addr (setBits (d.rnat f.addr) f.hi f.lo v)

/-- A one-bit field. -/
def fbit (d : Dev) (f : Fld) : Bool := d.fget f = 1

/-- A one-bit field written. -/
def fput (d : Dev) (f : Fld) (b : Bool) : Dev := d.fset f (if b then 1 else 0)

/-- The largest value of a field. -/
def fmax (f : Fld) : Nat := 2 ^ (f.hi + 1 - f.lo) - 1

/-- A saturating count in a field. -/
def finc (d : Dev) (f : Fld) (n : Nat := 1) : Dev := d.fset f (min (fmax f) (d.fget f + n))

/-- A wrapping count in a field. -/
def fincWrap (d : Dev) (f : Fld) (n : Nat := 1) : Dev := d.fset f (d.fget f + n)

/-- A sticky cause: written only while the field is still 0 (Table 0.7, RWS). -/
def fsticky (d : Dev) (f : Fld) (v : Nat) : Dev := if d.fget f = 0 then d.fset f v else d

/-- The larger of the field and a value. -/
def fmaxTo (d : Dev) (f : Fld) (v : Nat) : Dev := d.fset f (max (d.fget f) (min v (fmax f)))

/-- The device with the stored word of a register at its reset word. -/
def rreset (d : Dev) (addr : Nat) : Dev := d.rset addr (resetWord addr)

/-! ### Settings in force (Table 16.5) -/

/-- Byte `i` of the settings in force. -/
def cfgByte (d : Dev) (i : Nat) : Nat := (d.settings.extractLsb' (8 * i) 8).toNat

/-- A little-endian field of the settings in force. -/
def cfgLe (d : Dev) (i n : Nat) : Nat := (d.settings.extractLsb' (8 * i) (8 * n)).toNat

/-- Bit `b` of byte `i` of the settings in force. -/
def cfgBit (d : Dev) (i b : Nat) : Bool := d.settings.getLsbD (8 * i + b)

/-- The role: 0 worker, 1 branch manager, 2 root (R1). -/
def role (d : Dev) : Nat := d.cfgByte 2

/-- Whether the settings make the device a member of a hot-standby pair; workers are not paired (R185). -/
def paired (d : Dev) : Bool := d.cfgBit 4 6 && d.role ≠ 0

/-- WLT_STAT.STATE (Table 8.10): 0 UNSYNC, 1 RESYNC, 2 SYNC, 3 SOLO, 4 HOLDER. -/
def wltState (d : Dev) : Nat := d.fget F.WLT_STAT_STATE

/-- HOLDER. -/
def isHolder (d : Dev) : Bool := d.paired && d.wltState = 4

/-- Whether this device performs the acts of Table 8.6: unpaired, or HOLDER with a valid lease (R201). -/
def acts (d : Dev) : Bool := !d.paired || (d.wltState = 4 && d.fbit F.WLT_STAT_LEASE_OK)

/-- Whether the holder copies and awaits: the partner is SYNC, or joins from the join beat on (R195, R209). -/
def followed (d : Dev) : Bool :=
  d.isHolder && d.fbit F.WLT_STAT_LINK_UP
    && (d.fget F.WLT_STAT_PEER = 2 || (match d.wlt.joinBeat with | some s => s ≤ d.tb / d.esc.period | none => false))

/-- Whether the holder copies its cycles: so too between the naming of the join beat and that beat, when the last chunk
of the resync has gone (R209). -/
def copies (d : Dev) : Bool :=
  d.isHolder && d.fbit F.WLT_STAT_LINK_UP && (d.fget F.WLT_STAT_PEER = 2 || d.wlt.joinBeat.isSome)

/-- Whether this member is crown holder over a SYNC standby. -/
def synced (d : Dev) : Bool := d.isHolder && d.fbit F.WLT_STAT_LINK_UP && d.fget F.WLT_STAT_PEER = 2

/-- Whether this member follows the crown holder's schedule: SYNC, or joining from the join beat on. -/
def follows (d : Dev) : Bool :=
  d.paired && (d.wltState = 2
    || (d.wltState = 1 && match d.wlt.joinBeat with | some s => decide (s ≤ d.tb / d.esc.period) | none => false))

/-- Whether this member takes the holder's copies: so too between the naming of the join beat and that beat (R209). -/
def takesCopies (d : Dev) : Bool := d.paired && (d.wltState = 2 || (d.wltState = 1 && d.wlt.joinBeat.isSome))

/-- The device with the counter of the free values advanced. -/
def nextFree (d : Dev) : Dev := { d with free := d.free + 1 }

/-! ### Tasks -/

/-- The tasks in progress, by number. -/
def activeTasks (d : Dev) : List Nat := (List.range 16).filter fun n => (d.esc.tasks.toList.getD n {}).active

/-- Task `n`. -/
def task (d : Dev) (n : Nat) : Task := d.esc.tasks.toList.getD n {}

/-- The priority of task `n`, 0 highest. -/
def prio (d : Dev) (n : Nat) : Nat := d.fget (F.ESC_TCFG_PRIO n)

/-- Task numbers in priority order, highest first. -/
def byPrio (d : Dev) (ns : List Nat) : List Nat :=
  (List.range 16).flatMap fun p => ns.filter fun n => d.prio n = p

/-- The task the trains serve: the highest-priority task in progress (R39); on a member that follows the crown holder,
first a task that has not come to the count at which the holder's was displaced (R192). -/
def served (d : Dev) : Option Nat :=
  let act := d.activeTasks.filter fun n => !(d.task n).halted
  match d.wlt.displaced.find? fun x => act.contains x.1 && decide ((d.task x.1).commits < x.2) with
  | some x => some x.1
  | none => (d.byPrio act).head?

/-! ### TALLY (R360) -/

/-- A 48-bit count held in a LO and a HI register; the Boolean says whether it wrapped. -/
def inc48 (d : Dev) (lo hi n : Nat) : Dev × Bool :=
  let v := d.rnat hi * 2 ^ 32 + d.rnat lo + n
  ((d.rsetN lo v).rsetN hi (v / 2 ^ 32 % 2 ^ 16), decide (2 ^ 48 ≤ v))

/-- One local counter, without the consequences of a wrap. -/
def incLocal (d : Dev) (b i n : Nat) : Dev :=
  let r := d.inc48 (A.TAL_L_LO b i) (A.TAL_L_HI b i) n
  if r.2 then
    let a := if b < 8 then A.TAL_OVF_LO else A.TAL_OVF_HI
    (r.1.rsetN a (r.1.rnat a ||| 2 ^ (4 * (b % 8) + i))).fput F.TAL_EVT_OVF true
  else r.1

/-- The programmable counters that count event `ev`. -/
def incProg (d : Dev) (ev n : Nat) : Dev :=
  (List.range 8).foldl (fun d k =>
    if d.fget (F.TAL_PSEL_EVENT k) = ev then
      let r := d.inc48 (A.TAL_PCNT_LO k) (A.TAL_PCNT_HI k) n
      if r.2 then (r.1.rsetN A.TAL_OVF_P (r.1.rnat A.TAL_OVF_P ||| 2 ^ k)).fput F.TAL_EVT_OVF true else r.1
    else d) d

/-- The local counter of its block that counts an event, 4 where none does: MOVEMENT's are those of Table 3.13, every
other block's count its events 0 to 3 (R77, R360, R362). -/
def localOf (ev : Nat) : Nat := if ev < 256 then [0, 4, 1, 2, 4, 4, 4, 3].getD ev 4 else min 4 (ev % 256)

/-- Whether some counter wraps when event `ev` counts `n` more. -/
def wraps (d : Dev) (ev n : Nat) : Bool :=
  (localOf ev < 4 && (d.inc48 (A.TAL_L_LO (ev / 256) (localOf ev)) (A.TAL_L_HI (ev / 256) (localOf ev)) n).2)
    || (List.range 8).any fun k =>
      d.fget (F.TAL_PSEL_EVENT k) = ev && (d.inc48 (A.TAL_PCNT_LO k) (A.TAL_PCNT_HI k) n).2

/-- The local counter and the programmable counters of an event count it. -/
def countEvent (d : Dev) (ev n : Nat) : Dev :=
  (if localOf ev < 4 then d.incLocal (ev / 256) (localOf ev) n else d).incProg ev n

/-- In MODE 2 the sampled event asks for a sample in the task that the trains serve (R363, DEDUCED, log entry 11). -/
def markSample (d : Dev) (ev : Nat) : Dev :=
  match d.served with
  | some k =>
    if d.fget F.TAL_SCTL_MODE = 2 && d.fget F.TAL_SCTL_EVENT = ev then
      { d with samplePend := d.samplePend ||| (1#16 <<< k) } else d
  | none => d

/-- Event `ev` counted `n` times; each wrap counts as TALLY event 0x02. -/
def count (d : Dev) (ev : Nat) (n : Nat := 1) : Dev :=
  let e := (d.countEvent ev n).markSample ev
  if d.wraps ev n then (e.countEvent 0xD02 1).markSample 0xD02 else e

/-! ### MSI-X (R370) -/

/-- The condition of a vector: some enabled event of its block. -/
def msixCond (d : Dev) (blk : Nat) : Bool :=
  (d.rget (blk * 0x10000 + 0x10) &&& d.rget (blk * 0x10000 + 0x14)) != 0

/-- Whether a message of a vector may leave now. -/
def msixOpen (d : Dev) (v : Nat) : Bool :=
  d.fbit F.HST_STAT_MSIX_EN && d.fbit F.HST_STAT_BUS_MASTER && !d.hst.funcMask
    && !d.fbit (F.HST_MSIX_VC_MASK v) && d.fbit F.HST_STAT_LINK_UP

/-- The message of a vector. -/
def msixSend (d : Dev) (v : Nat) : Dev :=
  let m := Emission.msix v (d.rnat (A.HST_MSIX_AHI v) * 2 ^ 32 + d.rnat (A.HST_MSIX_ALO v)) (d.rget (A.HST_MSIX_DATA v))
  count { d with sent := m :: d.sent } 0xE01

/-- A vector's condition arises: the message leaves, is held pending, or counts as signalled. -/
def msixSignal (d : Dev) (v : Nat) : Dev :=
  if !d.acts || !d.fbit F.HST_STAT_MSIX_EN then d
  else if d.msixOpen v then d.msixSend v
  else d.rsetN A.HST_PBA (d.rnat A.HST_PBA ||| 2 ^ v)

/-- A vector's condition has returned to zero: a pending message is withdrawn. -/
def msixClear (d : Dev) (v : Nat) : Dev :=
  d.rset A.HST_PBA (d.rget A.HST_PBA &&& ~~~ (1#32 <<< v))

/-- The consequences for a block's vector of a change of its events or enables. -/
def msixEdge (before d : Dev) (blk : Nat) : Dev :=
  if before.msixCond blk then (if d.msixCond blk then d else d.msixClear blk)
  else if d.msixCond blk then d.msixSignal blk else d

/-- Every pending message that may leave now leaves (R370). -/
def msixFlush (d : Dev) : Dev :=
  (List.range 17).foldl (fun d v =>
    if (d.rget A.HST_PBA).getLsbD v && d.msixOpen v && d.acts then (d.msixClear v).msixSend v else d) d

/-- Event `ev` (block index times 256 plus event) occurs `n` times (R360); a wrap raises TAL_EVT.OVF. -/
def tally (d : Dev) (ev : Nat) (n : Nat := 1) : Dev :=
  if d.wraps ev n then msixEdge d (d.count ev n) 13 else d.count ev n

/-- An event bit of a block is raised. -/
def raise (d : Dev) (f : Fld) : Dev := msixEdge d (d.fput f true) (f.addr / 0x10000)

/-! ### Live words: registers whose value is computed from the state -/

/-- The state code of SVC_STAT.STATE (Table 16.9). -/
def stateCode (d : Dev) : Nat :=
  match d.st with
  | .off => 1
  | .boot => 1
  | .stop => 2
  | .run => 3
  | .safe => 4

/-- Whether no task is in progress, nor waits for the verdict on its cycle. -/
def noneInProgress (d : Dev) : Bool :=
  (List.range 16).all fun n => !(d.task n).active && (d.task n).ended.isNone

/-- Task `n` changed. -/
def setTask (d : Dev) (n : Nat) (t : Task) : Dev :=
  { d with esc := { d.esc with tasks := d.esc.tasks.setIfInBounds n t } }

/-- Task `n` changed by a function. -/
def modTask (d : Dev) (n : Nat) (f : Task → Task) : Dev := d.setTask n (f (d.task n))

/-- The strand instance on a train. -/
def run (d : Dev) (t : Nat) : Option Run := d.mov.trains.toList.getD t none

/-- The instances in flight with their trains, oldest first. -/
def flight (d : Dev) : List (Nat × Run) :=
  sortBy (fun a b => a.2.age ≤ b.2.age) ((List.range 4).filterMap fun t => (d.run t).map fun r => (t, r))

/-- The head: the oldest instance in flight (R53). -/
def headTrain (d : Dev) : Option Nat := d.flight.head?.map (·.1)

/-- A Boolean as a number. -/
def b2n (b : Bool) : Nat := if b then 1 else 0

/-- The window entries an instance occupies (R52): an instruction issues and retires in one command, so that the only
one is that of an instruction that waits (DESIGN CHOICE, log entry 63). -/
def inFlight (r : Run) : Nat := b2n (r.wait.isSome && r.exit.isNone)

/-- Whether the device has a time source (Table 6.1): a member or branch manager of a configured ring, and the standby
of a root pair. A device whose image configures no ring has none (DEDUCED, log entry 6). -/
def hasSource (d : Dev) : Bool := if d.role = 2 then d.paired && d.wltState ≠ 4 else decide (d.fget F.LAC_TB_TB ≠ 0)

/-- GT_LOCK as the device acts on it (R130). -/
def gtLock (d : Dev) : Bool := !d.hasSource || d.fbit F.REG_STAT_GT_LOCK

/-- Whether a loop steps (R285, R297). -/
def loopSteps (d : Dev) (n : Nat) : Bool :=
  d.fbit (F.LOP_CFG_EN n) && !d.fbit (F.LOP_STS_FAULT n) && d.st = .run && (!d.paired || d.isHolder)

/-- A CAN controller. -/
def canc (d : Dev) (c : Nat) : CanSt := d.can.toList.getD c {}

/-- INIT of a CAN controller. -/
def canInit (d : Dev) (c : Nat) : Bool := d.fget F.CAN_CTL_INIT / 2 ^ c % 2 = 1

/-- STATE of a CAN controller (Table 14.6): 0 active, 1 passive, 2 bus-off, 3 recovering. -/
def canState (d : Dev) (c : Nat) : Nat := d.fget (F.CAN_ERR_STATE c)

/-- Whether a CAN controller takes part in bus traffic (R326, R333, R337). -/
def canActive (d : Dev) (c : Nat) : Bool :=
  (d.st = .stop || d.st = .run || d.st = .safe) && !d.canInit c && (d.canc c).integrated && d.canState c ≤ 1

/-- Whether listen-only is in force (R337). -/
def canListen (d : Dev) (c : Nat) : Bool := d.fbit (F.CAN_CFG_LISTEN c) || !d.acts

/-- The word a page answers for a register, before the per-requester rules: stored, or computed from the state. -/
def live (d : Dev) (addr : Nat) : Word :=
  let blk := addr / 0x10000
  let off := addr % 0x10000
  if off = 0x4 then 0x96400100#32
  else if off = 0x0 then
    let code := match blk with
      | 0 => 0x4D4F56 | 1 => 0x455343 | 2 => 0x524547 | 3 => 0x4C4143 | 4 => 0x574C54 | 5 => 0x574B4D
      | 6 => 0x4B4550 | 7 => 0x464C44 | 8 => 0x4C4F50 | 9 => 0x534146 | 10 => 0x43414E | 11 => 0x574447
      | 12 => 0x524543 | 13 => 0x54414C | 14 => 0x485354 | _ => 0x535643
    BitVec.ofNat 32 (code * 256 + blk)
  else if addr = A.ESC_STAT then
    let base := d.rget addr &&& 0x80000000#32
    let halted := (List.range 16).foldl (fun n k => n + b2n (d.task k).halted * 2 ^ k) 0
    match d.served with
    | some n => base ||| BitVec.ofNat 32 (n * 2 ^ 16 + halted)
    | none => base ||| BitVec.ofNat 32 (2 ^ 20 + halted)
  else if addr = A.MOV_STAT then
    let busy := (List.range 4).foldl (fun n t => n + b2n (d.run t).isSome * 2 ^ t) 0
    let base := (d.rget addr &&& 0x80000000#32) ||| BitVec.ofNat 32 (busy * 2 ^ 16)
    match d.flight.head? with
    | some (t, r) => base ||| BitVec.ofNat 32 (2 ^ 10 + t * 2 ^ 8 + r.task)
    | none => base
  else if A.MOV_TRAIN 0 ≤ addr && addr ≤ A.MOV_TRAIN 3 then
    match d.run ((addr - A.MOV_TRAIN 0) / 4) with
    | some r => BitVec.ofNat 32 (2 ^ 31 + b2n (d.headTrain = some ((addr - A.MOV_TRAIN 0) / 4)) * 2 ^ 30
        + b2n r.wait.isSome * 2 ^ 29 + r.task * 2 ^ 24 + r.sid * 2 ^ 12 + b2n r.cont * 2 ^ 11 + inFlight r)
    | none => 0
  else if addr = A.REG_TB_LO then BitVec.ofNat 32 d.tb
  else if addr = A.REG_TB_HI then BitVec.ofNat 32 (d.tb / 2 ^ 32)
  else if A.ESC_TCFG 0 ≤ addr && addr < A.ESC_TCFG 16 && (addr - A.ESC_TCFG 0) % 0x20 = 0xC then
    let t := d.task ((addr - A.ESC_TCFG 0) / 0x20)
    d.rget addr ||| BitVec.ofNat 32
      (b2n t.halted * 2 ^ 31 + b2n t.active * 2 ^ 30 + b2n t.pendingAlert * 2 ^ 29)
  else if addr = A.ESC_ALERT_PEND then
    BitVec.ofNat 32 ((List.range 16).foldl (fun n k =>
      if (d.task k).pendingAlert then n ||| 2 ^ d.fget (F.ESC_TCFG_ALERT k) else n) 0)
  else if addr = A.WDG_ELAPSED then
    if d.fget F.WDG_STAT_STATE = 1 then BitVec.ofNat 32 (min 0xFFFFFF ((d.tb - d.wdg.r) / 1000))
    else d.rget addr
  else if addr = A.WDG_STAT then
    d.rget addr ||| BitVec.ofNat 32 d.wdg.dupTasks.toNat
  else if addr = A.REC_QUEUE then BitVec.ofNat 32 d.rcd.queue.length
  else if addr = A.REC_STAT then
    if d.rcd.scanning then d.rget addr ||| 1#32 else d.rget addr &&& ~~~ 1#32
  else if addr = A.SVC_STAT then
    BitVec.ofNat 32 (setBits (d.rnat addr) 10 8 d.stateCode)
  else if addr = A.REG_STAT then BitVec.ofNat 32 (setBits (d.rnat addr) 1 1 (b2n d.gtLock))
  else if addr = A.WKM_WATCH then BitVec.ofNat 32 d.watch.length
  else if addr = A.LOP_STAT then
    d.rget addr ||| BitVec.ofNat 32 ((List.range 64).filter d.loopSteps).length
  else if addr = A.CAN_STAT then
    d.rget addr ||| BitVec.ofNat 32 (b2n (d.canListen 1) * 8 + b2n (d.canListen 0) * 4 + b2n (d.canActive 1) * 2
      + b2n (d.canActive 0))
  else if addr = A.HST_IDS then BitVec.ofNat 32 (0x9640 * 2 ^ 16 + d.factory.vendorId.toNat)
  else d.rget addr

/-- The snapshot words of an entry for which the spec names none (R351): STAT, EVT and FLT of the block and the nine
words from offset 0x040. -/
def snapOf (d : Dev) (blk : Nat) : List Word :=
  let p := blk * 0x10000
  [d.live (p + 0xC), d.live (p + 0x10), d.live (p + 0x18)]
    ++ (List.range 9).map fun k => d.live (p + 0x40 + 4 * k)

/-! ### RECORDER: occurrences (R354, R355) -/

/-- Whether a source is privileged (R350). -/
def privileged (src : Nat) : Bool := decide (src < 8)

/-- The time base in µs, bits [47:0] (R351). -/
def tsNow (d : Dev) : Nat := d.tb / 1000 % 2 ^ 48

/-- Whether an occurrence at `now` (µs) merges into an entry (R354). -/
def mergesInto (d : Dev) (e : RecEntry) (src code now : Nat) : Bool :=
  e.source = src && e.code = code
    && decide (now ≤ e.ts + 1000 * e.delta + 1000 * clampN 1 60000 (d.fget F.REC_RPTWIN_MS))

/-- An entry after one more repeat (R354). -/
def merged (e : RecEntry) (now : Nat) : RecEntry :=
  { e with rep := min 65535 (e.rep + 1), delta := min 65535 ((now - e.ts) / 1000) }

/-- The position of the newest queued entry of a source. -/
def newestQueued (d : Dev) (src : Nat) : Option Nat :=
  ((List.range d.rcd.queue.length).filter fun i =>
    match d.rcd.queue[i]? with
    | some e => e.source = src
    | none => false).getLast?

/-- A loss at ingress. -/
def recLost (d : Dev) (src : Nat) : Dev :=
  let d := { d with rcd := { d.rcd with lostMask := d.rcd.lostMask ||| (1#64 <<< src), lostN := d.rcd.lostN + 1 } }
  ((d.finc (F.REC_LOST_LOST (src % 64))).raise F.REC_EVT_LOST).tally 0xC02

/-- An entry enters the ingress queue, possibly displacing one, or is lost (R355). -/
def recEnqueue (d : Dev) (e : RecEntry) : Dev :=
  if d.rcd.queue.length < 32 then { d with rcd := { d.rcd with queue := d.rcd.queue ++ [e] } }
  else if !privileged e.source then d.recLost e.source
  else
    let top := d.rcd.queue.foldl (fun m x => max m x.source) 0
    if top < 8 then d.recLost e.source
    else
      match d.newestQueued top with
      | some i => ({ d with rcd := { d.rcd with queue := d.rcd.queue.eraseIdx i ++ [e] } }).recLost top
      | none => d.recLost e.source

/-- An occurrence that merges into no record: a new entry; with the ordinary area full an ordinary one is only counted
(R352, R355). -/
def occurFresh (d : Dev) (src code : Nat) (snap : List Word) : Dev :=
  if !privileged src && d.fbit F.REC_STAT_ORD_FULL then d.finc F.REC_LOST_ORD_LOST
  else d.recEnqueue ⟨src, code, d.tsNow, 0, 0, snap.take 12⟩

/-- An occurrence that merges into the queued entry `i` of its source, where it may (R354). -/
def occurQueued (d : Dev) (src code : Nat) (snap : List Word) (i : Nat) (e : RecEntry) : Dev :=
  if d.mergesInto e src code d.tsNow then
    ({ d with rcd := { d.rcd with queue := d.rcd.queue.set i (merged e d.tsNow) } }).tally 0xC01
  else d.occurFresh src code snap

/-- An occurrence that merges into the written record of its source in a slot, where it may (R354). -/
def occurWritten (d : Dev) (src code : Nat) (snap : List Word) (slot : Nat) (e : RecEntry) : Dev :=
  if d.mergesInto e src code d.tsNow then
    let e' := merged e d.tsNow
    ({ d with rcd := { d.rcd with
        lastW := d.rcd.lastW.map fun (x : Nat × Nat × RecEntry) => if x.1 = src then (src, slot, e') else x,
        merged := alPut slot (e'.rep, e'.delta) d.rcd.merged } }).tally 0xC01
  else d.occurFresh src code snap

/-- A source raises an occurrence with given snapshot words: it merges into the source's newest record or is a new
entry (R354, R355). -/
def occur (d : Dev) (src code : Nat) (snap : List Word) : Dev :=
  match d.newestQueued src with
  | some i =>
    match d.rcd.queue[i]? with
    | some e => d.occurQueued src code snap i e
    | none => d.occurFresh src code snap
  | none =>
    match d.rcd.lastW.find? fun (x : Nat × Nat × RecEntry) => x.1 = src with
    | some (_, slot, e) => d.occurWritten src code snap slot e
    | none => d.occurFresh src code snap

/-- An occurrence with the default snapshot of the raising block (R351). -/
def occurBlk (d : Dev) (src code blk : Nat) : Dev := d.occur src code (d.snapOf blk)

/-- An event bit raised together with the ordinary entry it accompanies (Table 15.8). -/
def raiseRec (d : Dev) (f : Fld) : Dev :=
  let blk := f.addr / 0x10000
  let d := d.raise f
  d.occurBlk (8 + blk) f.lo blk

/-! ### Check classes (R23) -/

/-- A failure of one of the classes that a member's FAULT bit counts (R198): STRAND, WKM_CORR, WKM_UNCORR, KEEP_CORR,
KEEP_UNCORR, FIELD_LINK. -/
def countCheck (d : Dev) (n : Nat) : Dev := if n ≤ 4 || n = 8 then { d with checkN := d.checkN + 1 } else d

/-- A check failure of class `n` that its retry cleared. -/
def transient (d : Dev) (n : Nat) : Dev := (d.countCheck n).finc (F.SVC_HLTH_T_TRANSIENT n)

/-- A check failure of class `n` that its retry did not clear: the count and the privileged entry of source 6. -/
def lasting (d : Dev) (n blk : Nat) : Dev :=
  ((d.countCheck n).finc (F.SVC_HLTH_L_LASTING n)).occurBlk 6 (blk * 256 + n) blk

/-- A pair-wide recorder entry: written by the member that acts (Table 8.6). -/
def occurPair (d : Dev) (src code : Nat) (snap : List Word) : Dev := if d.acts then d.occur src code snap else d

/-- A fault whose reaction is SAFE or, in a pair, crown handover: it takes effect at the next base beat (R200). -/
def safeFault (d : Dev) : Dev :=
  if d.st = .run || d.st = .stop then { d with esc := { d.esc with safeFault := true } } else d

/-! ### Alerts (R40, R41) -/

/-- An alert source raises an alert: it becomes the pending alert of each task that names it, or merges. -/
def alert (d : Dev) (src : Nat) : Dev :=
  (List.range 16).foldl (fun d n =>
    if d.fbit (F.ESC_TCFG_EN n) && d.fbit (F.ESC_TCFG_TRIG n) && d.fget (F.ESC_TCFG_ALERT n) = src
        && !(d.task n).halted then
      if (d.task n).pendingAlert then
        (((d.finc (F.ESC_TSTAT_COAL n)).raiseRec F.ESC_EVT_ALERT_COAL)).tally 0x105
      else
        d.modTask n fun t => { t with pendingAlert := true }
    else d) d

/-! ### What leaves the device on LACE -/

/-- An emission. -/
def emit (d : Dev) (e : Emission) : Dev :=
  if d.tbStopped && e.fromLink then d else { d with sent := e :: d.sent }

/-- Time is taken into the reserve's account up to now: `busy` grows while some task is active (R48). -/
def escMark (d : Dev) : Dev :=
  let busy := if d.activeTasks = [] then 0 else d.tb - d.esc.mark
  { d with esc := { d.esc with busy := d.esc.busy + busy, mark := d.tb } }

/-- Whether a role uses a port: a worker leaves C and D unused (R153). -/
def portInUse (d : Dev) (p : Nat) : Bool := p < 2 || d.role ≠ 0

/-- Whether a port's transmitter is on: an unused port's is off while DARK_UNUSED is 1 (R153), a folded port's too
(R174). -/
def transmits (d : Dev) (p : Nat) : Bool :=
  !d.fbit (F.LAC_PORT_FOLD p) && (d.portInUse p || !d.fbit F.LAC_CTL_DARK_UNUSED)

/-- Whether a port is up, not folded and in service. -/
def portUsable (d : Dev) (p : Nat) : Bool :=
  d.fbit (F.LAC_PORT_UP p) && !d.fbit (F.LAC_PORT_FOLD p) && !d.fbit (F.LAC_PORT_OUT p)

/-- The station's own address. -/
def ownAddr (d : Dev) : Nat := d.fget F.LAC_ADDR_ADDR

/-- The crown epoch that this device's frames carry. -/
def ownEpoch (d : Dev) : Nat := if d.paired then d.rnat A.WLT_EPOCH else 0

/-- A management frame leaves on the level-0 ring (R202). -/
def mgmtSend (d : Dev) (l : Lease) : Dev :=
  if d.portUsable 0 then d.emit (.laceMsg 0 (.mgmt d.ownEpoch l))
  else if d.portUsable 1 then d.emit (.laceMsg 1 (.mgmt d.ownEpoch l))
  else d

end Dev

end Sys2Proof.Machine
end

