-- ==== Sys2Proof/Machine/Operands.lean ====
section
/-! DEFINITION. The operand forms of Table 4.2 over the body, bits [23:0], of an instruction, the encoding checks of
R82, and the reads and writes of a task's registers. -/

namespace Sys2Proof.Machine

/-- Bits [23:0] of an instruction. -/
abbrev Body := BitVec 24

/-- A field of the body. -/
def fldB (b : Body) (hi lo : Nat) : Nat := bitsOf b.toNat hi lo

/-- D, S, T of formats WR and WI. -/
def fD (b : Body) : Nat := fldB b 23 20
def fS (b : Body) : Nat := fldB b 19 16
def fT (b : Body) : Nat := fldB b 15 12
/-- IMM12. -/
def fImm12 (b : Body) : Nat := fldB b 11 0
/-- IMM16. -/
def fImm16 (b : Body) : Nat := fldB b 15 0
/-- L of formats B, L, T and C. -/
def fL (b : Body) : Nat := fldB b 23 21
/-- BIT of format B. -/
def fBit (b : Body) : Nat := fldB b 20 0
/-- X of format L. -/
def fX (b : Body) : Nat := fldB b 3 0
/-- P of formats T and C. -/
def fP (b : Body) : Nat := fldB b 20 17

/-- IMM12 sign-extended to 32 bits. -/
def sext12 (b : Body) : Nat := unsigned 32 (signed 12 (fImm12 b))

/-- Whether a field names a pair (R80). -/
def pairOk (i : Nat) : Bool := i % 2 = 0

/-- The registers and FLAGS fields an instruction reads (R61). -/
structure Srcs where
  w : List Nat := []
  l : List Nat := []
  fl : Word := 0
  rs : Bool := false
  deriving DecidableEq, Repr

/-- Word register `i`. -/
def Regs.getW (r : Regs) (i : Nat) : Nat := (r.w.toList.getD i 0).toNat

/-- The pair named by `i` (R80). -/
def Regs.getD (r : Regs) (i : Nat) : Nat := r.getW i + r.getW (i + 1) * 2 ^ 32

/-- Accumulator `i`. -/
def Regs.getL (r : Regs) (i : Nat) : Bool := r.l.toList.getD i false

/-- Word register `i` written. -/
def Regs.setW (r : Regs) (i v : Nat) : Regs := { r with w := r.w.setIfInBounds i (BitVec.ofNat 32 v) }

/-- Accumulator `i` written. -/
def Regs.setL (r : Regs) (i : Nat) (v : Bool) : Regs := { r with l := r.l.setIfInBounds i v }

namespace Run

/-- An instance after a write of word register `i`, which becomes its own (R61). -/
def putW (r : Run) (i v : Nat) : Run :=
  { r with regs := r.regs.setW i v, owned := { r.owned with w := r.owned.w ||| (1#16 <<< i) } }

/-- An instance after a write of a pair. -/
def putD (r : Run) (i v : Nat) : Run := (r.putW i (v % 2 ^ 32)).putW (i + 1) (v / 2 ^ 32)

/-- An instance after a write of accumulator `i`. -/
def putL (r : Run) (i : Nat) (v : Bool) : Run :=
  { r with regs := r.regs.setL i v, owned := { r.owned with l := r.owned.l ||| (1#8 <<< i) } }

/-- An instance after a write of FLAGS. -/
def putF (r : Run) (f : FlagWrite) : Run :=
  { r with regs := { r.regs with flags := f.apply r.regs.flags },
           owned := { r.owned with fl := r.owned.fl ||| f.owns } }

/-- An instance after a write of a result with its flags. -/
def putRes (r : Run) (i : Nat) (x : Res) : Run := (r.putW i x.1).putF x.2

/-- An instance after a write of a pair result with its flags. -/
def putResD (r : Run) (i : Nat) (x : Res) : Run := (r.putD i x.1).putF x.2

/-- Every register of the instance becomes its own and zero (R56). -/
def zeroed (r : Run) : Run :=
  { r with regs := { r.regs with w := Vector.replicate 16 0, l := Vector.replicate 8 false, flags := 0 },
           owned := { r.owned with w := BitVec.allOnes 16, l := BitVec.allOnes 8, fl := BitVec.allOnes 32 },
           delay := [] }

/-- The instance moves past its instruction. -/
def advance (r : Run) : Run := { r with pc := r.pc + 4 }

end Run

namespace Dev

/-- The instances in flight older than a given age, youngest first. -/
def olderRuns (d : Dev) (age : Nat) : List Run :=
  ((d.flight.map (·.2)).filter fun r => r.age < age).reverse

/-- Whether every older instance has reached its end (R61). -/
def olderEnded (d : Dev) (age : Nat) : Bool := (d.olderRuns age).all fun r => r.exit.isSome

/-- The registers as an instance's next instruction reads them: its own where written, else those of the youngest
older instance that wrote them, else the committed ones (R61); registers under a load delay read as before the load
(R97). -/
def seen (d : Dev) (r : Run) : Regs :=
  let older := d.olderRuns r.age
  let base := (d.task r.task).regs
  let pickW (i : Nat) : Word :=
    match (r :: older).find? fun x => x.owned.w.getLsbD i with
    | some x => x.regs.w.toList.getD i 0
    | none => base.w.toList.getD i 0
  let oldW (i : Nat) : Word :=
    match older.find? fun x => x.owned.w.getLsbD i with
    | some x => x.regs.w.toList.getD i 0
    | none => base.w.toList.getD i 0
  let pickL (i : Nat) : Bool :=
    match (r :: older).find? fun x => x.owned.l.getLsbD i with
    | some x => x.regs.l.toList.getD i false
    | none => base.l.toList.getD i false
  let pickF (i : Nat) : Bool :=
    match (r :: older).find? fun x => x.owned.fl.getLsbD i with
    | some x => x.regs.flags.getLsbD i
    | none => base.flags.getLsbD i
  let rs :=
    match (r :: older).find? fun x => x.owned.rs with
    | some x => (x.regs.rs, x.regs.d)
    | none => (base.rs, base.d)
  let w := (List.range 16).foldl (fun (v : Vector Word 16) i => v.setIfInBounds i (pickW i)) (Vector.replicate 16 0)
  let w := r.delay.foldl (fun (v : Vector Word 16) x =>
    v.setIfInBounds x.1 (if x.2.1 then x.2.2 else oldW x.1)) w
  { w := w,
    l := (List.range 8).foldl (fun (v : Vector Bool 8) i => v.setIfInBounds i (pickL i)) (Vector.replicate 8 false),
    flags := BitVec.ofNat 32 ((List.range 18).foldl (fun n i => n + b2n (pickF i) * 2 ^ i) 0),
    rs := rs.1, d := rs.2 }

/-- Whether the registers an instruction reads are at hand, or must wait for older instances (R61). -/
def ready (d : Dev) (r : Run) (s : Srcs) : Bool :=
  d.olderEnded r.age
    || ((s.w.all fun i =>
          match r.delay.find? fun x => x.1 = i with
          | some x => x.2.1
          | none => r.owned.w.getLsbD i)
        && (s.l.all fun i => r.owned.l.getLsbD i)
        && (s.fl &&& ~~~ r.owned.fl) = 0
        && (!s.rs || r.owned.rs))

/-- A load delay with every old value resolved, for a continuation (R97). -/
def delayNow (d : Dev) (r : Run) : List (Nat × Bool × Word) :=
  r.delay.map fun x => (x.1, true, (d.seen r).w.toList.getD x.1 0)

end Dev

end Sys2Proof.Machine
end

