-- ==== Sys2Proof/Machine/Tally.lean ====
section
/-! DEFINITION. TALLY (R360 to R365): snapshots, precise sampling and the bandwidth windows. -/

namespace Sys2Proof.Machine

namespace Dev

/-- A snapshot of all counters, the beat counter and the time base (R361). -/
def snapshot (d : Dev) : Dev :=
  let e := (List.range 128).foldl (fun e k => e.rset (A.TAL_SL k) (d.rget (A.TAL_L_LO 0 0 + 4 * k))) d
  let e := (List.range 8).foldl (fun e k =>
    (e.rset (A.TAL_SP (2 * k)) (d.rget (A.TAL_PCNT_LO k))).rset (A.TAL_SP (2 * k + 1)) (d.rget (A.TAL_PCNT_HI k))) e
  let e := (e.rsetN A.TAL_SBEAT_LO d.beatCnt).rsetN A.TAL_SBEAT_HI (d.beatCnt / 2 ^ 32 % 2 ^ 16)
  let e := (e.rsetN A.TAL_STB_LO d.tb).rsetN A.TAL_STB_HI (d.tb / 2 ^ 32)
  ((e.rsetN A.TAL_SNAPSEQ (d.rnat A.TAL_SNAPSEQ + 1)).raise F.TAL_EVT_SNAP).tally 0xD00

/-- One beat on the central beat counter (R360). -/
def countBeat (d : Dev) : Dev :=
  if d.beatCnt + 1 = 2 ^ 48 then
    (({ d with beatCnt := 0 }).fput F.TAL_OVF_P_BEAT true).raise F.TAL_EVT_OVF |>.tally 0xD02
  else { d with beatCnt := d.beatCnt + 1 }

/-- One sample goes to the buffer, or is not stored (R363). The latency is a free value: the model leaves timing out
(DESIGN CHOICE, log entry 11). -/
def storeSample (d : Dev) (pc : Word) (train task sid : Nat) (letDown : Bool) : Dev :=
  if d.fbit F.TAL_STAT_SFULL && d.fbit F.TAL_SCTL_FREEZE then d.tally 0xD03
  else
    let e := d.fget F.TAL_SNEXT_ENTRY
    let full := d.fget F.TAL_STAT_SAMPLES = 255
    let d := d.rset (A.TAL_SMP_PC e) pc
    let d := d.rsetN (A.TAL_SMP_INFO e) (train * 2 ^ 30 + task * 2 ^ 26 + sid * 2 ^ 14 + b2n letDown * 2 ^ 13)
    let d := (d.rset (A.TAL_SMP_LAT e) (Config.openWord d.free)).nextFree
    let d := d.rsetN (A.TAL_SMP_TB e) d.tb
    let d := d.fset F.TAL_SNEXT_ENTRY (e + 1)
    let d := d.fset F.TAL_STAT_SAMPLES (min 256 (d.fget F.TAL_STAT_SAMPLES + 1))
    let d := if full then (d.fput F.TAL_STAT_SFULL true).raise F.TAL_EVT_SFULL else d
    d.tally 0xD01

/-- The committed instructions of an instance pass the sampler (R363). -/
def sampleCommit (d : Dev) (train : Nat) (r : Run) : Dev :=
  r.issued.foldl (fun d i =>
    match d.fget F.TAL_SCTL_MODE with
    | 1 =>
      if d.sampleCnt = d.fget F.TAL_SCTL_N_M1 then
        ({ d with sampleCnt := 0 }).storeSample i.1 train r.task r.sid r.letDown
      else { d with sampleCnt := d.sampleCnt + 1 }
    | 2 =>
      if d.samplePend.getLsbD r.task then
        ({ d with samplePend := d.samplePend &&& ~~~ (1#16 <<< r.task) }).storeSample i.1 train r.task r.sid r.letDown
      else d
    | _ => d) d

/-- The sample buffer emptied by a write to TAL_SCTL (R363). -/
def sampleClear (d : Dev) : Dev :=
  ((({ d with sampleCnt := 0, samplePend := 0 }).fset F.TAL_STAT_SAMPLES 0).fput F.TAL_STAT_SFULL false).fset
    F.TAL_SNEXT_ENTRY 0

/-- A programmable counter zeroed by a new selection (R360). -/
def progClear (d : Dev) (k : Nat) : Dev := (d.rsetN (A.TAL_PCNT_LO k) 0).rsetN (A.TAL_PCNT_HI k) 0

/-- Bytes sent by a port of Table 15.19 (R364). -/
def bytesOut (d : Dev) (p n : Nat) : Dev := { d with bwTx := d.bwTx.setIfInBounds p (d.bwTx.toList.getD p 0 + n) }

/-- Bytes received by a port of Table 15.19 (R364). -/
def bytesIn (d : Dev) (p n : Nat) : Dev := { d with bwRx := d.bwRx.setIfInBounds p (d.bwRx.toList.getD p 0 + n) }

/-- The end of a bandwidth window (R364). -/
def bandwidthEnd (d : Dev) : Dev :=
  let e := (List.range 9).foldl (fun e p =>
    (e.rsetN (A.TAL_BW_TX p) (d.bwTx.toList.getD p 0)).rsetN (A.TAL_BW_RX p) (d.bwRx.toList.getD p 0)) d
  { e with bwTx := Vector.replicate 9 0, bwRx := Vector.replicate 9 0 }

/-- The bandwidth window in µs, clamped (Table 15.17). -/
def bwWindow (d : Dev) : Nat := clampN 1 1000000 (d.fget F.TAL_BWWIN_US)

end Dev

end Sys2Proof.Machine
end

