-- ==== Sys2Proof/Machine/Watch.lean ====
section
/-! DEFINITION. WATCH (R341 to R348): check-ins, services, close, the mutual check of the clocks, and what a watchdog
fault captures. -/

namespace Sys2Proof.Machine

namespace Dev

/-- WDG_STAT.STATE (Table 15.4). -/
def wdgState (d : Dev) : Nat := d.fget F.WDG_STAT_STATE

/-- The time since the restart instant, in ns of the counting clock; domain 12 runs at the rate last measured
(DEDUCED, log entry 10). -/
def wdgElapsed (d : Dev) : Nat :=
  let e := d.tb - d.wdg.r
  if d.fbit F.WDG_CTL_SRC_RC && d.fget F.WDG_RATIO_RC ≠ 0 then e * d.fget F.WDG_RATIO_RC / 1024 else e

/-- The window restarts: PERIOD and OPEN are taken, clamped to their ranges (R341). -/
def wdgRestart (d : Dev) (r : Nat) : Dev :=
  let p := clampN 100 10000000 (d.fget F.WDG_PERIOD_PERIOD)
  let o := clampN 10 (p - 10) (d.fget F.WDG_OPEN_OPEN)
  { d with wdg := { d.wdg with r := r, period := p, opn := o } }

/-- CHK, DUP and the counts cleared. -/
def wdgClear (d : Dev) : Dev :=
  (((({ d with wdg := { d.wdg with dupTasks := 0 } }).fset F.WDG_MASK_CHK 0).rsetN A.WDG_CNT_LO 0).rsetN A.WDG_CNT_HI 0)

/-- The expected mask rebuilt: each present task that is not halted; 0 without required check-ins (R343). -/
def wdgExpect (d : Dev) : Dev :=
  let m := (List.range 16).foldl (fun n k =>
    n + b2n (d.fbit (F.ESC_TCFG_EN k) && !(d.task k).halted) * 2 ^ k) 0
  d.fset F.WDG_MASK_EXP (if d.fbit F.WDG_CTL_CHKIN_EN then m else 0)

/-- The watchdog starts at a release beat, suspended while an OTP burn lasts (R346). -/
def wdgStart (d : Dev) (r : Nat) : Dev :=
  ((d.wdgRestart r).wdgClear).fset F.WDG_STAT_STATE (if d.fbit F.SVC_STAT_BURNING then 3 else 1)

/-- The watchdog suspended in STOP, SAFE or a step; FAULTED stays (R346, R348). -/
def wdgSuspend (d : Dev) : Dev := if d.wdgState = 1 || d.wdgState = 3 then d.fset F.WDG_STAT_STATE 2 else d

/-- The fault PC of a task for cases other than a trap or a lasting STRAND fault (R47). -/
def faultPc (d : Dev) (n : Nat) : Word :=
  match d.flight.head? with
  | some (_, r) =>
    if r.task = n then r.lastPc.getD r.start
    else ((d.task n).lastPc).getD (d.task n).pc
  | none => ((d.task n).lastPc).getD (d.task n).pc

/-- The snapshot of the watchdog's entry (Table 15.1). -/
def wdgSnap (d : Dev) (cause : Nat) : List Word :=
  let act := d.activeTasks
  let mask := act.foldl (fun n k => n + 2 ^ k) 0
  let pcs := ((d.byPrio act).take 4).map d.faultPc
  [BitVec.ofNat 32 cause,
   BitVec.ofNat 32 (d.wdg.dupTasks.toNat * 2 ^ 16 + d.fget F.WDG_MASK_EXP),
   BitVec.ofNat 32 (mask * 2 ^ 16 + d.fget F.WDG_MASK_CHK),
   d.rget A.WDG_CNT_LO, d.rget A.WDG_CNT_HI, d.rget A.WDG_LSVC_LO, d.rget A.WDG_LSVC_HI,
   BitVec.ofNat 32 (d.wdgElapsed / 1000)] ++ pcs ++ List.replicate (4 - pcs.length) 0

/-- The evidence, the cause, the entry and the state of a watchdog fault (R348); the reaction follows at the next base
beat. -/
def wdgFault (d : Dev) (cause : Nat) : Dev :=
  let snap := d.wdgSnap cause
  let act := d.activeTasks
  let mask := act.foldl (fun n k => n + 2 ^ k) 0
  let d := (List.range 16).foldl (fun d n =>
    d.rset (A.WDG_PC n) (if (d.task n).active then d.faultPc n else 0)) d
  let d := ((d.fset F.WDG_EV0_DUP d.wdg.dupTasks.toNat).fset F.WDG_EV0_EXP (d.fget F.WDG_MASK_EXP))
  let d := (d.fset F.WDG_EV1_ACTIVE mask).fset F.WDG_EV1_CHK (d.fget F.WDG_MASK_CHK)
  let d := (d.rsetN A.WDG_ELAPSED (min 0xFFFFFF (d.wdgElapsed / 1000)))
  let d := ((d.fsticky F.WDG_FLT_CAUSE cause).fset F.WDG_STAT_STATE 4).finc F.WDG_RATIO_FAULTS
  (((d.raise F.WDG_EVT_FAULT).occur 1 cause snap).tally 0xB03).safeFault

/-- The fault at close (R345). -/
def wdgCloseFault (d : Dev) : Dev := d.wdgFault (if d.wdg.dupTasks ≠ 0 then 4 else 1)

/-- An accepted service (R342). -/
def wdgAccept (d : Dev) : Dev :=
  let d := (d.rsetN A.WDG_LSVC_LO d.tb).rsetN A.WDG_LSVC_HI (d.tb / 2 ^ 32)
  ((d.wdgClear).raise F.WDG_EVT_SERVICED).tally 0xB00

/-- A store to WDG_SVC reaches WATCH (R342, R346). -/
def wdgService (d : Dev) (v : Word) : Dev :=
  if v ≠ 0xA5#32 then d.fput F.WDG_STAT_BAD_VALUE true
  else if d.wdgState = 3 then d.wdgAccept
  else if d.wdgState = 1 then
    let e := d.wdgElapsed
    if 1000 * d.wdg.period ≤ e then d.wdgCloseFault
    else if e < 1000 * d.wdg.opn then d.wdgFault 2
    else if d.wdg.dupTasks ≠ 0 then d.wdgFault 4
    else if d.fget F.WDG_MASK_CHK ≠ d.fget F.WDG_MASK_EXP then d.wdgFault 3
    else (d.wdgAccept).wdgRestart d.tb
  else d

/-- A task's check-in reaches WATCH (R343, R344). -/
def wdgCheckIn (d : Dev) (n : Nat) : Dev :=
  if d.fbit F.WDG_CTL_CHKIN_EN && (d.wdgState = 1 || d.wdgState = 3) then
    let f : Fld := ⟨if n < 8 then A.WDG_CNT_LO else A.WDG_CNT_HI, 4 * (n % 8) + 3, 4 * (n % 8)⟩
    let again := (d.rget A.WDG_MASK).getLsbD (16 + n)
    let d := ((d.finc f).fset F.WDG_MASK_CHK (d.fget F.WDG_MASK_CHK ||| 2 ^ n)).raise F.WDG_EVT_CHKIN
    let d := d.tally 0xB01
    if again && !d.wdg.dupTasks.getLsbD n then
      (({ d with wdg := { d.wdg with dupTasks := d.wdg.dupTasks ||| (1#16 <<< n) } }).raise F.WDG_EVT_DUP).tally 0xB02
    else d
  else d

/-- A halt clears the task's bits in EXP and CHK (R343). -/
def wdgHalt (d : Dev) (n : Nat) : Dev :=
  let clr (v : Nat) : Nat := if v / 2 ^ n % 2 = 1 then v - 2 ^ n else v
  (d.fset F.WDG_MASK_EXP (clr (d.fget F.WDG_MASK_EXP))).fset F.WDG_MASK_CHK (clr (d.fget F.WDG_MASK_CHK))

/-- Whether the mutual clock checks run: from the end of BOOT, in every state (R347). -/
def clockChecks (d : Dev) : Bool := d.st = .stop || d.st = .run || d.st = .safe

end Dev

end Sys2Proof.Machine
end

