-- ==== Sys2Proof/Machine/WorkMem.lean ====
section
/-! DEFINITION. WORKMEM: the group code (R241 to R243), reads and writes of groups, poisoning (R247), the watch list
(R245), spare rows (R246) and the tracking of changed groups (R73). -/

namespace Sys2Proof.Machine

/-! ### The group code (R241, R243) -/

/-- Multiplication by α in GF(2^8) with 0x11D. -/
def gfDouble (a : Byte) : Byte := if a.msb then (a <<< 1) ^^^ 0x1D#8 else a <<< 1

/-- Multiplication in GF(2^8), over the low `n` bits of `b`. -/
def gfMulN : Nat → Byte → Nat → Byte
  | 0, _, _ => 0
  | n + 1, a, b => (if b % 2 = 1 then a else 0) ^^^ gfMulN n (gfDouble a) (b / 2)

/-- Multiplication in GF(2^8). -/
def gfMul (a b : Byte) : Byte := gfMulN 8 a b.toNat

/-- `a * α^n`. -/
def gfShift : Nat → Byte → Byte
  | 0, a => a
  | n + 1, a => gfShift n (gfDouble a)

/-- The syndrome S_j of a pattern of wrong symbols: position and error value (R243). -/
def syndrome (j : Nat) (errs : List (Nat × Byte)) : Byte :=
  errs.foldl (fun s e => s ^^^ gfShift (j * e.1) e.2) 0

/-! The encoder: the syndromes of a whole codeword are 0 (R241), so a read's are those of its wrong symbols alone,
which is how `Mem.errs` holds them. -/

/-- The four address symbols of a group, c35 to c38: the bytes of its fold address (R241). -/
def addressSymbols (fold : Nat) : List Byte := leBytes 4 fold

/-- Mj over the data and address symbols of a group (R241). -/
def messageSum (j : Nat) (fold : Nat) (data : List Byte) : Byte :=
  syndrome j (((List.range 36).map (· + 3)).zip (data.take 32 ++ addressSymbols fold))

/-- The check bytes P0, P1 and P2: the solution of P0 + P1 α^j + P2 α^(2j) = Mj for j = 0, 1, 2 (R241). The equations
give (α + α² + α³ + α⁴)·P2 = α(M0 + M1) + M1 + M2 and (1 + α)·P1 = M0 + M1 + (1 + α²)·P2; 0x4B and 0xF4 are the
inverses of the two factors. -/
def checkBytes (fold : Nat) (data : List Byte) : List Byte :=
  let m0 := messageSum 0 fold data
  let m1 := messageSum 1 fold data
  let m2 := messageSum 2 fold data
  let p2 := gfMul (gfDouble m0 ^^^ gfDouble m1 ^^^ m1 ^^^ m2) 0x4B#8
  let p1 := gfMul (m0 ^^^ m1 ^^^ p2 ^^^ gfShift 2 p2) 0xF4#8
  [m0 ^^^ p1 ^^^ p2, p1, p2]

/-- The 39 symbols of a group (Table 10.1). -/
def codeword (fold : Nat) (data : List Byte) : List Byte := checkBytes fold data ++ data.take 32 ++ addressSymbols fold

/-- How a read is classified (R243). -/
inductive ReadClass where
  | clean
  | correctable (pos : Nat) (value : Byte)
  | uncorrectable
  | misaddr
  deriving DecidableEq, Repr

/-- The classification of a read whose wrong symbols are `errs` (R243). -/
def classify (errs : List (Nat × Byte)) : ReadClass :=
  let s0 := syndrome 0 errs
  let s1 := syndrome 1 errs
  let s2 := syndrome 2 errs
  if s0 = 0 && s1 = 0 && s2 = 0 then .clean
  else if s0 ≠ 0 && s1 ≠ 0 && s2 ≠ 0 && gfMul s1 s1 = gfMul s0 s2 then
    match (List.range 39).find? fun k => gfShift k s0 = s1 with
    | some k => if k ≤ 34 then .correctable k s0 else .misaddr
    | none => .uncorrectable
  else .uncorrectable

/-- Whether a class is a failed read. -/
def ReadClass.bad : ReadClass → Bool
  | .uncorrectable => true
  | .misaddr => true
  | _ => false

/-- The number of bytes of a group. -/
def groupBytes : Nat := 32

/-- The bank of a work-memory address (R71). -/
def bankOf (a : Nat) : Nat := (bitsOf a 8 5) ^^^ (bitsOf a 12 9) ^^^ (bitsOf a 16 13) ^^^ (bitsOf a 20 17)

/-! Groups are named by address / 32. A group of the records window, 0x2000_0000 on, and of the recorder window has its
fold address in the keep store (Tables 10.2 and 10.4); every other group is named by its fold address. -/

/-- The fold address of a group, in groups (Table 10.2). -/
def foldGroup (g : Nat) : Nat := if 0x1000000 ≤ g && g < 0x1004800 then g - 0x1000000 + 0x1083000 else g

/-- Where the cells of a group begin: those of the records area stand at their window. -/
def cellBase (g : Nat) : Nat := 32 * (if 0x1083000 ≤ g && g < 0x1085000 then g - 0x1083000 + 0x1000000 else g)

/-- The parts of the MRAM (Tables 10.2 and 10.4): the code store, a slot of the journal ring, a group of the records
area or of the recorder area, and the KEEP reserve. -/
inductive MramArea where
  | code
  | journal (slot : Nat)
  | records (group : Nat)
  | recorder (group : Nat)
  | reserve
  deriving DecidableEq, Repr

/-- The part of the MRAM that holds a group. -/
def mramArea (g : Nat) : MramArea :=
  let f := foldGroup g
  if f < 0x1080000 then .code
  else if f < 0x1083000 then .journal (f - 0x1080000)
  else if f < 0x1085000 then .records (f - 0x1083000)
  else if f < 0x1087800 then .recorder (f - 0x1085000)
  else .reserve

/-- Whether a group stands in the MRAM, whose check classes are KEEP_CORR and KEEP_UNCORR; those of work memory, the
timer slots and the decode banks are WKM_CORR and WKM_UNCORR (Table 1.8). -/
def isMram (g : Nat) : Bool := decide (0x1000_0000 / 32 ≤ g) && decide (g < 0x3000_0000 / 32)

/-- Whether a group of the keep store reads UNCORRECTABLE from an earlier lasting fault or an inverted check (R252). -/
def Dev.stuck (d : Dev) (g : Nat) : Bool :=
  isMram g && match mramArea g with
  | .journal s => d.nv.badSlots.contains s
  | .records k => d.nv.badRec.contains k
  | .recorder k => d.nv.badRcd.contains k
  | _ => false

namespace Mem

/-- The wrong symbols a group stores. -/
def errsOf (m : Mem) (g : Nat) : List (Nat × Byte) := alGet (foldGroup g) [] m.errs

/-- A group stores other wrong symbols. -/
def setErrs (m : Mem) (g : Nat) (es : List (Nat × Byte)) : Mem := { m with errs := alSet [] (foldGroup g) es m.errs }

/-- The poison entry of a work-memory group. -/
def poisonOf (m : Mem) (g : Nat) : Option (BitVec 32) := (m.poison.find? fun p => p.2.1 = g).map (·.2.2)

/-- The lowest free entry of the 256. -/
def poisonFree (m : Mem) : Option Nat := (List.range 256).find? fun i => !(m.poison.any fun p => p.1 = i)

/-- Whether every one of `n` bytes at an address may be used (R247). -/
def usable (m : Mem) (a n : Nat) : Bool :=
  (List.range n).all fun i =>
    match m.poisonOf ((a + i) / groupBytes) with
    | none => true
    | some mask => mask.getLsbD ((a + i) % groupBytes)

end Mem

namespace Core

/-- The device part changed by a function. -/
def onDev (c : Core) (f : Dev → Dev) : Core := { c with dev := f c.dev }

/-- The poison table as the WORKMEM page shows it (Tables 10.9 and 10.12). -/
def poisonShow (c : Core) : Core :=
  let e := alGet (c.dev.fget F.WKM_PSEL_ENTRY) ((0 : Nat), (0 : BitVec 32)) c.mem.poison
  let here := c.mem.poison.any fun p => p.1 = c.dev.fget F.WKM_PSEL_ENTRY
  c.onDev fun d =>
    let d := d.fset F.WKM_STAT_POISON_N c.mem.poison.length
    let d := (d.fput F.WKM_PENT_VALID here).fset F.WKM_PENT_GROUP e.1
    d.rset A.WKM_PMASK e.2

/-- A group of work memory is poisoned (R247). -/
def poisonGroup (c : Core) (g : Nat) : Core :=
  match c.mem.poisonOf g with
  | some _ => c
  | none =>
    match c.mem.poisonFree with
    | some i =>
      let c := poisonShow { c with mem := { c.mem with poison := alPut i (g, 0) c.mem.poison } }
      c.onDev fun d =>
        ((d.fput F.WKM_FLT_POISONED true).raiseRec F.WKM_EVT_POISONED).finc F.SVC_HLTH_MAP_POISONED |>.tally 0x504
    | none => c.onDev fun d => ((d.fput F.WKM_FLT_POISON_FULL true).occurBlk 6 (5 * 256 + 4) 5).safeFault

/-- Symbol `k` of a stored group takes an error value: a data byte changes in its cell, a check byte in the code. -/
def flipSymbol (m : Mem) (g k : Nat) (v : Byte) : Mem :=
  if 3 ≤ k && k ≤ 34 then
    { m with cells := m.cells.write (cellBase g + (k - 3)) (m.cells.read (cellBase g + (k - 3)) ^^^ v) }
  else m

/-- A group written back after a correction at symbol `k`: the stored symbols, wrong ones included, with symbol `k`
corrected, become the group's content (R243, R245). -/
def writeBack (m : Mem) (g k : Nat) (v : Byte) : Mem :=
  let m := (m.errsOf g).foldl (fun m e => flipSymbol m g e.1 e.2) m
  (flipSymbol m g k v).setErrs g []

/-- A CORRECTABLE read: the event and the count (R263). -/
def corrSeen (d : Dev) (g : Nat) : Dev :=
  if isMram g then (d.raise F.KEP_EVT_CORR).tally 0x604 else (d.raise F.WKM_EVT_CORR).tally 0x500

/-- A group that was corrected enters the watch list, or waits for its ordinary scrub read when the list is full
(R245). -/
def watchGroup (d : Dev) (g : Nat) : Dev :=
  if (d.watch.any fun w => w.1 = g) || d.unwatched.contains g then d
  else if d.watch.length < 32 then { d with watch := d.watch ++ [(g, d.tb + 100000000)] }
  else { d with unwatched := d.unwatched ++ [g] }

/-- A CORRECTABLE read: the event, the count and the watch-list entry (R245, R263). -/
def noteCorr (c : Core) (g : Nat) : Core := c.onDev fun d => watchGroup (corrSeen d g) (foldGroup g)

/-- An UNCORRECTABLE or MISADDR read: the event and the count. -/
def noteUncorr (c : Core) (g : Nat) : Core :=
  c.onDev fun d => if isMram g then (d.raise F.KEP_EVT_UNCORR).tally 0x605 else (d.raise F.WKM_EVT_UNCORR).tally 0x501

/-- A number joined to a list that does not hold it. -/
def joined (l : List Nat) (k : Nat) : List Nat := if l.contains k then l else l ++ [k]

/-- The lasting outcome of an uncorrectable read in the MRAM, by area (Table 1.8): the code store ends in SAFE; a
group of the journal, the records area or the recorder area reads UNCORRECTABLE from now on, and the rules of its area
apply. -/
def lastingMram (c : Core) (g : Nat) : Core :=
  c.onDev fun d =>
    let d := d.lasting 4 6
    match mramArea g with
    | .code => (d.fput F.KEP_FLT_CODE_UNCORR true).safeFault
    | .journal s => { d with nv := { d.nv with badSlots := joined d.nv.badSlots s } }
    | .records k => { d with nv := { d.nv with badRec := joined d.nv.badRec k } }
    | .recorder k => { d with nv := { d.nv with badRcd := joined d.nv.badRcd k } }
    | .reserve => d

/-- A lasting fault of work memory, class 1 or 2: WKM_FLT.GROUP names the group of the first one since power-on
(Table 10.11). -/
def lastingWkm (c : Core) (n g : Nat) : Core :=
  let first := c.dev.fget (F.SVC_HLTH_L_LASTING 1) = 0 && c.dev.fget (F.SVC_HLTH_L_LASTING 2) = 0
  c.onDev fun d => (if first then d.fset F.WKM_FLT_GROUP g else d).lasting n 5

/-- The escalation of a lasting class-2 fault of a group (Table 1.8, R124, R140, R247); a loop's own is R297's. -/
def lastingUncorr (c : Core) (g : Nat) : Core :=
  if isMram g then c.lastingMram g
  else if g < 0x10000 then (c.lastingWkm 2 g).poisonGroup g
  else if 0x3000_0000 / 32 ≤ g && g < 0x3000_0000 / 32 + 2048 then
    c.onDev fun d =>
      let n := 2 * (g - 0x3000_0000 / 32)
      let p (d : Dev) (k : Nat) : Dev :=
        { d with slots := alSet {} k { alGet k {} d.slots with poison := true } d.slots }
      (p (p (d.lasting 2 5) n) (n + 1)).fput F.REG_FLT_SLOT_POISON true
  else if g < 0x3200_0000 / 32 then (c.onDev fun d => d.lasting 2 5).onDev Dev.safeFault
  else c.onDev fun d => d.lasting 2 8

/-- Whether a group of work memory or of the timer slots is poisoned already: its failure has been counted, and what may
still be read of it is another rule's concern (R140, R247, DEDUCED, log entry 46). -/
def poisoned (c : Core) (g : Nat) : Bool :=
  (c.mem.poisonOf g).isSome
    || (0x3000_0000 / 32 ≤ g && (alGet (2 * (g - 0x3000_0000 / 32)) ({} : Slot) c.dev.slots).poison)

/-- The class of a read whose stored errors are joined by the upset of this one read. -/
def readClass (c : Core) (g : Nat) (upset : List (Nat × Byte)) : ReadClass :=
  if c.dev.stuck g then .uncorrectable else classify (c.mem.errsOf g ++ upset)

/-- A read of a group for use: stored errors are corrected and written back, or fail again on the re-read and take
the escalation of their class (R245, R247). Answers whether the group may be used. -/
def readGroup (c : Core) (g : Nat) : Core × Bool :=
  if c.poisoned g then (c, true)
  else match c.readClass g [] with
  | .clean => (c, true)
  | .correctable k v => (noteCorr { c with mem := writeBack c.mem g k v } g, true)
  | _ => (lastingUncorr (noteUncorr c g) g, false)

/-- Bytes of work memory, the code store or the records window, each group checked as it is read; a byte that may not
be used is a free value (DESIGN CHOICE, log entry 64). -/
def checkedRead (c : Core) (a n : Nat) : Core × List Byte :=
  let gs := (List.range (n / 32 + 2)).map fun k => a / 32 + k
  let x := (gs.filter fun g => 32 * g < a + n).foldl (fun (s : Core × List Nat) g =>
    let y := s.1.readGroup g
    (y.1, if y.2 then s.2 else g :: s.2)) (c, [])
  let c := if x.2 = [] && x.1.mem.usable a n then x.1 else x.1.onDev Dev.nextFree
  (c, (List.range n).map fun i =>
    if x.2.contains ((a + i) / 32) || !x.1.mem.usable (a + i) 1 then Config.tornByte (x.1.dev.free + i)
        else c.mem.cells.read (a + i))

/-! ### Changed groups (R73) -/

/-- Whether a range list holds a group. -/
def inRanges (rs : List (Nat × Nat)) (g : Nat) : Bool := rs.any fun r => decide (r.1 ≤ g) && decide (g ≤ r.1 + r.2)

/-- The ranges of a footprint entry: `off` 8 for reads, 20 for writes; `n` of them (Table 3.2). -/
def fpRanges (m : Mem) (a off n : Nat) : List (Nat × Nat) :=
  (List.range n).map fun i => (m.cells.le (a + off + 4 * i) 2, m.cells.le (a + off + 4 * i + 2) 2)

/-- The footprint entry of a SID, if the table holds a valid one: its address (R57). -/
def fpEntry (c : Core) (sid : Nat) : Option Nat :=
  let n := c.dev.fget F.MOV_FP_CNT_CNT
  let a := c.dev.rnat A.MOV_FP_BASE + 32 * sid
  if sid < n && (c.mem.cells.read (a + 2)).getLsbD 0 then some a else none

/-- Whether an entry is DECLARED. -/
def fpDeclared (c : Core) (a : Nat) : Bool := (c.mem.cells.read (a + 2)).getLsbD 1

/-- The declared read ranges of an entry. -/
def fpReads (c : Core) (a : Nat) : List (Nat × Nat) :=
  fpRanges c.mem a 8 (bitsOf (c.mem.cells.read (a + 3)).toNat 1 0)

/-- The declared write ranges of an entry. -/
def fpWrites (c : Core) (a : Nat) : List (Nat × Nat) :=
  fpRanges c.mem a 20 (bitsOf (c.mem.cells.read (a + 3)).toNat 5 4)

/-- The groups a task's program names for a group of work memory: a view group stands for the input groups whose bytes
it holds, and no input-image address reaches the input image itself, since the ranges are redirected as loads are (R34,
R57). -/
def namesOf (c : Core) (task g : Nat) : List Nat :=
  match c.dev.esc.image with
  | none => [g]
  | some im =>
    let base := c.dev.rnat (A.ESC_TVIEW task) / 32
    let step (acc : Nat × List Nat) (r : IoRec) : Nat × List Nat :=
      if r.typ = 1 && r.owner = task then
        let n := (r.len + 31) / 32
        let off := base + acc.1
        let a := r.start + 32 * (g - off)
        let z := min (a + 31) (r.start + r.len - 1)
        (acc.1 + n, if off ≤ g && g < off + n then acc.2 ++ (if a / 32 = z / 32 then [a / 32] else [a / 32,
            z / 32]) else acc.2)
      else acc
    (im.io.foldl step (0, if g < 0x400 then [] else [g])).2

/-- A group's content has changed, written by a strand of a task or by another source: the records of dormant strands,
the writing task's dirty list and the mover's list note it (R42, R72, R73, R230). -/
def noteChange (c : Core) (g : Nat) (writer : Option (Nat × Nat)) : Core :=
  let upd (r : DormRec) : DormRec :=
    match c.fpEntry r.sid with
    | none => r
    | some a =>
      let ns := c.namesOf r.task g
      { r with
        readChanged := r.readChanged || ns.any (inRanges (c.fpReads a)),
        writeChanged := r.writeChanged
          || (writer ≠ some (r.task, r.sid) && ns.any (inRanges (c.fpWrites a))) }
  let updRun (x : Option Run) : Option Run :=
    match x with
    | none => none
    | some r =>
      match c.fpEntry r.sid with
      | none => some r
      | some a =>
        if r.opened && (c.namesOf r.task g).any (inRanges (c.fpReads a)) then some { r with readChanged := true }
        else some r
  c.onDev fun d =>
    let d := { d with mov := { d.mov with dorm := d.mov.dorm.map upd, trains := d.mov.trains.map updRun },
                      moverDirty := if d.moverDirty.contains g then d.moverDirty else d.moverDirty ++ [g] }
    match writer with
    | some (t, _) => d.modTask t fun x => if x.dirty.contains g then x else { x with dirty := x.dirty ++ [g] }
    | none => d

/-- The symbols an armed injection puts into a written group (Table 10.12). -/
def injected (d : Dev) : List (Nat × Byte) :=
  let x := BitVec.ofNat 8 (d.fget F.WKM_INJ_XOR)
  ([d.fget F.WKM_INJ_POS0, d.fget F.WKM_INJ_POS1].filter (· ≤ 34)).map fun p => (p, x)

/-- Bytes of one work-memory group written: offset in the group and byte (R244).  A write of fewer than 32 bytes first
reads the group; the written bytes join the mask of a poisoned group, and a write of all 32 bytes clears the poison;
an armed injection spoils the stored symbols. -/
def putGroup (c : Core) (g : Nat) (bytes : List (Nat × Byte)) (writer : Option (Nat × Nat)) : Core :=
  let full := (List.range 32).all fun i => bytes.any fun b => b.1 = i
  let c := if full then { c with mem := c.mem.setErrs g [] } else (c.readGroup g).1
  -- the write encodes the group anew; where a failed group has no poison entry only a full write does (R247)
  let c := if c.poisoned g then { c with mem := c.mem.setErrs g [] } else c
  let changed := bytes.any fun b => c.mem.cells.read (g * 32 + b.1) ≠ b.2
  let cells := bytes.foldl (fun m b => m.write (g * 32 + b.1) b.2) c.mem.cells
  let poison :=
    match c.mem.poison.find? fun p => p.2.1 = g with
    | none => c.mem.poison
    | some (i, _, mask) =>
      let mask := bytes.foldl (fun m b => m ||| (1#32 <<< b.1)) mask
      if full || mask = BitVec.allOnes 32 then alDel i c.mem.poison else alPut i (g, mask) c.mem.poison
  let old := c.mem.cells.readN (g * 32) 32
  let c := poisonShow { c with mem := { c.mem with cells := cells, poison := poison } }
  let c :=
    match writer with
    | some (t, _) =>
      if 0x800 ≤ g && g < 0x1800 && !((c.dev.task t).retSave.any fun s => s.1 = g) then
        c.onDev fun d => d.modTask t fun x => { x with retSave := x.retSave ++ [(g, old)] }
      else c
    | none => c
  let c :=
    if c.dev.fbit F.WKM_INJ_ARM && c.dev.fget F.WKM_INJ_ADDR_GROUP = g then
      { mem := c.mem.setErrs g (c.mem.errsOf g ++ injected c.dev), dev := c.dev.fput F.WKM_INJ_ARM false }
    else c
  if changed then c.noteChange g writer else c

/-- Bytes of the MRAM written from an address upward: whole groups take new check symbols. -/
def putMram (c : Core) (a : Nat) (bs : List Byte) : Core :=
  let hit (e : Nat × List (Nat × Byte)) : Bool := a ≤ cellBase e.1 && cellBase e.1 + 32 ≤ a + bs.length
  { c with mem := { c.mem with cells := c.mem.cells.writeN a bs, errs := c.mem.errs.filter fun e => !hit e } }

/-- Bytes written to work memory from an address upward, group by group; `n` bounds the groups. -/
def putN (writer : Option (Nat × Nat)) : Nat → Core → Nat → List Byte → Core
  | 0, c, _, _ => c
  | n + 1, c, a, bs =>
    if bs.isEmpty then c
    else
      let k := 32 - a % 32
      let part := bs.take k
      let c := c.putGroup (a / 32) ((List.range part.length).map fun i => (a % 32 + i, part.getD i 0)) writer
      putN writer n c (a + k) (bs.drop k)

/-- Bytes written to work memory from an address upward. -/
def put (c : Core) (a : Nat) (bs : List Byte) (writer : Option (Nat × Nat) := none) : Core :=
  putN writer (bs.length / 32 + 2) c a bs

/-! ### Scrub and spare rows (R245, R246, R248) -/

/-- The row of a group: memory (0 work memory, 1 slots, 2 MRAM, 3 decode banks) and row number; a row of the MRAM is 1
KiB (R244, R249). -/
def rowOf (g : Nat) : Nat × Nat :=
  if g < 0x10000 then (0, bankOf (g * 32) * 64 + bitsOf (g * 32) 20 15)
  else if isMram g then (2, foldGroup g / 32)
  else if g < 0x3100_0000 / 32 then (1, g / 64)
  else (3, g / 64)

/-- Whether a row can still be mapped: a spare row of its bank, of the KEEP reserve or of REGULATOR is free; the
decode banks have none (R23, R140, R246, R249). -/
def spareFree (d : Dev) (g : Nat) : Bool :=
  match (rowOf g).1 with
  | 0 => d.fget (F.WKM_SPARE_USED (bankOf (g * 32))) < 16
  | 1 => d.fget F.REG_STAT_SLOT_SPARES < 8
  | 2 => d.fget F.KEP_SPARES_USED < 32
  | _ => false

/-- The groups of a row that store wrong symbols are read as they are copied: corrected, or failing as any read does
(R246). -/
def copyRow (c : Core) (r : Nat × Nat) : Core :=
  ((c.mem.errs.map (·.1)).filter fun g => rowOf g = r).foldl (fun c g => (c.readGroup g).1) c

/-- The row of a group is copied into a spare row and redirected, the map in the system records with it, or stays in
service when no spare row is free (R23, R140, R246). -/
def mapRow (c : Core) (g : Nat) : Core :=
  let r := rowOf g
  let mapped (d : Dev) : Dev := { d with nv := d.nv.sysWrite fun v => { v with spareRows := v.spareRows ++ [r] } }
  if spareFree c.dev g then
    (c.copyRow r).onDev fun d =>
      match r.1 with
      | 0 => ((((mapped d).finc (F.WKM_SPARE_USED (bankOf (g * 32)))).finc F.WKM_STAT_SPARES).finc F.SVC_HLTH_MAP_SPARES_USED
          |>.raiseRec F.WKM_EVT_SPARE_MAPPED).tally 0x503
      | 2 => ((mapped d).finc F.KEP_SPARES_USED).raiseRec F.KEP_EVT_SPARE_MAPPED
      | _ => (mapped d).finc F.REG_STAT_SLOT_SPARES
  else c.onDev fun d =>
    match r.1 with
    | 0 => (d.fput F.WKM_FLT_SPARE_OUT true).raiseRec F.WKM_EVT_SPARE_OUT
    | 2 => d.fput F.KEP_FLT_SPARE_OUT true
    | _ => d

/-- The transient outcome of a correctable fault: the count and the ordinary entry (R23). -/
def transientCorr (c : Core) (g : Nat) : Core :=
  c.onDev fun d =>
    if isMram g then (d.transient 3).occurBlk 14 F.KEP_EVT_CORR.lo 6 else (d.transient 1).occurBlk 13 F.WKM_EVT_CORR.lo 5

/-- The lasting outcome of a correctable fault: the count, the entry and the row's mapping. -/
def lastingCorr (c : Core) (g : Nat) : Core :=
  (if g < 0x10000 then c.lastingWkm 1 g else c.onDev fun d => if isMram g then d.lasting 3 6 else d.lasting 1 5).mapRow g

/-- A failed scheduled read and its retry, `e2` the upset of the second read: transient, or lasting, after which a group
that no poison entry and no area of the keep store marks still stores its wrong symbols (R247). -/
def failedRead (c : Core) (g : Nat) (e2 : List (Nat × Byte)) : Core :=
  let c := noteUncorr c g
  if (c.readClass g e2).bad then
    let c' := c.lastingUncorr g
    if c'.poisoned g || c'.dev.stuck g then c' else { c' with mem := c'.mem.setErrs g (c.mem.errsOf g ++ e2) }
  else c.onDev fun d =>
    if isMram g then (d.transient 4).occurBlk 14 F.KEP_EVT_UNCORR.lo 6
    else (d.transient 2).occurBlk 13 F.WKM_EVT_UNCORR.lo 5

/-- The read that decides a corrected group (R245): CLEAN is transient; anything else is a lasting class-1 fault, and an
uncorrectable result is also a class-2 failure with its own retry `e2`. -/
def decideGroup (c : Core) (g : Nat) (e1 e2 : List (Nat × Byte)) : Core :=
  match c.readClass g e1 with
  | .clean => c.transientCorr g
  | .correctable k v =>
    let c := { c with mem := if c.mem.errsOf g = [] then c.mem else writeBack c.mem g k v }
    (c.onDev fun d => corrSeen d g).lastingCorr g
  | _ => (c.failedRead g e2).lastingCorr g

/-- A scheduled read of a group: `e1` the wrong symbols of the first read beyond those stored, `e2` those of the
re-read (R245, R247, R248). It decides for a group that found the watch list full. -/
def scrub (c : Core) (g : Nat) (e1 e2 : List (Nat × Byte)) : Core :=
  let c := c.onDev fun d => if isMram g then d else d.tally 0x502
  if c.poisoned g then c
  else if c.dev.unwatched.contains (foldGroup g) then
    decideGroup (c.onDev fun d => { d with unwatched := d.unwatched.filter (· ≠ foldGroup g) }) g e1 e2
  else match c.readClass g e1 with
  | .clean => c
  | .correctable k v => noteCorr { c with mem := if c.mem.errsOf g = [] then c.mem else writeBack c.mem g k v } g
  | _ => c.failedRead g e2

/-- A change of device state; entry to RUN rewrites every timer slot, so that no stored error of one is left (R140). -/
def changeState (c : Core) (f : Dev → Dev) : Core :=
  let d := f c.dev
  let slot (g : Nat) : Bool := 0x3000_0000 / 32 ≤ g && g < 0x3000_0000 / 32 + 2048
  if c.dev.st ≠ .run && d.st = .run then
    { mem := { c.mem with errs := c.mem.errs.filter fun (e : Nat × List (Nat × Byte)) => !slot e.1 }, dev := d }
  else { c with dev := d }

/-- Whether the re-read of a watched group is due, 100 ms after its correction (R245). -/
def rereadDue (d : Dev) (g : Nat) : Bool := d.watch.any fun w => w.1 = foldGroup g && w.2 ≤ d.tb

/-- The re-read of a watched group (R245). -/
def reread (c : Core) (g : Nat) (e1 e2 : List (Nat × Byte)) : Core :=
  decideGroup (c.onDev fun d => { d with watch := d.watch.filter fun w => w.1 ≠ foldGroup g }) g e1 e2

end Core

end Sys2Proof.Machine
end

