-- ==== Sys2Proof/Machine/Keep.lean ====
section
/-! DEFINITION. KEEP's journal (R249 to R255, R260): staging, keep records, cleaning, the wear governor, the final keep
point, sealing, what a power loss leaves, and recovery at BOOT. -/

namespace Sys2Proof.Machine

/-- The slots of the ring. -/
def ringSlots : Nat := 12288

/-- TAG of openings and commits (Table 10.5). -/
def keepTag : Nat := 0x4F504B52

/-- A 32-byte slot or group from its bytes. -/
def slotOf (bs : List Byte) : BitVec 256 := BitVec.ofNat 256 (leNat bs)

/-- `n` bytes of a slot from byte `i`, little-endian. -/
def slotLe (s : BitVec 256) (i n : Nat) : Nat := s.toNat / 2 ^ (8 * i) % 2 ^ (8 * n)

/-- The opening slot of a record. -/
def openSlot (kseq d nidx : Nat) : BitVec 256 :=
  slotOf (leBytes 4 keepTag ++ leBytes 4 kseq ++ leBytes 2 d ++ leBytes 2 nidx)

/-- The index slots for groups, fifteen a slot; `n` bounds them. -/
def indexSlots : Nat → List Nat → List (BitVec 256)
  | 0, _ => []
  | n + 1, gs =>
    if gs.isEmpty then []
    else
      let part := gs.take 15
      slotOf (leBytes 2 part.length ++ (part ++ List.replicate (15 - part.length) 0xFFFF).flatMap (leBytes 2))
        :: indexSlots n (gs.drop 15)

/-- The commit slot of a record over its earlier slots. -/
def commitSlot (before : List (BitVec 256)) (kseq d nidx half ver beat : Nat) : BitVec 256 :=
  let head := leBytes 4 keepTag ++ leBytes 4 kseq ++ leBytes 2 d ++ leBytes 2 nidx ++ leBytes 1 half ++ leBytes 3 0
    ++ leBytes 4 ver ++ leBytes 4 beat ++ leBytes 4 0
  let crc := crc32 (before.flatMap (fun (s : BitVec 256) => leBytes 32 s.toNat) ++ head)
  slotOf (head ++ leBytes 4 crc.toNat)

/-- Whether `a` is newer than `b` in serial arithmetic with a window of 2^31. -/
def newer32 (a b : Nat) : Bool :=
  let x := (a + 2 ^ 32 - b) % 2 ^ 32
  decide (x ≠ 0) && decide (x < 2 ^ 31)

namespace Core

/-- The retentive group `n`, 0 to 4,095, as it stands in work memory. -/
def retGroup (c : Core) (n : Nat) : BitVec 256 := BitVec.ofNat 256 (c.mem.cells.le (0x10000 + 32 * n) 32)

/-- Whether the retentive group `n` is poisoned. -/
def retPoisoned (c : Core) (n : Nat) : Bool := (c.mem.poisonOf (0x800 + n)).isSome

/-- KEEP changed. -/
def modKeep (c : Core) (f : Keep → Keep) : Core := c.onDev fun d => { d with keep := f d.keep }

/-- The retentive groups that a cycle dirtied go to the open side of the staging, each checked as it is read; a poisoned
group, or one that fails, is skipped (R42, R247, R251). -/
def stageGroups (c : Core) (gs : List Nat) : Core :=
  let ns := (gs.filter fun g => 0x800 ≤ g && g < 0x1800).map (· - 0x800)
  ns.foldl (fun (c : Core) n =>
    let x := c.readGroup (0x800 + n)
    x.1.modKeep fun k => { k with stage :=
      if x.2 = true ∧ x.1.retPoisoned n = false then alPut n (x.1.retGroup n) k.stage else alDel n k.stage }) c

/-- The free slots of the ring: from the head to the opening of the oldest record not cleaned. -/
def freeSlots (k : Keep) : Nat :=
  match k.recs with
  | [] => ringSlots
  | r :: _ => if r.start = k.head then 0 else (r.start + ringSlots - k.head) % ringSlots

/-- The slots of a record of `d` groups. -/
def recordSize (d : Nat) : Nat := d + (d + 14) / 15 + 2

/-- The records whose openings lie in the segment of the oldest one, and the others. -/
def oldestSegment : List JRec → List JRec × List JRec
  | [] => ([], [])
  | r :: rs => ((r :: rs).takeWhile fun x => x.start / 128 = r.start / 128,
      (r :: rs).dropWhile fun x => x.start / 128 = r.start / 128)

/-- The live groups of a record (R252). -/
def liveOf (k : Keep) (r : JRec) : List Nat :=
  r.groups.filter fun g =>
    match k.live.find? fun l => l.1 = g with
    | some l => decide ((l.2 + ringSlots - r.start) % ringSlots < r.size)
    | none => false

/-- The cleaner: whole segments of the oldest records are freed, their live groups copied into the record that begins,
until 4,480 slots are free beside that record (R252; DEDUCED, log entry 30). Answers the groups to copy and the records
kept; `n` bounds the segments. -/
def cleanN : Nat → Keep → List Nat → List Nat → List JRec → List Nat × List JRec
  | 0, _, _, copies, recs => (copies, recs)
  | n + 1, k, staged, copies, recs =>
    if recs.isEmpty || 4480 + recordSize (staged.length + copies.length) ≤ freeSlots { k with recs := recs } then
      (copies, recs)
    else
      let p := oldestSegment recs
      let more := (p.1.flatMap (liveOf k)).filter fun g => !staged.contains g && !copies.contains g
      cleanN n k staged (copies ++ more) p.2

/-- The present content of a group of the retentive region, and whether the cleaner writes it so as to read
UNCORRECTABLE: poisoned, or not readable (R252). -/
def presentCopy (c : Core) (g : Nat) : Core × (BitVec 256 × Bool) :=
  let x := c.readGroup (0x800 + g)
  (x.1, (x.1.retGroup g, !x.2 || x.1.retPoisoned g))

/-- The content the cleaner copies for a group: its journal slot, or where that fails after the retry of class
KEEP_UNCORR the group as it stands in work memory (R252). -/
def copyOf (c : Core) (g : Nat) : Core × (BitVec 256 × Bool) :=
  match c.dev.keep.live.find? fun l => l.1 = g with
  | some l =>
    let x := c.readGroup (0x1080000 + l.2)
    if x.2 then (x.1, (alGet l.2 0 x.1.dev.nv.ring, false)) else x.1.presentCopy g
  | none => c.presentCopy g

/-- The copies of the groups that the cleaner moves. -/
def copiesOf (c : Core) (gs : List Nat) : Core × List (Nat × (BitVec 256 × Bool)) :=
  gs.foldl (fun (s : Core × List (Nat × (BitVec 256 × Bool))) g =>
    let x := s.1.copyOf g
    (x.1, s.2 ++ [(g, x.2)])) (c, [])

/-- A keep record begins with the staged groups (R250, R251); `final` writes no copies (R254). -/
def startRecord (c : Core) (staged : List (Nat × BitVec 256)) (beat : Nat) (final seam : Bool) : Core :=
  let k := c.dev.keep
  let cl := if final then ([], k.recs) else cleanN 97 k (staged.map (·.1)) [] k.recs
  let read := c.copiesOf cl.1
  let c := read.1
  let copies := read.2
  let all := (staged.map fun s => (s.1, (s.2, false))).foldl
    (fun (l : List (Nat × (BitVec 256 × Bool))) s => alPut s.1 s.2 l)
    (copies.foldl (fun (l : List (Nat × (BitVec 256 × Bool))) s => alPut s.1 s.2 l) [])
  let d := all.length
  let gs := all.map (·.1)
  let idx := indexSlots 4096 gs
  let half := match c.dev.esc.image with
    | some im => im.half
    | none => k.namedHalf.getD 0
  let ver := c.dev.rnat A.KEP_VER
  let before := openSlot k.nextKseq d idx.length :: (all.map fun x => x.2.1) ++ idx
  let com := commitSlot before k.nextKseq d idx.length half ver beat
  let slots := (openSlot k.nextKseq d idx.length, false) :: (all.map fun x => x.2) ++ (idx.map fun s => (s, false))
    ++ [(com, false)]
  let p : JPend := ⟨k.head, c.dev.tb, slots, gs, staged, copies.length, cl.2, k.nextKseq, half, ver, seam⟩
  (c.modKeep fun k => { k with pend := some p }).onDev fun d => d.fput F.KEP_STAT_KEEPING true

/-- The first `n` slots of a record in progress stand in the ring. -/
def writeSlots (v : Nv) (p : JPend) (n : Nat) : Nv :=
  ((List.range n).zip (p.slots.take n)).foldl (fun (v : Nv) (x : Nat × (BitVec 256 × Bool)) =>
    let s := (p.start + x.1) % ringSlots
    let bad := v.badSlots.filter (· ≠ s)
    { v with ring := alSet 0 s x.2.1 v.ring, badSlots := if x.2.2 then bad ++ [s] else bad,
             jWrites := v.jWrites + 1 }) v

/-- KEEP_INTERVAL_ACT after a record of `n` slots: the governor's term, rounded up to whole base beats (R260, DEDUCED,
log entry 31), in µs. -/
def governed (d : Dev) (n : Nat) : Nat :=
  let term := (n * d.fget F.KEP_WEAR_TARGET_YEARS * 31557600 * 15 * 10 ^ 8 + (12288 * 10 ^ 10 - 1)) / (12288 * 10 ^ 10)
  let beats := (term + d.esc.period - 1) / d.esc.period
  max (d.fget F.KEP_INTERVAL_INTERVAL) (beats * d.esc.period / 1000)

/-- The wear and free-slot registers (Table 10.17). -/
def wearRegs (d : Dev) : Dev :=
  ((d.rsetN A.KEP_WEAR (min (2 ^ 32 - 1) (d.nv.jWrites / 122880000))).rsetN A.KEP_RWEAR
    (min (2 ^ 32 - 1) (d.nv.rWrites / 10240000))).fset F.KEP_JFREE_FREE (freeSlots d.keep)

/-- The governor sets the interval after a record (R260). -/
def govern (d : Dev) (n : Nat) : Dev :=
  let act := governed d n
  let late := decide (d.fget F.KEP_INTERVAL_INTERVAL < act)
  let was := d.fbit F.KEP_STAT_THROTTLE
  let d := (d.fset F.KEP_INTERVAL_ACT_ACT act).fput F.KEP_STAT_THROTTLE late
  if late && !was then d.raiseRec F.KEP_EVT_THROTTLE else d

/-- The commit slot of the record in progress is written (R251). -/
def commitRecord (c : Core) : Core :=
  match c.dev.keep.pend with
  | none => c
  | some p =>
    let n := p.slots.length
    let r : JRec := ⟨p.start, n, p.kseq, p.groups⟩
    let pos := (List.range p.groups.length).zip p.groups
    let c := c.onDev fun d => { d with nv := writeSlots d.nv p n }
    let c := c.modKeep fun k => { k with
      pend := none, recs := p.kept ++ [r], head := (p.start + n) % ringSlots, nextKseq := (p.kseq + 1) % 2 ^ 32,
      live := pos.foldl (fun (l : List (Nat × Nat)) x => alPut x.2 ((p.start + 1 + x.1) % ringSlots) l) k.live,
      namedHalf := some p.half, namedVer := p.ver, migrStart := k.migrStart || p.seam || k.namedHalf ≠ some p.half }
    c.onDev fun d =>
      let d := (d.fput F.KEP_STAT_KEEPING false).rsetN A.KEP_KSEQ p.kseq
      let d := (d.fset F.KEP_KREC_SLOTS n).fset F.KEP_KREC_GROUPS p.staged.length
      let d := wearRegs d
      let d := (d.raise F.KEP_EVT_KEEP_DONE).tally 0x600
      let d := (d.tally 0x601 n).tally 0x602 p.copies
      govern d n

/-- Whether a record must be written: some staged group, or the half or KEEP_VER differs (R250). -/
def recordNeeded (c : Core) (staged : List (Nat × BitVec 256)) : Bool :=
  !staged.isEmpty ||
    (match c.dev.esc.image with
     | some im => !(c.dev.keep.namedHalf = some im.half && c.dev.keep.namedVer = c.dev.rnat A.KEP_VER)
     | none => false)

/-- A keep point (R43): one side of the staging closes and its groups go into a record. -/
def keepPoint (c : Core) (beat : Nat) (final seam : Bool) : Core :=
  let staged := c.dev.keep.stage.filter fun s => !c.retPoisoned s.1
  let c := c.modKeep fun k => { k with stage := [] }
  let c := c.onDev fun d =>
    let d := d.rsetN A.ESC_KEEPS (d.rnat A.ESC_KEEPS + 1)
    (Dev.raise { d with esc := { d.esc with lastKeep := d.tb } } F.ESC_EVT_KEEP).tally 0x104
  if c.recordNeeded staged || seam then c.startRecord staged beat final seam else c

/-- Whether the interval in force, rounded up to whole base beats, has passed since the previous keep point (R43). -/
def keepDue (d : Dev) : Bool :=
  let p := d.esc.period
  let need := (1000 * d.fget F.KEP_INTERVAL_ACT_ACT + p - 1) / p * p
  decide (d.esc.lastKeep + need ≤ d.tb)

/-- The keep point of a beat, where one is due (R43, R232 step 9). -/
def keepAtBeat (c : Core) (beat : Nat) : Core :=
  let k := c.dev.keep
  if c.dev.fbit F.KEP_STAT_SEALED || k.pend.isSome then c
  else if k.seamDue then (c.modKeep fun k => { k with seamDue := false }).keepPoint beat false true
  else if keepDue c.dev then c.keepPoint beat false false
  else c

/-- How many slots of a record in progress have begun by now (R251): 10 ns a slot; the hold-up completes each. -/
def slotsBegun (d : Dev) (p : JPend) : Nat := min (p.slots.length - 1) ((d.tb - p.t0) / 10 + 1)

/-- A record in progress is abandoned uncommitted (R254): the slots written stand in the ring, and the staged groups
return. -/
def abandonRecord (c : Core) : Core :=
  match c.dev.keep.pend with
  | none => c
  | some p =>
    let c := c.onDev fun d => { d with nv := writeSlots d.nv p (slotsBegun d p) }
    let back (k : Keep) : Keep :=
      { k with
        pend := none,
        stage := p.staged.foldl (fun (l : List (Nat × BitVec 256)) s =>
          if l.any fun x => x.1 = s.1 then l else alPut s.1 s.2 l) k.stage }
    (c.modKeep back).onDev fun d => d.fput F.KEP_STAT_KEEPING false

/-- The final keep point of a power-fail warning begins (R254, R255, R235).  A warning in BOOT seals without a keep
point; one before the record of a seam has committed cancels that record and takes none. -/
def finalKeep (c : Core) (beat : Nat) : Core :=
  let seamOpen := c.dev.keep.seamDue || (match c.dev.keep.pend with | some p => p.seam | none => false)
  let boot := c.dev.st = .boot
  let c := c.abandonRecord
  if boot then c
  else if seamOpen then c.modKeep fun k => { k with seamDue := false }
  else c.keepPoint beat true false

/-- KEEP seals once the final record has its commit slot (Table 10.6, step 5). -/
def keepSeal (c : Core) : Core := c.onDev fun d => (d.fput F.KEP_STAT_SEALED true).raise F.KEP_EVT_SEALED

/-- KEEP unseals (R255). -/
def keepUnseal (c : Core) : Core := c.onDev fun d => (d.fput F.KEP_STAT_SEALED false).raise F.KEP_EVT_UNSEALED

/-- What a power loss leaves of a record in progress (R249, R253): a record whose commit slot has begun is complete. -/
def powerLossJournal (c : Core) : Core :=
  match c.dev.keep.pend with
  | none => c
  | some p =>
    if p.slots.length - 1 ≤ (c.dev.tb - p.t0) / 10 then c.commitRecord
    else c.onDev fun d => { d with nv := writeSlots d.nv p (slotsBegun d p) }

/-! ### Recovery (R253) -/

/-- A record found in the ring: opening position, D, NIDX, KSEQ, and whether some slot of it is unreadable. -/
structure Found where
  start : Nat
  d : Nat
  nidx : Nat
  kseq : Nat
  damaged : Bool
  deriving DecidableEq, Repr

/-- The slot at a position of the ring. -/
def ringAt (v : Nv) (s : Nat) : BitVec 256 := alGet (s % ringSlots) 0 v.ring

/-- Whether a slot reads CLEAN or CORRECTABLE. -/
def readable (v : Nv) (s : Nat) : Bool := !v.badSlots.contains (s % ringSlots)

/-- Whether a readable slot holds TAG. -/
def tagged (v : Nv) (s : Nat) : Bool := readable v s && slotLe (ringAt v s) 0 4 = keepTag

/-- Whether the slots at two positions agree in TAG, KSEQ, D and NIDX. -/
def sameHead (v : Nv) (s e : Nat) : Bool := slotLe (ringAt v s) 0 12 = slotLe (ringAt v e) 0 12

/-- Whether every slot of a record is readable. -/
def allReadable (v : Nv) (s n : Nat) : Bool := !(v.badSlots.any fun b => (b + ringSlots - s % ringSlots) % ringSlots < n)

/-- Whether the CRC of a record in the ring is good. -/
def crcGood (v : Nv) (s n : Nat) : Bool :=
  let slots := (List.range n).map fun i => ringAt v (s + i)
  let com := slots.getLastD 0
  crc32 ((slots.dropLast.flatMap fun (x : BitVec 256) => leBytes 32 x.toNat) ++ (leBytes 32 com.toNat).take 28)
    = BitVec.ofNat 32 (slotLe com 28 4)

/-- The record that a tagged slot opens, if it is valid or damaged, and whether it is torn. -/
def asOpening (v : Nv) (s : Nat) : Option Found × Bool :=
  let x := ringAt v s
  let d := slotLe x 8 2
  let nidx := slotLe x 10 2
  let f : Found := ⟨s % ringSlots, d, nidx, slotLe x 4 4, !allReadable v s (d + nidx + 2)⟩
  if 4096 < d || nidx ≠ (d + 14) / 15 then (none, false)
  else
    let e := s + 1 + d + nidx
    if !readable v e then (some { f with damaged := true }, false)
    else if tagged v e && sameHead v s e then
      if f.damaged then (some f, false)
      else if crcGood v s (d + nidx + 2) then (some f, false)
      else (none, true)
    else (none, true)

/-- The record that a tagged slot commits, when its opening position is unreadable. -/
def asCommit (v : Nv) (e : Nat) : Option Found :=
  let x := ringAt v e
  let d := slotLe x 8 2
  let nidx := slotLe x 10 2
  if 4096 < d || nidx ≠ (d + 14) / 15 then none
  else
    let s := (e + 2 * ringSlots - 1 - d - nidx) % ringSlots
    if readable v s then none else some ⟨s, d, nidx, slotLe x 4 4, true⟩

/-- The tagged slots of the ring. -/
def tags (v : Nv) : List Nat := (v.ring.map (·.1)).filter (tagged v)

/-- Whether a tagged slot has the form of an opening: its bytes 12 to 31 are 0 (Table 10.5). -/
def isOpening (v : Nv) (s : Nat) : Bool := (ringAt v s).toNat / 2 ^ 96 = 0

/-- The valid and damaged records, newest first. -/
def foundRecords (v : Nv) : List Found :=
  let os := ((tags v).filter (isOpening v)).filterMap fun s => (asOpening v s).1
  let cs := ((tags v).filter fun s => !isOpening v s).filterMap (asCommit v)
  let all := cs.foldl (fun (l : List Found) f => if l.any fun x => x.start = f.start then l else l ++ [f]) os
  sortBy (fun a b => a.kseq = b.kseq || newer32 a.kseq b.kseq) all

/-- Whether an entry of the index of a found record names group `g` in a readable slot: its position. -/
def foundPos (v : Nv) (f : Found) (g : Nat) : Option Nat :=
  (List.range f.d).find? fun j =>
    let s := f.start + 1 + f.d + j / 15
    readable v s && slotLe (ringAt v s) (2 + 2 * (j % 15)) 2 = g

/-- Whether some index slot of a found record is unreadable. -/
def indexLost (v : Nv) (f : Found) : Bool := (List.range f.nidx).any fun i => !readable v (f.start + 1 + f.d + i)

/-- The groups a found record names in readable index slots. -/
def foundGroups (v : Nv) (f : Found) : List Nat :=
  (List.range f.d).filterMap fun j =>
    let s := f.start + 1 + f.d + j / 15
    if readable v s then some (slotLe (ringAt v s) (2 + 2 * (j % 15)) 2) else none

/-- What recovery does with a group: its copy's slot, or the poison of a lost copy, or zero. -/
inductive Recovered where
  | copy (slot : Nat)
  | lost
  | zero
  deriving DecidableEq, Repr

/-- The outcome of recovery for one group; `fs` newest first, `gapAfter` tells how many of them are newer than the
newest lost record (`none` when none is lost). -/
def recoverGroup (v : Nv) (fs : List Found) (gapAfter : Option Nat) (g : Nat) : Recovered :=
  let hit := (List.range fs.length).findSome? fun i =>
    match fs[i]? with
    | some f => (foundPos v f g).map fun j => (i, f, j)
    | none => none
  let doubt := (List.range fs.length).filter fun i => match fs[i]? with | some f => indexLost v f | none => false
  match hit with
  | none => if gapAfter.isSome || !doubt.isEmpty then .lost else .zero
  | some (i, f, j) =>
    let newerGap := match gapAfter with | some n => decide (n ≤ i) | none => false
    if newerGap || (doubt.any fun k => decide (k < i)) then .lost
    else if readable v (f.start + 1 + j) then .copy ((f.start + 1 + j) % ringSlots)
    else .lost

/-- The number of records newer than the newest lost record, if a KSEQ is missing. -/
def gapOf : List Found → Nat → Option Nat
  | a :: b :: rest, n => if (b.kseq + 1) % 2 ^ 32 = a.kseq then gapOf (b :: rest) (n + 1) else some (n + 1)
  | _, _ => none

/-- The slot of the newest copy that a readable index names for a group, whether or not the slot can be read: the copy
that is live (R252). -/
def newestSlot (v : Nv) (fs : List Found) (g : Nat) : Option Nat :=
  fs.findSome? fun f => (foundPos v f g).map fun j => (f.start + 1 + j) % ringSlots

/-- The groups recovery must consider: with nothing lost, only those some record names. -/
def recoverDomain (v : Nv) (fs : List Found) : List Nat :=
  if (gapOf fs 0).isSome || fs.any (indexLost v) then List.range 4096
  else (fs.flatMap (foundGroups v)).eraseDups

/-- Whether a torn record's KSEQ is above every found one's (R253). -/
def tornAbove (v : Nv) (fs : List Found) : Bool :=
  ((tags v).filter (isOpening v)).any fun s =>
    (asOpening v s).2 && (fs.all fun f => newer32 (slotLe (ringAt v s) 4 4) f.kseq)

/-- Recovery at BOOT (R253): the retentive region, the poison table, the named half and KEEP_VER, and KEEP's index of
the ring. Work memory otherwise stands as the caller left it. -/
def recoverKeep (c : Core) : Core :=
  let v := c.dev.nv
  let fs := foundRecords v
  let gap := gapOf fs 0
  let put (c : Core) (g : Nat) : Core :=
    match recoverGroup v fs gap g with
    | .copy s => c.put (0x10000 + 32 * g) (leBytes 32 (ringAt v s).toNat)
    | .lost => (c.poisonGroup (0x800 + g)).onDev fun d => d.fput F.KEP_FLT_JOURNAL_LOST true
    | .zero => c
  let c := v.badSlots.foldl (fun c _ => c.onDev fun d => ((d.raise F.KEP_EVT_UNCORR).tally 0x605).lasting 4 6) c
  let c := (recoverDomain v fs).foldl put c
  let named := fs.find? fun f => readable v (f.start + 1 + f.d + f.nidx)
  let live := (recoverDomain v fs).foldl (fun (l : List (Nat × Nat)) g =>
    match newestSlot v fs g with | some s => alPut g s l | none => l) []
  let recs := fs.reverse.map fun f => (⟨f.start, f.d + f.nidx + 2, f.kseq, foundGroups v f⟩ : JRec)
  let newest := fs.head?
  let head := match newest with
    | some f => (f.start + f.d + f.nidx + 2) % ringSlots
    | none => 0
  let c := c.modKeep fun k =>
    let k := { k with live := live, head := head }
    { k with recs := (recs.dropWhile fun r => (liveOf k r).isEmpty && some r.kseq ≠ newest.map (·.kseq)),
             nextKseq := (match newest with | some f => (f.kseq + 1) % 2 ^ 32 | none => 1),
             namedHalf := named.map fun f => slotLe (ringAt v (f.start + 1 + f.d + f.nidx)) 12 1,
             namedVer := (named.map fun f => slotLe (ringAt v (f.start + 1 + f.d + f.nidx)) 16 4).getD 0 }
  c.onDev fun d =>
    let d := if tornAbove v fs then d.fput F.KEP_FLT_TORN true else d
    let d := d.fput F.KEP_STAT_RECOVERED (fs.any fun f => !f.damaged)
    let d := (d.rsetN A.KEP_VER d.keep.namedVer).rsetN A.KEP_KSEQ ((newest.map (·.kseq)).getD 0)
    wearRegs d

end Core

end Sys2Proof.Machine
end

