-- ==== Sys2Proof/Machine/Cycle.lean ====
section
/-! DEFINITION. The end of a task's cycle (R42): its completion, and the task fault policy (R47). -/

namespace Sys2Proof.Machine

namespace Dev

/-- The time of the next release beat of a task after the release its cycle began with (R32, R40). -/
def nextRelease (d : Dev) (n : Nat) : Nat :=
  let t := d.task n
  let p := d.fget (F.ESC_TCFG_PERIOD n)
  if d.fbit (F.ESC_TCFG_TRIG n) then t.nextRelBeat * d.esc.period
  else
    let ph := d.fget (F.ESC_TPH_PHASE n)
    let k := t.relBeat + 1
    (k + (ph + p - k % p) % p) * d.esc.period

/-- The slack of a cycle that ends now: 0 after an overrun (Table 2.8). -/
def slackNow (d : Dev) (n : Nat) : Nat :=
  let t := d.task n
  if t.stretched || t.late then 0 else min (2 ^ 32 - 1) (d.nextRelease n - d.tb)

end Dev

namespace Core

/-- The instance on a train replaced. -/
def setRun (c : Core) (t : Nat) (r : Option Run) : Core :=
  c.onDev fun d => { d with mov := { d.mov with trains := d.mov.trains.setIfInBounds t r } }

/-! ### Completion (R42) -/

/-- Steps 1 and 2 of Table 2.3: the cycle counts, and its retentive groups go to the staging. -/
def cycleCounts (c : Core) (n : Nat) : Core :=
  let slack := c.dev.slackNow n
  let c := c.onDev fun d =>
    let d := d.escMark
    let d := (d.rsetN (A.ESC_TCYC n) (d.rnat (A.ESC_TCYC n) + 1)).rsetN (A.ESC_TSLK n) slack
    let d := d.rsetN (A.ESC_TSLKMIN n) (min slack (d.rnat (A.ESC_TSLKMIN n)))
    d.fset (F.ESC_TSTAT_DORM n) (min 65535 (d.task n).dormN)
  c.stageGroups (c.dev.task n).dirty

/-- The task is complete, and what its cycle gathered is over. -/
def cycleReset (c : Core) (n : Nat) : Core :=
  let c := c.onDev fun d =>
    let left := d.primeTasks.filter (· ≠ n)
    { d with primeTasks := left, primes := if left.isEmpty then [] else d.primes }
  c.onDev fun d => d.modTask n fun t => { t with
    active := false, unpublished := true, publishNext := t.publishNext || t.late, late := false, fullScan := false,
    dirty := [], slotsDirty := [], acts := [], retSave := [], dormN := 0, cont := none }

/-! ### The task fault policy (R47) -/

/-- The retentive groups a task changed in its unfinished cycle return to the values of its last completed one (R47). -/
def restoreRet (c : Core) (n : Nat) : Core :=
  let saved := (c.dev.task n).retSave
  let c := saved.foldl (fun (c : Core) (s : Nat × List Byte) => c.put (s.1 * 32) s.2) c
  c.onDev fun d => d.modTask n fun x => { x with retSave := [] }

/-- Every instance of a task leaves its train. -/
def clearTask (c : Core) (n : Nat) : Core :=
  c.dev.flight.foldl (fun c x => if x.2.task = n then c.setRun x.1 none else c) c

/-- The task fault policy (R47): cause as ESC_FLT encodes it, and the fault PC. -/
def taskFault (c : Core) (n cause : Nat) (pc : Word) : Core :=
  let c := c.clearTask n
  let c := c.onDev fun d =>
    let d := d.escMark
    let d := if d.fget F.ESC_FLT_CAUSE = 0 then (d.fset F.ESC_FLT_CAUSE cause).fset F.ESC_FLT_TASK n else d
    let d := (d.raise F.ESC_EVT_TASK_FAULT)
    d.occurPair 9 F.ESC_EVT_TASK_FAULT.lo [BitVec.ofNat 32 n, pc, BitVec.ofNat 32 cause]
  if c.dev.fbit (F.ESC_TCFG_FAULT_POL n) then
    c.onDev fun d => (d.modTask n fun x => { x with active := false, stretched := false }).safeFault
  else
    let c := c.restoreRet n
    c.onDev fun d => (d.modTask n fun x => { x with
      halted := true, active := false, stretched := false, late := false, publishNext := false, unpublished := false,
      pendingAlert := false, safeDue := true }).wdgHalt n

/-- A cycle that waited for WELT's verdict ends with an END code: it is complete, or its trap has the task fault policy
applied (R196, R200). -/
def finishCycle (c : Core) (n code : Nat) : Core :=
  match (c.dev.task n).ended with
  | none => c
  | some e =>
    let c := c.onDev fun d => d.modTask n fun t => { t with ended := none }
    if code = 0 then (c.cycleCounts n).cycleReset n else c.taskFault n 4 e.2

/-- The cycles that wait for a verdict which no longer comes end as this member ended them (R207, R44). -/
def settleCycles (c : Core) : Core :=
  (List.range 16).foldl (fun (c : Core) n =>
    match (c.dev.task n).ended with
    | some e => if c.dev.follows || (c.dev.task n).waitAck then c else c.finishCycle n e.1
    | none => c) c

end Core

end Sys2Proof.Machine
end

