-- ==== Sys2Proof/Machine/Convert.lean ====
section
/-! DEFINITION. The conversions of carried and migrated elements (R226, R238, Table 9.4). -/

namespace Sys2Proof.Machine

/-- The size in bytes of a type code of Table 9.4; 0 for the codes that have none. -/
def tySize (t : Nat) : Nat :=
  match t with
  | 0x01 => 1 | 0x02 => 1 | 0x03 => 2 | 0x04 => 2 | 0x05 => 4 | 0x06 => 4 | 0x07 => 8 | 0x08 => 8 | 0x09 => 4
  | 0x0A => 8 | 0x10 => 1 | 0x12 => 16 | 0x13 => 16 | 0x14 => 16 | 0x15 => 16 | 0x22 => 1
  | _ => 0

/-- Whether a type is numeric, 0x01 to 0x0A. -/
def tyNumeric (t : Nat) : Bool := 1 ≤ t && t ≤ 0x0A

/-- Whether a type is a counter record. -/
def tyCounter (t : Nat) : Bool := 0x12 ≤ t && t ≤ 0x15

/-- The limits of an integer type. -/
def tyLo (t : Nat) : Int := if t % 2 = 0 then -2 ^ (8 * tySize t - 1) else 0
def tyHi (t : Nat) : Int := if t % 2 = 0 then 2 ^ (8 * tySize t - 1) - 1 else 2 ^ (8 * tySize t) - 1

/-- The floating-point format of F32 and F64. -/
def tyFmt (t : Nat) : Option Fmt := if t = 0x09 then some .single else if t = 0x0A then some .double else none

/-- A numeric value, as a word of its type, converted to another type; whether it saturated, or NaN became 0. -/
def convertWord (src dst v : Nat) : Nat × Bool :=
  match tyFmt src, tyFmt dst with
  | some f, some g => if src = dst then (v, false) else ((Fmt.convert f g 0 v).bits, false)
  | some f, none =>
    let x := f.toInt 0 v (tyLo dst) (tyHi dst)
    (unsigned (8 * tySize dst) x.1, decide (x.2 &&& fNV ≠ 0))
  | none, some g =>
    let i : Int := if src % 2 = 0 then signed (8 * tySize src) v else v
    ((g.ofInt 0 i).bits, false)
  | none, none =>
    let i : Int := if src % 2 = 0 then signed (8 * tySize src) v else v
    let c := clampI (tyLo dst) (tyHi dst) i
    (unsigned (8 * tySize dst) c, decide (c ≠ i))

/-- The limits of a counter type (R106). -/
def ctrLo (t : Nat) : Int := match t with | 0x12 => -32768 | 0x13 => -2 ^ 31 | 0x14 => 0 | _ => -2 ^ 63
def ctrHi (t : Nat) : Int := match t with | 0x12 => 32767 | 0x13 => 2 ^ 31 - 1 | 0x14 => 2 ^ 32 - 1 | _ => 2 ^ 63 - 1

/-- One element converted (R226): the result bytes, and whether it saturated; a clamped counter does (DEDUCED, log
entry 45). -/
def convertElem (src dst : Nat) (sbe dbe : Bool) (bs : List Byte) : List Byte × Bool :=
  if tyNumeric src && tyNumeric dst then
    let r := convertWord src dst (leNat (if sbe then bs.reverse else bs))
    let out := leBytes (tySize dst) r.1
    (if dbe then out.reverse else out, r.2)
  else if tyCounter src && tyCounter dst then
    let cv := signed 64 (leNat (bs.take 8))
    let c := clampI (ctrLo dst) (ctrHi dst) cv
    let f := (bs.getD 8 0).toNat % 8
    let f := if c ≠ cv then f % 4 + 4 else f
    (leBytes 8 (unsigned 64 c) ++ leBytes 1 f ++ leBytes 7 0, decide (c ≠ cv))
  else (bs, false)

/-- COUNT, SRC_BE and DST_BE of an entry's last halfword (Table 9.4). -/
def elemCount (w : Nat) : Nat := w % 16384
def srcBe (w : Nat) : Bool := w / 16384 % 2 = 1
def dstBe (w : Nat) : Bool := w / 32768 % 2 = 1

end Sys2Proof.Machine
end

