-- ==== Sys2Proof/Machine/Records.lean ====
section
/-! DEFINITION. KEEP's records area (R256 to R259) and migrations of records (R238, R239). -/

namespace Sys2Proof.Machine

/-- The program window of the records area (Table 10.4). -/
def recordsBase : Nat := 0x2000_0000

/-- The groups of a page that a record of `len` bytes fills, numbered in the records area (R256). -/
def pageGroups (p len : Nat) : List Nat := (List.range ((len + 31) / 32)).map (8 * p + ·) ++ [8 * p + 7]

/-- The header of a page, if the page holds a valid record: KEY, VER, SEQ, LEN. A record with an unreadable group is
invalid (Table 1.8); `bad` lists those groups. -/
def pageRecord (m : Cells) (bad : List Nat) (p : Nat) : Option RecLive :=
  let b := recordsBase + 256 * p
  if m.le (b + 224) 2 ≠ 0x5243 then none
  else
    let len := m.le (b + 236) 1
    if 224 < len || (pageGroups p len).any bad.contains then none
    else if crc32 (m.readN b len ++ m.readN (b + 224) 28) = BitVec.ofNat 32 (m.le (b + 252) 4) then
      some ⟨m.le (b + 228) 4, p, m.le (b + 232) 4, m.le (b + 226) 2, len⟩
    else none

/-- A migration entry (R238). -/
structure MigEntry where
  keyLo : Nat
  keyHi : Nat
  fromVer : Nat
  toVer : Nat
  newLen : Nat
  moves : List (Nat × Nat × Nat × Nat × Nat)   -- OLD_OFS, NEW_OFS, SRC_T, DST_T, COUNT
  deriving DecidableEq, Repr

/-- The moves of an entry at an address of the code store. -/
def readMoves (m : Cells) (a n : Nat) : List (Nat × Nat × Nat × Nat × Nat) :=
  (List.range n).map fun i =>
    let x := a + 8 * i
    (m.le x 2, m.le (x + 2) 2, m.le (x + 4) 1, m.le (x + 5) 1, m.le (x + 6) 2)

/-- The entries of a migration table from an address: `n` of them. -/
def readEntries (m : Cells) : Nat → Nat → List MigEntry
  | 0, _ => []
  | n + 1, a =>
    let k := m.le (a + 14) 1
    ⟨m.le a 4, m.le (a + 4) 4, m.le (a + 8) 2, m.le (a + 10) 2, m.le (a + 12) 2, readMoves m (a + 16) k⟩
      :: readEntries m n (a + 16 + 8 * k)

/-- The payload that an entry's moves build from an old one (R238): every byte that no move writes is 0. -/
def migrated (e : MigEntry) (old : List Byte) : List Byte :=
  let src (i n : Nat) : List Byte := (List.range n).map fun k => old.getD (i + k) 0
  let out := e.moves.foldl (fun (m : Cells) mv =>
    let cnt := elemCount mv.2.2.2.2
    let ss := tySize mv.2.2.1
    let ds := tySize mv.2.2.2.1
    (List.range cnt).foldl (fun (m : Cells) i =>
      m.writeN (mv.2.1 + ds * i)
        (convertElem mv.2.2.1 mv.2.2.2.1 (srcBe mv.2.2.2.2) (dstBe mv.2.2.2.2) (src (mv.1 + ss * i) ss)).1) m) []
  Cells.readN out 0 e.newLen

namespace Core

/-- The entries of the active image's migration table (R238). -/
def imageMoves (c : Core) : List MigEntry :=
  match c.dev.esc.image with
  | some im =>
    if im.migrate.2 ≠ 0 then
      let a := 0x1000_0000 + 0x20_0000 * im.half + im.migrate.1
      readEntries c.mem.cells (c.mem.cells.le (a + 4) 4) (a + 16)
    else []
  | none => []

/-- Whether a migration is due: the stored version is below the image's KEEP_VER (R239). -/
def migDue (c : Core) : Bool :=
  match c.dev.esc.image with
  | some im => im.migrate.2 ≠ 0 && decide (c.dev.rnat A.KEP_VER < im.keepVer.toNat)
  | none => false

/-- The migration table, if a migration is due (R239). -/
def migTable (c : Core) : List MigEntry := if c.migDue then c.imageMoves else []

/-- Whether the stored KEEP_VER is the active image's, so that its migration, if it has one, is committed. -/
def migOver (c : Core) : Bool :=
  match c.dev.esc.image with
  | some im => decide (c.dev.rnat A.KEP_VER = im.keepVer.toNat)
  | none => false

/-- Whether a migration keeps a record out of force: one of TO_VER until its commit, one of FROM_VER from then on (R258,
DEDUCED, log entry 32). -/
def hidden (c : Core) (r : RecLive) : Bool :=
  let inKeys (e : MigEntry) : Bool := e.keyLo ≤ r.key && r.key ≤ e.keyHi
  if c.migDue then c.imageMoves.any fun e => inKeys e && r.ver = e.toVer
  else c.migOver && c.imageMoves.any fun e => inKeys e && r.ver = e.fromVer && e.fromVer ≠ e.toVer

/-- The records in force: for each KEY the newest valid record, without those a migration hides (R256, R258). -/
def scanRecords (c : Core) : List RecLive :=
  let ps := ((List.range 1024).filterMap (pageRecord c.mem.cells c.dev.nv.badRec)).filter fun r => !c.hidden r
  ps.foldl (fun (l : List RecLive) r =>
    match l.find? fun x => x.key = r.key with
    | none => l ++ [r]
    | some x => if newer32 r.seq x.seq then l.map fun y => if y.key = r.key then r else y else l) []

/-- The number of records in force shown (Table 10.17). -/
def showLive (c : Core) : Core := c.onDev fun d => d.fset F.KEP_RLIVE_LIVE d.keep.idx.length

/-- The pages oldest first, as a scan finds them: those that hold no valid record, then by SEQ (R256, DEDUCED, log
entry 32). -/
def pagesByAge (m : Cells) (bad : List Nat) : List Nat :=
  let rs := (List.range 1024).filterMap (pageRecord m bad)
  ((List.range 1024).filter fun p => rs.all fun r => r.page ≠ p)
    ++ (sortBy (fun a b => a.seq = b.seq || newer32 b.seq a.seq) rs).map (·.page)

/-- The SEQ after the newest among the pages. -/
def seqAfter (m : Cells) (bad : List Nat) : Nat :=
  ((List.range 1024).filterMap (pageRecord m bad)).foldl (fun (n : Option Nat) r =>
    match n with
    | none => some r.seq
    | some s => if newer32 r.seq s then some r.seq else some s) none |>.elim 0 fun s => (s + 1) % 2 ^ 32

/-- Whether a record in force has a group that reads UNCORRECTABLE, so that it is no longer valid (Table 1.8). -/
def recordLost (d : Dev) (r : RecLive) : Bool := (pageGroups r.page r.len).any d.nv.badRec.contains

/-- The index again, where a record in force has become unreadable: the newest older valid record of its key applies
(Table 1.8, class KEEP_UNCORR). -/
def soundIdx (c : Core) : Core :=
  if c.dev.keep.idx.any (recordLost c.dev) then (c.modKeep fun k => { k with idx := c.scanRecords }).showLive else c

/-- The record in force that a test picks, with its payload, every group of it read and checked; where one cannot be
read the next valid record of the key applies (Table 1.8). `n` bounds the pages tried. -/
def soundRecord : Nat → Core → (RecLive → Bool) → Core × Option (RecLive × List Byte)
  | 0, c, _ => (c, none)
  | n + 1, c, p =>
    match c.dev.keep.idx.find? p with
    | none => (c, none)
    | some r =>
      let x := (pageGroups r.page r.len).foldl (fun (s : Core × Bool) g =>
        let y := s.1.readGroup (0x1000000 + g)
        (y.1, s.2 && y.2)) (c, true)
      if x.2 then (x.1, some (r, x.1.mem.cells.readN (recordsBase + 256 * r.page) r.len))
          else soundRecord n x.1.soundIdx p

/-- A record written to a page: its payload in groups 0 upward, its header in group 7 (R256). -/
def writePage (c : Core) (p key ver seq : Nat) (payload : List Byte) : Core :=
  let b := recordsBase + 256 * p
  let old := BitVec.ofNat 2048 (c.mem.cells.le b 256)
  let h := leBytes 2 0x5243 ++ leBytes 2 ver ++ leBytes 4 key ++ leBytes 4 seq ++ leBytes 1 payload.length ++ leBytes 15 0
  let h := h ++ leBytes 4 (crc32 (payload ++ h)).toNat
  let gs := pageGroups p payload.length
  let m := gs.foldl (fun (m : Mem) g => m.setErrs (0x1000000 + g) []) c.mem
  let c := { c with mem := { m with cells := (c.mem.cells.writeN b payload).writeN (b + 224) h } }
  (c.modKeep fun k => { k with lastPage := some (p, old, c.dev.tb) }).onDev fun d =>
    wearRegs { d with nv := { d.nv with rWrites := d.nv.rWrites + 1, badRec := d.nv.badRec.filter fun g => !gs.contains g } }

/-- Whether a page holds a record in force. -/
def pageLive (k : Keep) (p : Nat) : Option RecLive := k.idx.find? fun r => r.page = p

/-- A record in force moves to the oldest page that holds none (R256). -/
def movePage (c : Core) (r : RecLive) (payload : List Byte) : Core :=
  let k := c.dev.keep
  match k.pages.find? fun q => (pageLive k q).isNone with
  | none => c
  | some q =>
    (c.writePage q r.key r.ver k.nextSeq payload).modKeep fun k => { k with
      idx := k.idx.map fun x => if x.key = r.key then { r with page := q, seq := k.nextSeq } else x,
      pages := k.pages.filter (· ≠ q) ++ [q], nextSeq := (k.nextSeq + 1) % 2 ^ 32 }

/-- The page for a new record, the oldest of all; a record in force on it is first rewritten to a new page, the next
oldest that holds none (R256, DEDUCED, log entry 32). Answers the page and the SEQ. -/
def takePage (c : Core) : Core × Nat × Nat :=
  let c := if c.dev.keep.pages.isEmpty then c.modKeep fun k => { k with pages := List.range 1024 } else c
  let p := c.dev.keep.pages.headD 0
  let c :=
    match pageLive c.dev.keep p with
    | none => c
    | some _ =>
      let x := soundRecord 1 c fun y => y.page = p
      match x.2 with
      | some y => x.1.movePage y.1 y.2
      | none => x.1
  (c.modKeep fun k => { k with pages := k.pages.filter (· ≠ p) ++ [p], nextSeq := (k.nextSeq + 1) % 2 ^ 32 }, p,
    c.dev.keep.nextSeq)

/-- A refused records request (R257). -/
def refuseRecord (c : Core) (r code : Nat) : Core :=
  c.onDev fun d => (d.rsetN (A.KEP_RRESP r) (code * 2 ^ 28)).raise F.KEP_EVT_REC_REFUSED

/-- Whether records requests are answered BUSY (R239, R254, R257). -/
def recordsBusy (c : Core) : Bool :=
  c.dev.fbit F.KEP_STAT_SCAN_BUSY || c.dev.fbit F.SVC_STAT_WARN || c.dev.fbit F.KEP_STAT_SEALED || c.dev.fbit F.SVC_MIGR_BUSY

/-- A WR request of block `r` (R257, R201). -/
def recordWrite (c : Core) (r : Nat) : Core :=
  let d := c.dev
  let key := d.rnat (A.KEP_RKEY r)
  let len := min 224 (bitsOf (d.rnat (A.KEP_RCMD r)) 7 0)
  let recent := d.keep.writes.filter fun t => d.tb < t + 1000000000
  if !d.acts then c
  else if c.recordsBusy then c.refuseRecord r 1
  else if (d.keep.idx.all fun x => x.key ≠ key) && decide (512 ≤ d.keep.idx.length) then c.refuseRecord r 2
  else if 8000 < recent.length then c.refuseRecord r 3
  else
    let payload := ((List.range 56).flatMap fun k => leBytes 4 (d.rnat (A.KEP_RDATA r k))).take len
    let x := c.takePage
    let ver := bitsOf (d.rnat (A.KEP_RVER r)) 15 0
    let c := x.1.writePage x.2.1 key ver x.2.2 payload
    let c := c.modKeep fun k => { k with
      idx := (k.idx.filter fun y => y.key ≠ key) ++ [⟨key, x.2.1, x.2.2, ver, len⟩], writes := recent ++ [d.tb] }
    (c.onDev fun d => ((d.rsetN (A.KEP_RRESP r) 0).rsetN (A.KEP_RSEQ r) x.2.2).tally 0x603).showLive

/-- An RD request of block `r` (R257). -/
def recordRead (c : Core) (r : Nat) : Core :=
  let key := c.dev.rnat (A.KEP_RKEY r)
  if c.recordsBusy then c.refuseRecord r 1
  else
    let y := soundRecord 1024 c fun x => x.key = key && x.len ≠ 0
    match y.2 with
    | none => y.1.onDev fun d => d.rsetN (A.KEP_RRESP r) (4 * 2 ^ 28)
    | some (x, bs) =>
      y.1.onDev fun d =>
        let d := (d.rsetN (A.KEP_RRESP r) (x.len * 2 ^ 16 + x.ver)).rsetN (A.KEP_RSEQ r) x.seq
        (List.range ((x.len + 3) / 4)).foldl (fun d k =>
          let n := min 4 (x.len - 4 * k)
          d.rsetN (A.KEP_RDATA r k)
            (leNat ((bs.drop (4 * k)).take n) + d.rnat (A.KEP_RDATA r k) / 2 ^ (8 * n) * 2 ^ (8 * n))) d

/-- The class B scan completes (R258); a migration due starts after it (R239). -/
def recordScanDone (c : Core) : Core :=
  let c := c.modKeep fun k =>
    { k with idx := c.scanRecords, pages := pagesByAge c.mem.cells c.dev.nv.badRec,
             nextSeq := seqAfter c.mem.cells c.dev.nv.badRec }
  let c := c.onDev fun d =>
    let d := (d.fput F.KEP_STAT_SCAN_BUSY false).fset F.KEP_BOOT_T_SCAN
      (min 65535 ((d.tb - d.keep.scanStart) / 1000))
    d.raise F.KEP_EVT_SCAN_DONE
  let c := c.showLive
  if c.migDue then (c.onDev fun d => d.fput F.SVC_MIGR_BUSY true).modKeep fun k => { k with migrating := false } else c

/-- The records of FROM_VER are rewritten under the migration table (R238, R239). -/
def migrateRecords (c : Core) : Core :=
  let one (c : Core) (e : MigEntry) : Core :=
    let hits := c.dev.keep.idx.filter fun r => e.keyLo ≤ r.key && r.key ≤ e.keyHi && r.ver = e.fromVer
    hits.foldl (fun c h =>
      -- an earlier rewriting may have moved the record, so it is looked up after the page is taken
      let x := c.takePage
      let y := soundRecord 1024 x.1 fun r => r.key = h.key && r.ver = e.fromVer
      match y.2 with
      | none => y.1
      | some (r, old) =>
        (y.1.writePage x.2.1 r.key e.toVer x.2.2 (migrated e old)).onDev fun d => d.finc F.SVC_MIGR_RECORDS) c
  (c.migTable.foldl one c).modKeep fun k => { k with migrating := true }

/-- The commit of a migration (R239, R250, R258): a keep record whose KEEP_VER is the new version, whatever changed. -/
def migrationCommit (c : Core) (beat : Nat) : Core :=
  match c.dev.esc.image with
  | none => c
  | some im =>
    let c := c.onDev fun d => d.rset A.KEP_VER im.keepVer
    let c := (c.keepPoint beat false false).commitRecord
    let c := c.modKeep fun k => { k with idx := c.scanRecords, migrating := false, migrStart := false }
    (c.onDev fun d => ((d.fput F.SVC_MIGR_BUSY false).fput F.SVC_MIGR_DONE true).raise F.SVC_EVT_MIGR_DONE).showLive

/-- A page write cut by the loss of power (R259, Table 10.7): the groups not begun keep their old content. -/
def powerLossPage (c : Core) : Core :=
  match c.dev.keep.lastPage with
  | none => c
  | some (p, old, t0) =>
    let done := (c.dev.tb - t0) / 40 + 1
    if 8 ≤ done then c
    else
      let b := recordsBase + 256 * p
      let put (m : Cells) (i : Nat) : Cells := m.write (b + i) (old.extractLsb' (8 * i) 8)
      { c with mem := { c.mem with cells :=
          ((List.range 256).filter fun i => done ≤ i / 32).foldl put c.mem.cells } }

end Core

end Sys2Proof.Machine
end

