-- ==== Sys2Proof/Machine/Regulator.lean ====
section
/-! DEFINITION. REGULATOR: the discipline of the time base (R128 to R136), slot snapshots (R139), the calendar in its
island (R141 to R148), the beat view (R149, R150) and the periodic wake (R151). -/

namespace Sys2Proof.Machine

/-- A ratio rounded to the nearest integer; a tie goes up or down as `up` says. -/
def roundRat (x : Rat) (up : Bool) : Int :=
  let f := x.floor
  let r := x - f
  if r < 1 / 2 then f else if 1 / 2 < r then f + 1 else if up then f + 1 else f

/-- The last valid second of the calendar, 2399-12-31 23:59:59 (R141). -/
def calMax : Nat := 12622780799

/-- Whether a year is a leap year (R142). -/
def leapYear (y : Nat) : Bool := y % 4 = 0 && (y % 100 ≠ 0 || y % 400 = 0)

/-- The days of a month. -/
def monthDays (y m : Nat) : Nat :=
  if m = 2 then (if leapYear y then 29 else 28) else if m = 4 || m = 6 || m = 9 || m = 11 then 30 else 31

/-- The days from 2000-01-01 to the first day of a year. -/
def daysToYear (y : Nat) : Nat :=
  let n := y - 2000
  365 * n + (n + 3) / 4 - (n + 99) / 100 + (n + 399) / 400

/-- The days from the first day of a year to the first day of a month. -/
def daysToMonth (y m : Nat) : Nat := ((List.range (m - 1)).map fun k => monthDays y (k + 1)).sum

/-- The year of a day count. -/
def yearOf (days : Nat) : Nat := 2000 + ((List.range 400).filter fun k => daysToYear (2001 + k) ≤ days).length

/-- The month of a day of a year. -/
def monthOf (y day : Nat) : Nat := 1 + ((List.range 11).filter fun k => daysToMonth y (k + 2) ≤ day).length

/-- Two decimal digits. -/
def bcd2 (n : Nat) : Nat := n / 10 % 10 * 16 + n % 10

/-- The date of SEC in the layout of REG_CAL_LDATE. -/
def calDate (sec : Nat) : Nat :=
  let days := sec / 86400
  let y := yearOf days
  let day := days - daysToYear y
  let m := monthOf y day
  bcd2 (y / 100) * 2 ^ 24 + bcd2 (y % 100) * 2 ^ 16 + bcd2 m * 2 ^ 8 + bcd2 (day - daysToMonth y m + 1)

/-- The time of SEC in the layout of REG_CAL_LTIME. -/
def calTime (sec : Nat) : Nat :=
  let s := sec % 86400
  bcd2 (s / 3600) * 2 ^ 16 + bcd2 (s / 60 % 60) * 2 ^ 8 + bcd2 (s % 60)

/-- The day of week: 1 Monday to 7 Sunday; SEC = 0 is a Saturday (R142). -/
def calDow (sec : Nat) : Nat := (sec / 86400 + 5) % 7 + 1

/-- Whether every BCD digit of the low `n` digits of a word is at most 9. -/
def bcdOk (n v : Nat) : Bool := (List.range n).all fun k => v / 16 ^ k % 16 ≤ 9

/-- The value of `n` BCD digits. -/
def bcdVal : Nat → Nat → Nat
  | 0, _ => 0
  | n + 1, v => bcdVal n (v / 16) * 10 + v % 16

/-- SEC of a staged BCD time and date, unless it is impossible (R145). -/
def bcdSec (time date : Nat) : Option Nat :=
  let y := bcdVal 4 (date / 2 ^ 16)
  let m := bcdVal 2 (date / 2 ^ 8 % 2 ^ 8)
  let dd := bcdVal 2 (date % 2 ^ 8)
  let h := bcdVal 2 (time / 2 ^ 16 % 2 ^ 8)
  let mi := bcdVal 2 (time / 2 ^ 8 % 2 ^ 8)
  let s := bcdVal 2 (time % 2 ^ 8)
  if bcdOk 8 time && bcdOk 8 date && time / 2 ^ 24 = 0 && 2000 ≤ y && y ≤ 2399 && 1 ≤ m && m ≤ 12 && 1 ≤ dd
      && dd ≤ monthDays y m && h ≤ 23 && mi ≤ 59 && s ≤ 59 then
    some ((daysToYear y + daysToMonth y m + dd - 1) * 86400 + h * 3600 + mi * 60 + s)
  else none

/-- SUB at a time-base value: the calendar clock counts at its nominal rate between second roll-overs (log entry
12). -/
def Island.subAt (i : Island) (tb : Nat) : Nat :=
  match i.stopped with
  | some s => s
  | none => min 32767 (((tb : Int) - i.edge).toNat * 32768 / 10 ^ 9)

namespace Dev

/-! ### The time base -/

/-- The time base set to a value that is no count of its own: a step or a restart. The island keeps its phase. -/
def setTb (d : Dev) (t : Nat) : Dev :=
  { d with tb := t, isl := { d.isl with edge := d.isl.edge + ((t : Int) - d.tb) } }

/-- Every timer slot gets NEW = 1 (Table 6.3). -/
def slotsNew (d : Dev) : Dev :=
  { d with slots := (d.slots.map fun (s : Nat × Slot) => (s.1, { s.2 with new := true })).filter fun s => s.2 ≠ {} }

/-- The lock is lost (R133). -/
def loseLock (d : Dev) : Dev :=
  if d.fbit F.REG_STAT_GT_LOCK then
    let d := ((d.fput F.REG_STAT_GT_LOCK false).raiseRec F.REG_EVT_GT_LOCK_LOST).tally 0x202
    if d.st = .run then d.fput F.REG_FLT_GT_SOURCE true else d
  else d

/-- The lock rule over consecutive samples (R133). -/
def lockRule (d : Dev) (inside : Bool) : Dev :=
  let g := d.gt
  let d := { d with gt := { g with inN := if inside then min 8 (g.inN + 1) else 0,
                                   outN := if inside then 0 else min 4 (g.outN + 1) } }
  if d.gt.inN = 8 && !d.fbit F.REG_STAT_GT_LOCK then
    (d.fput F.REG_STAT_GT_LOCK true).raise F.REG_EVT_GT_LOCK_GAINED
  else if d.gt.outN = 4 then d.loseLock
  else d

/-- The discipline of R132 over one sample of offset `θ`, with the previous sample at `p`. Two samples at one time-base
value make no update (DESIGN CHOICE, log entry 66). -/
def steer (d : Dev) (θ : Int) (p : Nat) : Dev :=
  let delta : Rat := (d.tb - p : Nat)
  let lim (x : Rat) : Rat := if 1 / 10000 < x then 1 / 10000 else if x < -(1 / 10000) then -(1 / 10000) else x
  if delta = 0 then d
  else
    let integ := lim (d.gt.integ + θ / (64 * delta))
    let s := lim (θ / (8 * delta) + integ)
    let v := roundRat (s * 10 ^ 9) ((Config.openWord d.free).getLsbD 0)
    ({ d with gt := { d.gt with integ := integ } }.nextFree).rsetN A.REG_GT_STEER (unsigned 32 v)

/-- One valid sample: `stamp` the sender's stamp in ns, `delay` the path delay in 1/64 ns (R131 to R136). -/
def timeSample (d : Dev) (stamp delay : Nat) : Dev :=
  if !d.hasSource then d
  else
    let θ : Int := (((stamp : Int) * 64 + delay) - (d.tb : Int) * 64) / 64
    let d := d.rsetN A.REG_GT_OFS (unsigned 32 (clampI (-2 ^ 31) (2 ^ 31 - 1) θ))
    let d := (d.rsetN A.REG_GT_DELAY (delay / 64)).rsetN A.REG_GT_SAMPLES (d.rnat A.REG_GT_SAMPLES + 1)
    let d := (d.fput F.REG_STAT_GT_HOLDOVER false).tally 0x201
    let d := d.lockRule (θ.natAbs ≤ 10)
    let stepped := decide (10000 < θ.natAbs) && (d.st = .boot || d.st = .stop)
    let d :=
      if stepped then
        let t := roundRat ((((d.tb : Int) + θ : Int) : Rat) / 10) ((Config.openWord d.free).getLsbD 0) * 10
        (((d.nextFree).setTb t.toNat).raise F.REG_EVT_GT_STEP).slotsNew
      else
        match d.gt.last with
        | some p => if d.fbit F.REG_CTL_GT_EN && !d.fbit F.REG_CTL_GT_HOLD then d.steer θ p else d
        | none => d
    { d with gt := { d.gt with last := some d.tb, lastValid := d.tb } }

/-- No valid sample for 16 frame intervals of the source ring (R134). -/
def holdoverDue (d : Dev) : Bool :=
  let iv := if d.role = 2 then d.esc.period else 10 * d.fget F.LAC_TB_TB
  d.hasSource && iv ≠ 0 && !d.fbit F.REG_STAT_GT_HOLDOVER && decide (d.gt.lastValid + 16 * iv ≤ d.tb)

/-- Entry to holdover (R134). -/
def holdover (d : Dev) : Dev :=
  if d.holdoverDue then
    let d := { d with gt := { d.gt with last := none, inN := 0, outN := 0 } }
    (d.fput F.REG_STAT_GT_HOLDOVER true).loseLock
  else d

/-- A write of REG_CTL: clearing GT_EN zeroes STEER and integ; setting it, or clearing GT_HOLD, forgets the previous
sample (R132). -/
def regCtl (before d : Dev) : Dev :=
  let en (x : Dev) := x.fbit F.REG_CTL_GT_EN
  let hold (x : Dev) := x.fbit F.REG_CTL_GT_HOLD
  let d := if !en d && d.hasSource then
      ({ d with gt := { d.gt with integ := 0 } }).rsetN A.REG_GT_STEER 0 else d
  if (en d && !en before) || (!hold d && hold before) then { d with gt := { d.gt with last := none } } else d

/-- A write of TRIM (R128). -/
def writeTrim (d : Dev) (v : Nat) : Dev :=
  let t := signed 16 v
  let c := clampI (-20000) 20000 t
  let d := d.fset F.REG_TRIM_TRIM (unsigned 16 c)
  if c = t then d else d.raise F.REG_EVT_TRIM_CLAMP

/-! ### Slots as registers -/

/-- The four words of a slot (Table 6.2). -/
def slotWords (s : Slot) : List Word :=
  [BitVec.ofNat 32 s.last, BitVec.ofNat 32 (s.last / 2 ^ 32), BitVec.ofNat 32 s.et,
   BitVec.ofNat 32 (b2n s.new * 2 ^ 31 + b2n s.run * 2 ^ 30 + b2n s.q * 2 ^ 29 + b2n s.inPrev * 2 ^ 28
     + b2n s.poison * 2 ^ 27 + b2n s.assigned * 2 ^ 20 + s.owner % 16 * 2 ^ 16 + s.sub % 1024)]

/-- A write of REG_SLOT_SEL by a requester (R139). -/
def selectSlot (d : Dev) (q : Requester) (v : Nat) : Dev :=
  let d := d.fset F.REG_SLOT_SEL_SLOT v
  let w := slotWords (alGet (v % 4096) ({} : Slot) d.slots)
  { d with slotSnap := (q, w) :: d.slotSnap.filter fun (x : Requester × List Word) => x.1 ≠ q }

/-! ### The calendar -/

/-- The island's bits of REG_CAL_STAT. -/
def calShow (d : Dev) : Dev :=
  ((((d.fput F.REG_CAL_STAT_OSC_STOP d.isl.oscStop).fput F.REG_CAL_STAT_END d.isl.ended).fput
    F.REG_CAL_STAT_INVALID d.isl.invalid).fput F.REG_CAL_STAT_DST d.isl.dst)

/-- The anchor renewed at a calendar edge (R149). -/
def renewAnchor (d : Dev) : Dev :=
  { d with gt := { d.gt with nextAnchor := some ⟨d.isl.sec, d.isl.edge, d.isl.dst⟩ } }

/-- The ordinary entry of a calendar refusal (R145, R146). -/
def calRefuse (d : Dev) (f : Fld) (snap : List Word) : Dev :=
  ((d.fput f true).raise F.REG_EVT_CAL_REFUSED).occur 10 F.REG_EVT_CAL_REFUSED.lo snap

/-- CAL_LATCH (R143). -/
def calLatch (d : Dev) : Dev :=
  let s := d.isl.sec
  let d := (d.rsetN A.REG_CAL_LSEC_LO s).rsetN A.REG_CAL_LSEC_HI (s / 2 ^ 32)
  let d := (d.rsetN A.REG_CAL_LSUB (d.isl.subAt d.tb)).rsetN A.REG_CAL_LTIME (calTime s)
  let d := d.rsetN A.REG_CAL_LDATE (calDate s)
  (d.fset F.REG_CAL_LINFO_DOW (calDow s)).fput F.REG_CAL_LINFO_DST d.isl.dst

/-- The staged second, unless it is impossible (R144, R145). -/
def staged (d : Dev) : Option Nat :=
  if d.fbit F.REG_CTL_CAL_MODE then
    let s := d.fget F.REG_CAL_SSEC_HI_SEC * 2 ^ 32 + d.rnat A.REG_CAL_SSEC_LO
    if s ≤ calMax then some s else none
  else bcdSec (d.rnat A.REG_CAL_STIME) (d.rnat A.REG_CAL_SDATE)

/-- CAL_COMMIT (R144, R145). -/
def calCommit (d : Dev) : Dev :=
  match d.staged with
  | some s =>
    let i : Island := { d.isl with
      sec := s, edge := d.tb, stopped := if d.isl.oscStop then some 0 else none, dst := d.fbit F.REG_CAL_SFLAGS_DST,
      invalid := false, ended := false, commitAt := some d.tb }
    (({ d with isl := i }).renewAnchor).calShow
  | none =>
    let w := if d.fbit F.REG_CTL_CAL_MODE then [d.rget A.REG_CAL_SSEC_LO, d.rget A.REG_CAL_SSEC_HI]
      else [d.rget A.REG_CAL_STIME, d.rget A.REG_CAL_SDATE]
    d.calRefuse F.REG_CAL_STAT_BAD_WRITE (w ++ [d.rget A.REG_CAL_SFLAGS])

/-- CAL_DST: an hour forward or back (R146). It does not move a calendar that has reached its end (R147): there it is
refused (DESIGN CHOICE, log entry 66). -/
def calDst (d : Dev) (plus : Bool) : Dev :=
  let s : Int := if plus then d.isl.sec + 3600 else d.isl.sec - 3600
  if d.isl.ended || d.isl.dst = plus || s < 0 || (calMax : Int) < s then
    d.calRefuse F.REG_CAL_STAT_DST_REFUSED (d.snapOf 2)
  else
    (({ d with isl := { d.isl with sec := s.toNat, dst := plus } }).renewAnchor).calShow

/-- A calendar command carried out at a calendar clock edge (R143, Table 6.5). -/
def calDo (d : Dev) (v : Nat) : Dev :=
  let d :=
    match v with
    | 1 => d.calLatch
    | 2 => d.calCommit
    | 3 => d.calDst true
    | _ => d.calDst false
  (d.raise F.REG_EVT_CAL_DONE).tally 0x203

/-- A command written to REG_CAL_CMD (R143): carried out and complete, or ignored. With no calendar clock it waits, and
BUSY stays. -/
def calCmd (d : Dev) (v : Nat) : Dev :=
  if d.fbit F.REG_CAL_STAT_BUSY then d.fput F.REG_CAL_STAT_CMD_REFUSED true
  else if v % 8 = 0 || 4 < v % 8 then d.fput F.REG_CAL_STAT_CMD_REFUSED true
  else if d.isl.oscStop then
    ({ d with gt := { d.gt with calPend := some (v % 8) } }).fput F.REG_CAL_STAT_BUSY true
  else d.calDo (v % 8)

/-- A command that waited for the calendar clock is carried out (R143). -/
def calResume (d : Dev) : Dev :=
  match d.gt.calPend with
  | some v => (({ d with gt := { d.gt with calPend := none } }).fput F.REG_CAL_STAT_BUSY false).calDo v
  | none => d

/-- A second roll-over (R141, R147, R149). One that falls on the edge of a commit is absorbed (R144). The calendar clock
runs again by then: OSC_STOP is clear (DESIGN CHOICE, log entry 66), and a command that waited is carried out after the
roll-over (R143, R146). -/
def calSecond (d : Dev) : Dev :=
  let d := ({ d with isl := { d.isl with oscStop := false } })
  let d :=
    if d.isl.ended || d.isl.commitAt = some d.tb then d
    else if calMax ≤ d.isl.sec then
      ({ d with isl := { d.isl with ended := true, stopped := some 32767 } }).nextFree.occurBlk 10
        ((Config.openWord d.free).toNat % 256) 2
    else
      ({ d with isl := { d.isl with sec := d.isl.sec + 1, edge := d.tb, stopped := none } }).renewAnchor
  d.calShow.calResume

/-- No calendar clock for 1 ms, while VIO is present (R148). -/
def calOscStop (d : Dev) : Dev :=
  ({ d with isl := { d.isl with oscStop := true, invalid := true, stopped := some (d.isl.subAt d.tb) } }).calShow.fput
    F.REG_FLT_CAL_OSC true

/-- The island powers up without VBAK having been held (R148). -/
def islandUp (d : Dev) : Dev := ({ d with isl := { edge := d.tb } }).calShow

/-- The beat view of an anchor at time `t` (R149): BSEC and BSUB. Where a step of the time base has left `t` below A_TB,
n is 0 (DESIGN CHOICE, log entry 66). -/
def beatView (a : Anchor) (t : Nat) : Nat × Nat :=
  let n := ((t : Int) - a.tb).toNat * 32768 / 10 ^ 9
  let s := a.sec + n / 32768
  if calMax < s then (calMax, 32767) else (s, n % 32768)

/-! ### The wake -/

/-- A write of REG_CAL_WAKE, armed at `a` (R151). -/
def writeWake (d : Dev) (v a : Nat) : Dev :=
  let d := d.fset F.REG_CAL_WAKE_PERIOD v
  { d with gt := { d.gt with wakeArm := a, wakeK := 0, wakeDue := false } }

/-- The period of the wake in ns. -/
def wakePeriod (d : Dev) : Nat := d.fget F.REG_CAL_WAKE_PERIOD * 3906250

/-- Every wake due by now is noted (R151). -/
def wakeNow (d : Dev) : Dev :=
  if d.wakePeriod ≠ 0 && decide (d.gt.wakeArm + (d.gt.wakeK + 1) * d.wakePeriod ≤ d.tb) then
    { d with gt := { d.gt with wakeK := (d.tb - d.gt.wakeArm) / d.wakePeriod, wakeDue := true } }
  else d

/-- A noted wake is latched at a beat as alert source 29 (R151). -/
def wakeLatch (d : Dev) : Dev :=
  let d := d.wakeNow
  if d.gt.wakeDue then
    (({ d with gt := { d.gt with wakeDue := false } }).raise F.REG_EVT_CAL_WAKE).alert 29
  else d

/-- The anchor taken into force at a beat (R149, R150): on a member of a synchronised pair, or one that joins, the
acknowledged one; elsewhere the newest renewed one. -/
def anchorAtBeat (d : Dev) : Dev :=
  if d.takesCopies || d.followed then
    match d.gt.ackAnchor with
    | some a => { d with gt := { d.gt with anchor := a, ackAnchor := none } }
    | none => d
  else
    match d.gt.nextAnchor <|> d.gt.sentAnchor.map (·.2.2) <|> d.gt.ackAnchor with
    | some a => { d with gt := { d.gt with anchor := a, nextAnchor := none, sentAnchor := none, ackAnchor := none } }
    | none => d

end Dev

end Sys2Proof.Machine
end

