-- ==== Sys2Proof/Machine/WeltCopy.lean ====
section
/-! DEFINITION. WELT's cycle copy (R189 to R201): the blocks a member sends, the items of the copy, the digest of a
cycle, the verdict, and what a member becomes by it. -/

namespace Sys2Proof.Machine

/-- The outcomes of Table 8.5. -/
inductive Verdict where
  | matched
  | standbyYields
  | holderYields
  | noCulprit
  deriving DecidableEq, Repr

/-- The verdict of two digests and FAULT bits (R199). -/
def verdict (equal hFault sFault : Bool) : Verdict :=
  if equal then .matched else if !hFault && sFault then .standbyYields else if hFault && !sFault then .holderYields
  else .noCulprit

/-- Eight register words as the 32 bytes of a group. -/
def wordsGrp (ws : List Word) : BitVec 256 := BitVec.ofNat 256 (leNat (ws.flatMap fun w => leBytes 4 w.toNat))

/-- Word `i` of a group. -/
def grpWord (g : BitVec 256) (i : Nat) : Word := g.extractLsb' (32 * i) 32

/-- A slot from the first four words of `g`, words `4 * k` upward (Table 6.2). -/
def grpSlot (g : BitVec 256) (k : Nat) : Slot :=
  let w := (grpWord g (4 * k + 3)).toNat
  { last := (grpWord g (4 * k)).toNat + 2 ^ 32 * (grpWord g (4 * k + 1)).toNat, et := (grpWord g (4 * k + 2)).toNat,
    new := bitsOf w 31 31 = 1, run := bitsOf w 30 30 = 1, q := bitsOf w 29 29 = 1, inPrev := bitsOf w 28 28 = 1,
    poison := bitsOf w 27 27 = 1, assigned := bitsOf w 20 20 = 1, owner := bitsOf w 19 16, sub := bitsOf w 9 0 }

/-- The first register of CAN object group `k` (R327). -/
def canGrpAddr (k : Nat) : Nat := 0xA1000 + 0x3000 * (k / 384) + 32 * (k % 384)

/-- The first register of loop group `k` (R297). -/
def loopGrpAddr (k : Nat) : Nat := A.LOP_CFG (k / 2) + 32 * (k % 2)

/-- The number of group entries that carry an item (Table 8.3): a record image takes one per 32 bytes. A control item is
one of the 64 control groups (DESIGN CHOICE, log entry 41). -/
def WItem.entries : WItem → Nat
  | .record _ _ _ p => (p.length + 63) / 32
  | _ => 1

/-- Items in blocks of up to eight group entries each, an item whole in its block (R189). -/
def packItems : List WItem → List WItem → List (List WItem)
  | [], cur => if cur.isEmpty then [] else [cur]
  | x :: xs, cur =>
    if 8 < (cur.map WItem.entries).sum + WItem.entries x then cur :: packItems xs [x] else packItems xs (cur ++ [x])

/-- Input groups in blocks of up to eight. -/
def chunks8 {α : Type} : Nat → List α → List (List α)
  | 0, _ => []
  | _, [] => []
  | n + 1, l => l.take 8 :: chunks8 n (l.drop 8)

namespace Dev

/-- The state of WELT beyond its registers, changed. -/
def modWlt (d : Dev) (f : Wlt → Wlt) : Dev := { d with wlt := f d.wlt }

/-- The bytes of a block on the wire (R189), where the spec gives its payload a length. -/
def wireLen (d : Dev) : WBlock → Nat
  | .input gs => 14 + 36 * gs.length
  | .copy xs => 14 + 36 * (xs.map WItem.entries).sum
  | .resync xs _ => 14 + 36 * (xs.map WItem.entries).sum
  | .ack .. => 38
  | .copyEnd .. => 38
  | .nak _ => 18
  | _ => (Config.openWord d.free).toNat % 1024

/-- A block leaves on the link, in the order of its BSEQ. -/
def wsend (d : Dev) (b : WBlock) : Dev :=
  if d.fbit F.WLT_STAT_LINK_UP || (match b with | .status _ => true | _ => false) then
    let n := d.wireLen b
    let d := d.nextFree.emit (.welt d.wlt.txSeq b)
    (d.modWlt fun w => { w with txSeq := (w.txSeq + 1) % 2 ^ 32 }).bytesOut 4 n
  else d

/-- The first UNSYNC since power-on is recorded with its cause (Table 8.12). -/
def wltFlt (d : Dev) (cause : Nat) : Dev := d.fsticky F.WLT_FLT_CAUSE cause

/-- The lease beat number (R202). -/
def leaseBeat (d : Dev) : Nat :=
  let t := 10 * d.fget F.LAC_TB_TB
  if t = 0 then 0 else d.tb / t

/-- What ends when a member ceases to follow. -/
def unfollow (d : Dev) : Dev :=
  d.modWlt fun w => { w with
    await := false, boundary := [], limits := [], ended := [], displaced := [], loads := [], rcopy := [],
        held := [], own := [],
    joinBeat := none, matched := [], rsPos := none, rsSent := [], lastIn := [], seamAt := none, bothTrap := false }

/-- The member executes no program: the trains are empty and no task is in progress (Table 8.1). -/
def stopTasks (d : Dev) : Dev :=
  let d := { d with mov := { d.mov with trains := Vector.replicate 4 none, heldSids := [] } }
  (List.range 16).foldl (fun d n => d.modTask n fun t => { t with
    active := false, stretched := false, waitAck := false, unpublished := false, publishNext := false, late := false,
    cont := none, ended := none }) d

/-- This member becomes UNSYNC, with the cause of Table 8.12 (0: none is listed). -/
def becomeUnsync (d : Dev) (cause : Nat) : Dev :=
  let was := d.wltState
  let d := (d.unfollow.stopTasks.fset F.WLT_STAT_STATE 0).fput F.WLT_STAT_LEASE_OK false
  let d := if cause ≠ 0 then d.wltFlt cause else d
  if was = 0 then d else d.raise F.WLT_EVT_UNSYNCED

/-- The holder treats its partner as UNSYNC and waits for no ACK (R44, R199, R207). -/
def partnerUnsync (d : Dev) (cause : Nat) : Dev :=
  let was := d.fget F.WLT_STAT_PEER
  let d := (d.unfollow.modWlt fun w => { w with dropped := true }).fset F.WLT_STAT_PEER 0
  let d := (List.range 16).foldl (fun d n => d.modTask n fun t => { t with waitAck := false }) d
  let d := if cause ≠ 0 then d.wltFlt cause else d
  if was = 2 || was = 3 then d.raise F.WLT_EVT_UNSYNCED else d

/-- This member becomes SOLO (R199, R207). -/
def becomeSolo (d : Dev) : Dev :=
  let d := d.unfollow.fset F.WLT_STAT_STATE 3
  d.modWlt fun w => { w with soloBeat := d.leaseBeat }

/-- The counters that restart at entry to RUN and when a member becomes synchronised (R51). -/
def countersRestart (d : Dev) : Dev :=
  let d := (List.range 16).foldl (fun d n =>
    let d := (((d.rset (A.ESC_TCYC n) 0).rreset (A.ESC_TSLKMIN n)).rset (A.ESC_TOVR n) 0)
    (d.fset (F.ESC_TSTAT_COAL n) 0).fset (F.ESC_TSTAT_DORM n) 0) d
  d.rreset A.ESC_RSV_MIN

/-- A member that becomes SYNC takes the crown holder's device state (R210). -/
def takeState (d : Dev) : Dev :=
  match d.wlt.peer with
  | some s =>
    if s.dev = .run && d.st = .stop then
      { d.wdgExpect with st := .run, esc := { d.esc with runStart := some d.tb, runBeat := d.tb / d.esc.period } }
    else if s.dev = .stop && d.st = .run then
      { d.wdgSuspend with st := .stop, esc := { d.esc with outSafe := true, runStart := none } }
    else d
  | none => d

/-- This member becomes SYNC (R209, R199, R50, R51). -/
def becomeSync (d : Dev) : Dev :=
  let d := d.takeState
  let d := (d.modWlt fun w => { w with joinBeat := none, matched := [] }).fset F.WLT_STAT_STATE 2
  let d := (d.fset F.WLT_CNT0_CULPRITLESS 0).countersRestart
  let d := (List.range 16).foldl (fun d n => d.modTask n fun t => { t with scanNext := true }) d
  d.raise F.WLT_EVT_SYNCED

/-- Whether a yielding holder can hand the crown over (Table 0.6, R200). -/
def canHandOver (d : Dev) : Bool :=
  d.isHolder && !d.fbit F.WLT_STAT_KEEPERLESS && (d.fget F.WLT_STAT_PEER = 2 || d.fget F.WLT_STAT_PEER = 3)

/-- What a member says of its crown (Table 8.7). -/
def leaseSay (d : Dev) (sub : Nat) : Lease :=
  { sub := sub, peer := d.fget F.WLT_STAT_PEER, pair := d.ownAddr, lepoch := d.rnat A.WLT_EPOCH, lbeat := d.leaseBeat,
    devId := d.factory.deviceId }

/-- The holder yields: it sends RELINQUISH, and leaves the crown at its next base beat (R205). -/
def yieldCrown (d : Dev) (cause : Nat) (toSafe : Bool) : Dev :=
  let d := if cause ≠ 0 then d.wltFlt cause else d
  let d := if d.wlt.yield || d.wlt.relinquished then d else (d.mgmtSend (d.leaseSay 4)).occurPair 2 0x0002 (d.snapOf 4)
  d.modWlt fun w => { w with yield := true, safeAfter := w.safeAfter || toSafe }

/-- A mismatch of digests is noted (R199). -/
def noteMismatch (d : Dev) (task relBeat : Nat) (hFault sFault : Bool) : Dev :=
  let d := ((d.raise F.WLT_EVT_MISMATCH).finc F.WLT_CNT0_MISMATCH).tally 0x403
  if d.isHolder then
    d.occurPair 2 0x0003 [BitVec.ofNat 32 task, BitVec.ofNat 32 relBeat, BitVec.ofNat 32 (relBeat / 2 ^ 32),
      BitVec.ofNat 32 (b2n hFault * 2 + b2n sFault)]
  else d

end Dev

namespace Core

/-- Whether a work-memory group lies in the input image or a task view, which no copy holds (Table 8.3). -/
def copyFree (c : Core) (g : Nat) : Bool :=
  g < 0x400 || (List.range 16).any fun n => decide (1 < (c.namesOf n g).length)

/-- The content of a group of SPACE 0x0 to 0x3. -/
def grpData (c : Core) (space g : Nat) : BitVec 256 :=
  match space with
  | 0 => BitVec.ofNat 256 (c.mem.cells.le (32 * g) 32)
  | 1 => wordsGrp (Dev.slotWords (alGet (2 * g) ({} : Slot) c.dev.slots)
    ++ Dev.slotWords (alGet (2 * g + 1) ({} : Slot) c.dev.slots))
  | 2 => wordsGrp ((List.range 8).map fun i => c.dev.rget (loopGrpAddr g + 4 * i))
  | _ => wordsGrp ((List.range 8).map fun i => c.dev.rget (canGrpAddr g + 4 * i))

/-- The groups of SPACE 0x0 and 0x1 that a cycle of a task changed, in index order (R197). -/
def cycleGroups (c : Core) (n : Nat) : List (Nat × Nat) :=
  let t := c.dev.task n
  let w := sortBy (· ≤ ·) (t.dirty.filter fun g => !c.copyFree g)
  let s := (t.slotsDirty.map (· / 2)).foldl (fun (l : List Nat) g => if l.contains g then l else l ++ [g]) []
  w.map (fun g => (0, g)) ++ (sortBy (· ≤ ·) s).map fun g => (1, g)

/-- The groups of SPACE 0x2 or 0x3 as they stand, zero groups left out. -/
def grpSnap (c : Core) (space n : Nat) : List (Nat × BitVec 256) :=
  ((List.range n).map fun g => (g, c.grpData space g)).filter fun x => x.2 ≠ 0

/-- The groups whose content differs from a snapshot. -/
def grpDiff (c : Core) (space n : Nat) (old : List (Nat × BitVec 256)) : List WItem :=
  ((List.range n).filter fun g => c.grpData space g ≠ alGet g 0 old).map fun g => .grp space g (c.grpData space g)

/-- The record of a page as a copy item. -/
def recItem (c : Core) (r : RecLive) : WItem :=
  .record r.key r.ver r.seq (c.mem.cells.readN (recordsBase + 256 * r.page) r.len)

/-- The anchor that travels with the copies: the newest renewed one, else the one in force (R150). -/
def anchorItem (d : Dev) : WItem :=
  let a := (d.gt.nextAnchor <|> d.gt.sentAnchor.map (·.2.2) <|> d.gt.ackAnchor).getD d.gt.anchor
  .anchor a.sec a.tb a.dst

/-- The 64 control groups: the recorder head, the anchor, the mailbox entries in every state, the keeper's table, and
groups that hold nothing (DESIGN CHOICE, log entry 41). -/
def ctlItems (c : Core) : List WItem :=
  let d := c.dev
  let mb := (List.range 32).map fun e =>
    WItem.mailbox e (d.rget (A.LAC_MBX_CTRL e)) ((List.range 64).map fun k => d.rget (A.LAC_MBX_DATA e k))
  .recHead (d.rget A.REC_HEAD) :: anchorItem d :: mb ++ .leases d.lac.pairs
    :: (List.range 29).map fun k => .grp 5 (35 + k) 0

/-- The items of the copy of a cycle (Table 8.3); a poisoned group is never copied (R247). -/
def copyItems (c : Core) (n : Nat) : List WItem :=
  let w := c.dev.wlt
  (((c.cycleGroups n).filter fun x => x.1 ≠ 0 || (c.mem.poisonOf x.2).isNone).map fun x => .grp x.1 x.2 (c.grpData x.1 x.2))
    ++ c.grpDiff 2 128 w.loopSnap ++ c.grpDiff 3 768 w.canSnap
    ++ ((c.dev.keep.idx.filter fun r => !w.recSnap.contains (r.key, r.seq)).map c.recItem)
    ++ (c.ctlItems.filter fun x => !w.ctlSnap.contains x)

/-- What the previous copy holds, for the next one. -/
def copySnap (c : Core) : Core :=
  let loops := c.grpSnap 2 128
  let cans := c.grpSnap 3 768
  let recs := c.dev.keep.idx.map fun r => (r.key, r.seq)
  let ctl := c.ctlItems
  c.onDev fun d => d.modWlt fun w => { w with loopSnap := loops, canSnap := cans, recSnap := recs, ctlSnap := ctl }

/-- The content of a changed group in its digest: that of a poisoned one, which is no data, is a free value. -/
def digestData (c : Core) (space g : Nat) : List Byte :=
  if space = 0 ∧ (c.mem.poisonOf g).isSome then (List.range 32).map fun i => Config.tornByte (32 * (c.dev.free + g) + i)
  else leBytes 32 (c.grpData space g).toNat

/-- The digest of a cycle (R197). -/
def cycleDigest (c : Core) (n relBeat endCode : Nat) : BitVec 64 :=
  let t := c.dev.task n
  let groups := (c.cycleGroups n).flatMap fun x => leBytes 4 (x.1 * 2 ^ 28 + x.2) ++ c.digestData x.1 x.2
  let num (x : Nat × Nat) : Nat := if x.1 = 1 then Config.chkinNumber.toNat else x.2 % 2 ^ 24
  let acts := t.acts.flatMap fun x => leBytes 4 ((Config.actKind x.1).toNat * 2 ^ 24 + num x)
  ~~~ crcMsb 0x42F0E1EBA9EA3693#64 (BitVec.allOnes 64)
    (leBytes 1 n ++ leBytes 8 relBeat ++ leBytes 1 endCode ++ groups ++ acts)

/-- A member's finished cycle: its digest and its FAULT bit (R197, R198). -/
def ownCycle (c : Core) (n endCode : Nat) : WCycle :=
  let t := c.dev.task n
  { task := n, relBeat := t.relBeat, digest := c.cycleDigest n t.relBeat endCode,
    fault := decide (t.faultBase < c.dev.checkN), endCode := endCode }

/-- An item written into the member's own state (R196). -/
def applyItem (c : Core) : WItem → Core
  | .grp 0 g x => if c.copyFree g then c else c.put (32 * g) (leBytes 32 x.toNat)
  | .grp 1 g x => c.onDev fun d => { d with
      slots := alSet ({} : Slot) (2 * g + 1) (grpSlot x 1) (alSet ({} : Slot) (2 * g) (grpSlot x 0) d.slots) }
  | .grp 5 _ _ => c
  | .grp 2 g x => c.onDev fun d => (List.range 8).foldl (fun d i => d.rset (loopGrpAddr g + 4 * i) (grpWord x i)) d
  | .grp _ g x => c.onDev fun d => (List.range 8).foldl (fun d i => d.rset (canGrpAddr g + 4 * i) (grpWord x i)) d
  | .record key ver seq payload =>
    let x := c.takePage
    let c := x.1.writePage x.2.1 key ver seq payload
    c.modKeep fun k => { k with idx := (k.idx.filter fun y => y.key ≠ key) ++ [⟨key, x.2.1, seq, ver, payload.length⟩] }
  | .recHead s => c.onDev fun d => d.rset A.WLT_PEER_REC s
  | .anchor sec tb dst => c.onDev fun d =>
      let a : Anchor := ⟨sec, tb, dst⟩
      { d with gt := { d.gt with holderAnchor := some a, ackAnchor := if d.takesCopies then some a else d.gt.ackAnchor } }
  | .mailbox e ctrl data => c.onDev fun d =>
      let was := d.fget (F.LAC_MBX_CTRL_STATE e)
      let d := d.rset (A.LAC_MBX_CTRL e) ctrl
      let d := (List.range 64).foldl (fun d k => d.rset (A.LAC_MBX_DATA e k) (data.getD k 0)) d
      if d.fget (F.LAC_MBX_CTRL_STATE e) = 3 && was ≠ 3 then
        let d := { d with lac := { d.lac with mbx := d.lac.mbx.filter fun (w : MbxWait) => w.entry ≠ e } }
        ((d.rset A.LAC_MBX_DONE (d.rget A.LAC_MBX_DONE ||| (1#32 <<< e))).raise F.LAC_EVT_MBX_DONE).alert 25
      else d
  | .leases rows => c.onDev fun d => { d with lac := { d.lac with pairs := rows } }

/-- A copy written into the standby's state. -/
def applyCopy (c : Core) (xs : List WItem) : Core := xs.foldl applyItem c

/-- The holder captures a finished cycle and sends its copy (R194). -/
def sendCopy (c : Core) (n endCode : Nat) : Core :=
  let x := c.ownCycle n endCode
  let items := c.copyItems n
  let groups := (items.map WItem.entries).sum
  let c := c.copySnap
  c.onDev fun d =>
    let d := (packItems items []).foldl (fun d b => d.wsend (.copy b)) d.nextFree
    let d := d.wsend (.copyEnd n x.relBeat groups x.digest x.fault endCode)
    let d := (d.fset F.WLT_COPY_LAST (min 65535 groups)).fmaxTo F.WLT_COPY_MAX groups
    let d := d.tally 0x400 groups
    let d := match d.gt.nextAnchor with
      | some a => { d with gt := { d.gt with sentAnchor := some (n, x.relBeat, a), nextAnchor := none } }
      | none => d
    -- a cycle released before the join beat is copied and not awaited (R209)
    let wait := match d.wlt.joinBeat with | some b => decide (b ≤ x.relBeat) | none => true
    let d := if wait then d.modWlt fun w => { w with own := w.own ++ [x] } else d
    -- only over a SYNC standby does the release wait (R44, R195)
    if wait && d.synced then d.modTask n fun t => { t with waitAck := true } else d

/-- The tasks of the image. -/
def imageTasks (c : Core) : List Nat := (List.range 16).filter fun n => c.dev.fbit (F.ESC_TCFG_EN n)

/-- Whether the values of R186 but the device state, which a joining member takes from the holder (R210), equal those of
the holder's STATUS. -/
def sameAsHolder (c : Core) (s : WStatus) : Bool :=
  let d := c.dev
  decide ((match d.esc.image with | some im => im.hash | none => []) = s.hash) && d.mov.bank.tableId = s.tableId
    && d.esc.period = s.period && 10 * d.fget F.LAC_TB_TB = s.tb && d.fget F.LAC_CFG_RMUL_M1 + 1 = s.rmul
    && d.fget F.LAC_LAYOUT_LAYOUT_ID = s.layoutId

/-- Whether a joining member may become SYNC: every task of its image has completed a cycle with equal digests, and the
values of R186 still equal the holder's (R125, R209). -/
def mayJoin (c : Core) : Bool :=
  c.imageTasks.all c.dev.wlt.matched.contains
    && match c.dev.wlt.peer with | some s => c.sameAsHolder s | none => false

/-- The standby's verdict on a cycle that both it and the holder have finished: ACK leaves, the copy is written where
the holder stands, and then the cycle ends here too (R195, R196, R199, R209). -/
def judge (c : Core) (n : Nat) : Core :=
  match c.dev.wlt.own.find? fun x => x.task = n with
  | none => c
  | some o =>
    match c.dev.wlt.held.find? fun x => x.task = n && x.relBeat = o.relBeat with
    | none => c
    | some h =>
      let joining := c.dev.wltState = 1
      let c := c.onDev fun d => (d.wsend (.ack n o.relBeat o.digest o.fault ((h.items.map WItem.entries).sum))).modWlt
        fun w => { w with
          own := w.own.filter fun x => x.task ≠ n, held := w.held.filter fun x => x ≠ h }
      let v := verdict (o.digest = h.digest) h.fault o.fault
      let c := if v = .matched then c else c.onDev fun d => d.noteMismatch n o.relBeat h.fault o.fault
      if joining then
        if v = .matched then
          let c := ((c.applyCopy h.items).finishCycle n h.endCode).onDev fun d => d.modWlt fun w => { w with
            matched := if w.matched.contains n then w.matched else w.matched ++ [n] }
          if c.mayJoin then c.onDev Dev.becomeSync else c
        else c.onDev fun d => (d.unfollow.stopTasks)
      else
        match v with
        | .matched => (c.applyCopy h.items).finishCycle n h.endCode
        | .standbyYields => c.onDev fun d => d.becomeUnsync 3
        | .holderYields => (c.onDev fun d => (d.becomeSolo).wltFlt 7).settleCycles
        | .noCulprit =>
          let c := ((c.applyCopy h.items).finishCycle n h.endCode).onDev fun d => d.finc F.WLT_CNT0_CULPRITLESS
          if c.dev.fget F.WLT_CNT0_CULPRITLESS = 2 then c.onDev fun d => d.becomeUnsync 4 else c

/-- A task cycle ends on a pair member: at its top-level return, or by a trap (R194, R197, R200). -/
def cycleEnds (c : Core) (n endCode : Nat) : Core :=
  if c.dev.copies then c.sendCopy n endCode
  else if c.dev.follows then
    let x := c.ownCycle n endCode
    (c.onDev fun d => d.nextFree.modWlt fun w => { w with own := w.own ++ [x], loads := w.loads.filter fun y => y.1 ≠ n }).judge n
  else c

/-- A task's cycle has ended and waits for WELT's verdict: on a following member every end does, on the holder that by a
trap (R196, R200). -/
def cycleAwaits (c : Core) (n endCode : Nat) (pc : Word) : Core :=
  ((c.onDev fun d => d.escMark.modTask n fun t => { t with active := false, ended := some (endCode, pc) }).cycleEnds n
    endCode).settleCycles

/-- ACK arrives at the holder (R195, R199). -/
def takeAck (c : Core) (n relBeat : Nat) (digest : BitVec 64) (fault : Bool) : Core :=
  match c.dev.wlt.own.find? fun x => x.task = n && x.relBeat = relBeat with
  | none => c
  | some o =>
    let safe := o.endCode ≠ 0 && c.dev.fbit (F.ESC_TCFG_FAULT_POL n)
    let c := c.onDev fun d =>
      let d := d.modWlt fun w => { w with own := w.own.filter fun x => x ≠ o }
      let d := d.modTask n fun t => { t with waitAck := false }
      let d := match d.gt.sentAnchor with
        | some (m, b, a) =>
          if m = n && b = relBeat then { d with gt := { d.gt with ackAnchor := some a, sentAnchor := none } } else d
        | none => d
      let v := verdict (o.digest = digest) o.fault fault
      let joining := d.fget F.WLT_STAT_PEER = 1
      let d := if v = .matched then d else d.noteMismatch n relBeat o.fault fault
      if joining then (if v = .matched then d else d.unfollow)
      else
        match v with
        | .matched => if safe then d.modWlt fun w => { w with bothTrap := true } else d
        | .standbyYields => d.partnerUnsync 3
        | .holderYields => d.yieldCrown 7 false
        | .noCulprit =>
          let d := d.finc F.WLT_CNT0_CULPRITLESS
          if d.fget F.WLT_CNT0_CULPRITLESS = 2 then d.partnerUnsync 4 else d
    c.settleCycles

/-- How many strand instances of a task a following member may commit, as the holder has told it; `none` is no limit
(R192). -/
def toldLimit (d : Dev) (n : Nat) : Option Nat :=
  if !d.follows then none
  else
    match d.wlt.displaced.find? fun x => x.1 = n with
    | some x => some x.2
    | none => if d.wlt.ended.contains n then none
      else some (match d.wlt.limits.find? fun x => x.1 = n with | some x => x.2 | none => 0)

/-- The limit in force: from its own beat until SCHED has come, a task in progress goes no further than the strand
boundary it had reached (R192). -/
def commitLimit (d : Dev) (n : Nat) : Option Nat :=
  if d.follows && d.wlt.await then
    let b := alGet n 0 d.wlt.boundary
    some (match toldLimit d n with | some k => min k b | none => b)
  else toldLimit d n

/-- Whether it is a MARK that a commit of a task waits for (R192, R214). -/
def marksWait (d : Dev) (n : Nat) : Bool :=
  !(d.follows && d.wlt.await) && !(d.wlt.displaced.any fun x => x.1 = n)

/-- A strand commit counted in its cycle; the holder reports every 32nd (R192). -/
def countCommit (c : Core) (n : Nat) : Core :=
  c.onDev fun d =>
    let d := d.modTask n fun t => { t with commits := t.commits + 1 }
    let k := (d.task n).commits
    if d.followed && k % 32 = 0 then d.wsend (.mark n k) else d

end Core

end Sys2Proof.Machine
end

