-- ==== Sys2Proof/Machine/Train.lean ====
section
/-! DEFINITION. The trains (R52 to R70): where a program access goes, let-down, touch conflicts, the end of an
instance, traps and the task fault policy, and how one instruction executes on a train. -/

namespace Sys2Proof.Machine

/-- Trap codes (Table 4.9). -/
def tILLEGAL_OP : Nat := 1
def tILLEGAL_ENC : Nat := 2
def tACCESS : Nat := 3
def tALIGN : Nat := 4
def tBUS : Nat := 5
def tPOISON : Nat := 6
def tRS_OVERFLOW : Nat := 7
def tTIMER_SLOT : Nat := 8

/-- Where a program access goes (Table 1.6): work memory byte by byte after view redirection, the code store, the
records window, the recorder window, a register page, bytes of more than one range that are all open to it, or
nowhere. -/
inductive Place where
  | mem (bytes : List Nat)
  | code (a : Nat)
  | keepWin (a : Nat)
  | recWin (a : Nat)
  | page (a : Nat)
  | straddle
  | none
  deriving DecidableEq, Repr

/-- What one instruction does: it retires, it waits, it traps, or an automatic split comes before it. -/
inductive IRes where
  | next (c : Core) (r : Run)
  | wait (w : Wait)
  | trap (code : Nat) (index : Option Nat)
  | trapAt (c : Core) (code : Nat) (index : Option Nat)  -- a trap after reads that have already acted on the core
  | poison (c : Core) (index : Option Nat)     -- the trap POISON, with what the failed read did
  | split

namespace Core

/-! ### Access rules (R17, R18, R33, R34) -/

/-- The I/O map of the active image. -/
def iomap (c : Core) : List IoRec :=
  match c.dev.esc.image with
  | some im => im.io
  | none => []

/-- Whether a record covers an address. -/
def ioHas (r : IoRec) (a : Nat) : Bool := decide (r.start ≤ a) && decide (a < r.start + r.len)

/-- The view address of an input byte that the I/O map lists for a task (R34, R416). -/
def viewByte (c : Core) (task a : Nat) : Option Nat :=
  let base := c.dev.rnat (A.ESC_TVIEW task)
  let step (acc : Nat × Option Nat) (r : IoRec) : Nat × Option Nat :=
    if r.typ = 1 && r.owner = task then
      (acc.1 + (r.len + 31) / 32 * 32,
       if acc.2.isNone && ioHas r a then some (base + acc.1 + (a - r.start)) else acc.2)
    else acc
  (c.iomap.foldl step (0, none)).2

/-- Whether a task owns a byte of a kind of range: 2 output, 3 retentive (R33). -/
def ownsByte (c : Core) (typ task a : Nat) : Bool :=
  c.iomap.any fun r => r.typ = typ && r.owner = task && ioHas r a

/-- Where an access of `n` bytes by a task goes within one range. -/
def placeIn (c : Core) (task : Nat) (store : Bool) (a n : Nat) : Place :=
  let bytes := (List.range n).map (a + ·)
  if a + n ≤ 0x8000 then
    if store then .none
    else
      let v := bytes.filterMap (c.viewByte task)
      if v.length = n then .mem v else .none
  else if 0x8000 ≤ a && a + n ≤ 0x10000 then
    if bytes.all (c.ownsByte 2 task) then .mem bytes else .none
  else if 0x10000 ≤ a && a + n ≤ 0x30000 then
    if store && !(bytes.all (c.ownsByte 3 task)) then .none else .mem bytes
  else if 0x30000 ≤ a && a + n ≤ 0x1E0000 then .mem bytes
  else if 0x10000000 ≤ a && a + n ≤ 0x10400000 then (if store then .none else .code a)
  else if 0x20000000 ≤ a && a + n ≤ 0x20040000 then (if store then .none else .keepWin a)
  else if 0x20040000 ≤ a && a + n ≤ 0x20090000 then (if store then .none else .recWin a)
  else if 0x40000000 ≤ a && a + n ≤ 0x40100000 then .page a
  else .none

/-- Where an access of `n` bytes by a task goes. One that crosses from a range into the next, each byte open to the
task, breaks no access rule: it is misaligned, and that is its trap (R18, R96). -/
def place (c : Core) (task : Nat) (store : Bool) (a n : Nat) : Place :=
  match c.placeIn task store a n with
  | .none =>
    if (List.range n).all fun i => decide (c.placeIn task store (a + i) 1 ≠ .none) then .straddle else .none
  | p => p

/-- The trap of an access, lowest code first: access, alignment, bus error (R96, Table 4.9). -/
def accessTrap (p : Place) (a n : Nat) : Option Nat :=
  if p = .none then some tACCESS
  else if a % n ≠ 0 then some tALIGN
  else
    match p with
    | .page _ => if n ≠ 4 then some tBUS else none
    | _ => none

/-! ### Instances on trains -/

/-- Whether a train holds the head. -/
def isHead (c : Core) (t : Nat) : Bool := c.dev.headTrain = some t

/-- An instance as it stands after a let-down: taken again from its STRAND instruction or from the start of the
continuation (R66); page accesses already performed are not performed again (DEDUCED, log entry 20). -/
def restart (r : Run) : Run :=
  { task := r.task, sid := r.sid, cont := r.cont, opened := r.cont, sealed := r.cont && r.sealed, start := r.start,
    pc := r.start, age := r.age, delay := r.delay0, delay0 := r.delay0, pageLog := r.pageLog,
    base := r.base, prevSealed := r.prevSealed, letDown := true, timedOut := r.timedOut, skips := r.skips }

/-- The instances of age `age` and younger are let down and taken again (R63, R66). -/
def letDownFrom (c : Core) (age : Nat) : Core :=
  c.dev.flight.foldl (fun c x =>
    if age ≤ x.2.age then (c.setRun x.1 (some (restart x.2))).onDev fun d => d.tally 0x002 else c) c

/-- An instance leaves its train before it has completed; a retry it still owes is its next execution's (R67). -/
def vacate (c : Core) (t : Nat) (r : Run) : Core :=
  (c.setRun t none).onDev fun d =>
    if r.timedOut then { d with mov := { d.mov with retries := (r.task, r.start) :: d.mov.retries } } else d

/-- The instances younger than `age` are let down and leave their trains (R39, R66). -/
def dropYounger (c : Core) (age : Nat) : Core :=
  c.dev.flight.foldl (fun c x =>
    if age < x.2.age then (c.vacate x.1 x.2).onDev fun d => d.tally 0x002 else c) c

/-- A store of an instance to a group meets younger readers: the oldest of them and all younger are let down (R63).
Timer slot `n` counts as group 65,536 + n. -/
def touch (c : Core) (age g : Nat) : Core :=
  match (c.dev.flight.map (·.2)).find? fun r => age < r.age && r.reads.contains g with
  | some y => (c.onDev fun d => d.tally 0x003).letDownFrom y.age
  | none => c

/-- The let-down buffer entries an instance holds: one per group and one per timer slot (R62, R63). -/
def bufGroups (r : Run) : List Nat :=
  (r.buf.foldl (fun gs x => if gs.contains (x.1 / 32) then gs else (x.1 / 32) :: gs) ([] : List Nat))
    ++ r.slots.map fun s => 65536 + s.1

/-- Whether writing groups needs a 65th entry (R55). -/
def needsSplit (r : Run) (gs : List Nat) : Bool :=
  decide (64 < (gs.foldl (fun l g => if l.contains g then l else g :: l) (bufGroups r)).length)

/-- A byte of work memory as an instance reads it: its own buffer, the buffers of older instances youngest first, then
WORKMEM (R62). -/
def readByte (c : Core) (r : Run) (a : Nat) : Byte :=
  match (r :: c.dev.olderRuns r.age).find? fun x => x.buf.any fun b => b.1 = a with
  | some x => match x.buf.find? fun b => b.1 = a with
    | some b => b.2
    | none => c.mem.cells.read a
  | none => c.mem.cells.read a

/-- Whether a byte comes from some buffer rather than WORKMEM. -/
def forwarded (c : Core) (r : Run) (a : Nat) : Bool := (c.dev.olderRuns r.age).any fun x => x.buf.any fun b => b.1 = a

/-- Groups joined to the read list of a speculative instance (R62). -/
def addReads (r : Run) (gs : List Nat) : Run :=
  { r with reads := gs.foldl (fun l g => if l.contains g then l else l ++ [g]) r.reads }

/-- Whether a timer slot, work-memory group or access falls outside the declared ranges of the strand's entry (R58). -/
def outside (c : Core) (r : Run) (write : Bool) (names : List Nat) : Bool :=
  match c.fpEntry r.sid with
  | none => false
  | some a => c.fpDeclared a
    && !((names.map (· / 32)).all (inRanges (if write then c.fpWrites a else c.fpReads a)))

/-- An instance marked undeclared, once, with its event (R58). -/
def markUndeclared (c : Core) (r : Run) (bad : Bool) : Core × Run :=
  if bad && !r.undeclared then (c.onDev fun d => d.raise F.MOV_EVT_FOOTPRINT, { r with undeclared := true }) else (c, r)

/-- The outcome of reading work-memory bytes: they may be used, or the instance waits or traps. -/
inductive MemRead where
  | ok (c : Core) (r : Run) (bytes : List Byte)
  | wait (w : Wait)
  | poison (c : Core)

/-- Bytes of work memory read by an instance on a train (R62, R63, R247). `names` are the addresses as the program
issues them. -/
def readMem (c : Core) (t : Nat) (r : Run) (as names : List Nat) : MemRead :=
  let head := c.isHead t
  let ext := as.filter fun a => !(r.buf.any fun b => b.1 = a)
  let gs := ext.map (· / 32)
  let r' := if head then r else addReads r gs
  if 128 < r'.reads.length then .wait .readList
  else
    let fromMem := ext.filter fun a => !(c.forwarded r a)
    let acc := (fromMem.map (· / 32)).foldl (fun (s : Core × Bool) g =>
      let x := s.1.readGroup g
      (x.1, s.2 && x.2)) (c, true)
    let okPoison := fromMem.all fun a => acc.1.mem.usable a 1
    if acc.2 && okPoison then
      let c := acc.1
      let c := if fromMem.length < ext.length then c.onDev fun d => d.tally 0x00E else c
      let m := c.markUndeclared r' (c.outside r' false names)
      .ok m.1 m.2 (as.map (c.readByte r))
    else if head then .poison acc.1
    else .wait .head

/-- Bytes of work memory stored by an instance: they enter its let-down buffer, and younger readers are let down
(R62, R63). -/
def storeMem (c : Core) (r : Run) (ws : List (Nat × Byte)) (names : List Nat) : Core × Run :=
  let r' := { r with buf := ws.foldl (fun b x => alPut x.1 x.2 b) r.buf }
  let gs := ws.foldl (fun gs x => if gs.contains (x.1 / 32) then gs else gs ++ [x.1 / 32]) ([] : List Nat)
  let c := gs.foldl (fun c g => c.touch r.age g) c
  c.markUndeclared r' (c.outside r' true names)

/-! ### The end of an instance (R55, R59, R66) -/

/-- The entry of the exit predictor for an exiting instruction: 1,024 entries (DESIGN CHOICE, log entry 21). -/
def predIndex (a : Word) : Nat := a.toNat / 4 % 1024

/-- An instance reaches its exit. The predictor learns the exits of control transfers; a younger instance that is not
the true successor is let down with all younger ones, and its train is free. -/
def endRun (c : Core) (t : Nat) (r : Run) (e : Exit) : Core :=
  let c := c.setRun t (some { r with exit := some e, wait := none })
  let c :=
    match e.via with
    | some a => c.onDev fun d => { d with mov := { d.mov with
        predictor := alPut (predIndex a) e.next d.mov.predictor } }
    | none => c
  match (c.dev.flight.map (·.2)).find? fun x => r.age < x.age with
  | none => c
  | some y =>
    if !e.top && y.start = e.next && y.cont = e.cont then
      -- a continuation taken with another load delay than the one it begins with is taken again (R69, R97)
      if y.cont && y.delay0 ≠ e.delay then
        match c.dev.flight.find? fun x => x.2.age = y.age with
        | some x => (c.setRun x.1 (some { y with delay0 := e.delay })).letDownFrom y.age
        | none => c
      else c
    else (c.onDev fun d => d.tally 0x004).dropYounger r.age

/-- An automatic split: the continuation begins at `pc` with the load delay in force (R55, R97). -/
def splitRun (c : Core) (t : Nat) (r : Run) (delay : List (Nat × Bool × Word)) : Core :=
  ((c.onDev fun d => (d.raise F.MOV_EVT_AUTOSPLIT).tally 0x00A).endRun t r
    { next := r.pc, cont := true, delay := delay })

/-! ### Traps (R70) -/

/-- The side effects of an instance take place in program order when it commits (R64, R109, R342). -/
def applyEffect (n : Nat) (d : Dev) (e : Effect) : Dev :=
  let d :=
    match e with
    | .alert k => d.modTask n fun x => { x with acts := x.acts ++ [(0, k)] }
    | .chkin => d.modTask n fun x => { x with acts := x.acts ++ [(1, 0)] }
    | .recev code _ => d.modTask n fun x => { x with acts := x.acts ++ [(2, code)] }
    | .service _ => d
  match e with
  | .alert k => d.alert k
  | .chkin => d.wdgCheckIn n
  | .recev code snap => d.occurPair 24 code snap
  | .service v => d.wdgService v

/-- The accesses of a committed instance that found their bank busy: how many did is a matter of time, and a free value
(R71, R77, DESIGN CHOICE, log entry 63). An instance of its STRAND instruction alone makes none. -/
def bankWaits (d : Dev) (r : Run) : Dev :=
  if r.retired ≤ 1 then d else (d.tally 0x007 (Config.bankWaits d.free)).nextFree

/-- The memory, timer slots, registers and effects of an instance become the task's (R68). -/
def commitState (c : Core) (t : Nat) (r : Run) : Core :=
  let gs := (r.buf.foldl (fun gs x => if gs.contains (x.1 / 32) then gs else gs ++ [x.1 / 32]) ([] : List Nat))
  let c := gs.foldl (fun c g =>
    c.putGroup g ((r.buf.filter fun x => x.1 / 32 = g).map fun x => (x.1 % 32, x.2)) (some (r.task, r.sid))) c
  c.onDev fun d =>
    let d := { d with slots := r.slots.foldl (fun (l : List (Nat × Slot)) (s : Nat × Slot) =>
      let old := alGet s.1 ({} : Slot) l
      alSet {} s.1 { s.2 with poison := old.poison, assigned := old.assigned, owner := old.owner } l) d.slots }
    let addSlot (l : List Nat) (s : Nat × Slot) : List Nat := if l.contains s.1 then l else l ++ [s.1]
    let d := d.modTask r.task fun x => { x with slotsDirty := r.slots.foldl addSlot x.slotsDirty }
    let d := d.tally 0x200 r.slots.length
    let full := d.seen { r with owned := r.owned, delay := [] }
    let d := d.modTask r.task fun x => { x with
      regs := full, pc := r.pc, prevSealed := r.sealed, lastPc := some (r.lastPc.getD r.start) }
    let d := r.effects.foldl (applyEffect r.task) d
    let d := { d with primes := d.primes.filter fun n => !r.primes.contains n }
    let d := (d.tally 0x000 r.retired).sampleCommit t r
    let d := bankWaits d r
    let d := d.modTask r.task fun x => { x with dormN := x.dormN + r.skips.length }
    d.tally 0x00B r.skips.length

/-- A trap of the head (R70): the older instructions of the head commit, the younger instances are let down, the trap
registers are written and the task fault policy applies: on a synchronised pair once the verdict is known, so that both
members apply it at the same point (R200). -/
def takeTrap (c : Core) (t : Nat) (r : Run) (code : Nat) (index : Option Nat) : Core :=
  let c := c.dropYounger r.age
  let c := c.commitState t r
  let c := c.setRun t none
  let c := c.onDev fun d =>
    let d := (d.rset A.MOV_TRAP_PC r.pc)
    let d := ((d.fset F.MOV_TRAP_INFO_SID r.sid).fset F.MOV_TRAP_INFO_TASK r.task).fset F.MOV_TRAP_INFO_CODE code
    let d := (d.fput F.MOV_CPX_TRAP_IN_CPX index.isSome).fset F.MOV_CPX_TRAP_INDEX (index.getD 0)
    let d := if d.fget F.MOV_FLT_CAUSE = 0 then
        ((d.fset F.MOV_FLT_CAUSE 2).fset F.MOV_FLT_SID r.sid).fset F.MOV_FLT_TASK r.task else d
    d.raise F.MOV_EVT_TRAP
  if c.dev.synced || c.dev.follows then c.cycleAwaits r.task code r.pc
  else (c.cycleEnds r.task code).taskFault r.task 4 r.pc

/-! ### One instruction -/

/-- Whether an instruction address lies in the active code half (R98). -/
def inHalf (c : Core) (a : Word) : Bool :=
  match c.dev.esc.image with
  | some im => decide (0x10000000 + 0x200000 * im.half ≤ a.toNat) && decide (a.toNat < 0x10200000 + 0x200000 * im.half)
  | none => false

/-- An instruction has retired on a train: it counts, its load delay is over unless it is itself a load, and the 512th
ends the instance (R55). -/
def retire (c : Core) (t : Nat) (r : Run) (pc : Word) : Core :=
  let r := { r with retired := r.retired + 1, lastPc := some pc, wait := none, issued := r.issued ++ [(pc, c.dev.tb)] }
  match r.exit with
  | some e => c.endRun t r e
  | none => if r.retired = 512 then c.splitRun t r (c.dev.delayNow r) else c.setRun t (some r)

/-- An instance begins to wait; the wait counts once (R61, R64). -/
def waitFor (c : Core) (t : Nat) (r : Run) (w : Wait) : Core :=
  if r.wait = some w then c
  else
    let c := c.setRun t (some { r with wait := some w })
    match w with
    | .register => c.onDev fun d => d.tally 0x008
    | .head => c.onDev fun d => d.tally 0x00C
    | .log => c.onDev fun d => d.tally 0x404
    | .mark => c.onDev fun d => d.tally 0x405
    | _ => c

/-- A trap cause met by an instance: taken at the head, awaited elsewhere (R64, R70). -/
def trapOrWait (c : Core) (t : Nat) (r : Run) (code : Nat) (index : Option Nat) : Core :=
  if c.isHead t then c.takeTrap t r code index else c.waitFor t r .head

/-- An automatic split before an instruction; a load delay still unknown is awaited first (R55, R97). -/
def splitBefore (c : Core) (t : Nat) (r : Run) : Core :=
  if c.dev.olderEnded r.age || r.delay.all fun x => x.2.1 then c.splitRun t r (c.dev.delayNow r)
  else c.waitFor t r .register

/-- One instruction of an opened instance on train `t`: the encoding check of R82, the registers it reads (R61), then
its effect. A train without an opened instance executes nothing (DESIGN CHOICE, log entry 22). -/
def instr (c : Core) (t : Nat) (legal : Bool) (srcs : Srcs) (f : Core → Run → Regs → IRes) : Core :=
  match c.dev.run t with
  | none => c
  | some r =>
    if !r.opened || r.exit.isSome then c
    else if !legal then c.trapOrWait t r tILLEGAL_ENC none
    else if !c.dev.ready r srcs then c.waitFor t r .register
    else
      match f c { r with delay := [], via := none } (c.dev.seen r) with
      | .next c' r' =>
        -- a fetch past the end of the half, or outside it, traps at the instruction before it
        if r'.exit.isSome || c.inHalf r'.pc then c'.retire t r' r.pc else c.trapOrWait t r tACCESS none
      | .wait w => c.waitFor t r w
      | .trap code index => c.trapOrWait t r code index
      | .trapAt c' code index => if c.isHead t then c'.trapOrWait t r code index else c.waitFor t r .head
      | .poison c' index => c'.trapOrWait t r tPOISON index
      | .split => c.splitBefore t r

/-- An instruction that only writes registers. -/
def regInstr (c : Core) (t : Nat) (legal : Bool) (srcs : Srcs) (f : Regs → Run → Run) : Core :=
  c.instr t legal srcs fun c r v => .next c (f v r).advance

end Core

end Sys2Proof.Machine
end

