-- ==== Sys2Proof/Machine/BitInstr.lean ====
section
/-! DEFINITION. The bit and accumulator instructions 0x10 to 0x27 (Table 4.4, R83, R85 to R87, R19). -/

namespace Sys2Proof.Machine

/-- The byte and bit that a bit address selects (R19). -/
def bitByte (n : Nat) : Nat := n / 8
def bitPos (n : Nat) : Nat := n % 8

/-- A bit read: `m` for a bit instruction that loads (R62, R34). -/
def bitLoad (c : Core) (t : Nat) (r : Run) (n : Nat) (k : Core → Run → Bool → IRes) : IRes :=
  match c.place r.task false (bitByte n) 1 with
  | .mem as =>
    match c.readMem t r as [bitByte n] with
    | .ok c r bs => k c r ((bs.getD 0 0).getLsbD (bitPos n))
    | .wait w => .wait w
    | .poison c => .poison c none
  | _ => .trap tACCESS none

/-- A bit written: a read-modify-write of its group, subject to the access rules of a store (R85). -/
def bitStore (c : Core) (t : Nat) (r : Run) (n : Nat) (v : Bool) : IRes :=
  match c.place r.task true (bitByte n) 1 with
  | .mem as =>
    if Core.needsSplit r (as.map (· / 32)) then .split
    else
      match c.readMem t r as [bitByte n] with
      | .ok c r bs =>
        let old := (bs.getD 0 0).toNat
        let b := setBits old (bitPos n) (bitPos n) (b2n v)
        let x := c.storeMem r [(as.getD 0 0, BitVec.ofNat 8 b)] [bitByte n]
        .next x.1 x.2.advance
      | .wait w => .wait w
      | .poison c => .poison c none
  | _ => .trap tACCESS none
where
  b2n (b : Bool) : Nat := if b then 1 else 0

/-- The shape of LD to XORN: Ln becomes a function of Ln and m. -/
def bitLogic (c : Core) (t : Nat) (b : Body) (reads : Bool) (f : Bool → Bool → Bool) : Core :=
  c.instr t true { l := if reads then [fL b] else [] } fun c r v =>
    bitLoad c t r (fBit b) fun c r m => .next c (r.putL (fL b) (f (v.getL (fL b)) m)).advance

/-- LD: Ln = m. -/
def ldBit (c : Core) (t : Nat) (b : Body) : Core := bitLogic c t b false fun _ m => m
/-- LDN: Ln = NOT m. -/
def ldnBit (c : Core) (t : Nat) (b : Body) : Core := bitLogic c t b false fun _ m => !m
/-- AND: Ln = Ln AND m. -/
def andBit (c : Core) (t : Nat) (b : Body) : Core := bitLogic c t b true fun x m => x && m
/-- ANDN: Ln = Ln AND NOT m. -/
def andnBit (c : Core) (t : Nat) (b : Body) : Core := bitLogic c t b true fun x m => x && !m
/-- OR: Ln = Ln OR m. -/
def orBit (c : Core) (t : Nat) (b : Body) : Core := bitLogic c t b true fun x m => x || m
/-- ORN: Ln = Ln OR NOT m. -/
def ornBit (c : Core) (t : Nat) (b : Body) : Core := bitLogic c t b true fun x m => x || !m
/-- XOR: Ln = Ln XOR m. -/
def xorBit (c : Core) (t : Nat) (b : Body) : Core := bitLogic c t b true fun x m => x != m
/-- XORN: Ln = Ln XOR NOT m. -/
def xornBit (c : Core) (t : Nat) (b : Body) : Core := bitLogic c t b true fun x m => x != !m

/-- ST: m = Ln. -/
def stBit (c : Core) (t : Nat) (b : Body) : Core :=
  c.instr t true { l := [fL b] } fun c r v => bitStore c t r (fBit b) (v.getL (fL b))
/-- STN: m = NOT Ln. -/
def stnBit (c : Core) (t : Nat) (b : Body) : Core :=
  c.instr t true { l := [fL b] } fun c r v => bitStore c t r (fBit b) (!v.getL (fL b))
/-- SET: m = 1 when Ln = 1; otherwise it reads and writes nothing, but the access rules hold (R85). -/
def setBitI (c : Core) (t : Nat) (b : Body) : Core :=
  c.instr t true { l := [fL b] } fun c r v =>
    if v.getL (fL b) then bitStore c t r (fBit b) true
    else if c.place r.task true (bitByte (fBit b)) 1 = .none then .trap tACCESS none
    else .next c r.advance
/-- RST: m = 0 when Ln = 1. -/
def rstBit (c : Core) (t : Nat) (b : Body) : Core :=
  c.instr t true { l := [fL b] } fun c r v =>
    if v.getL (fL b) then bitStore c t r (fBit b) false
    else if c.place r.task true (bitByte (fBit b)) 1 = .none then .trap tACCESS none
    else .next c r.advance

/-- Whether a bit is primed and this evaluation is the first to meet it (R234). -/
def isPrimed (c : Core) (r : Run) (n : Nat) : Bool :=
  c.dev.primes.contains n && !((r :: c.dev.olderRuns r.age).any fun x => x.primes.contains n)

/-- The shape of EDGP and EDGN (R86); a primed bit counts as equal to the present Ln (R234). -/
def edge (c : Core) (t : Nat) (b : Body) (f : Bool → Bool → Bool) : Core :=
  c.instr t true { l := [fL b] } fun c r v =>
    let x := v.getL (fL b)
    let n := fBit b
    match c.place r.task true (bitByte n) 1 with
    | .mem as =>
      if Core.needsSplit r (as.map (· / 32)) then .split
      else
        match c.readMem t r as [bitByte n] with
        | .ok c r bs =>
          let primed := isPrimed c r n
          let m := if primed then x else (bs.getD 0 0).getLsbD (bitPos n)
          let byte := setBits (bs.getD 0 0).toNat (bitPos n) (bitPos n) (if x then 1 else 0)
          let r := if primed then { r with primes := r.primes ++ [n] } else r
          let s := c.storeMem (r.putL (fL b) (f x m)) [(as.getD 0 0, BitVec.ofNat 8 byte)] [bitByte n]
          .next s.1 s.2.advance
        | .wait w => .wait w
        | .poison c => .poison c none
    | _ => .trap tACCESS none

/-- EDGP: a rising edge of Ln against m. -/
def edgp (c : Core) (t : Nat) (b : Body) : Core := edge c t b fun x m => x && !m
/-- EDGN: a falling edge of Ln against m. -/
def edgn (c : Core) (t : Nat) (b : Body) : Core := edge c t b fun x m => m && !x

/-- Whether a format-L body is legal: bits [20:4] are 0 and X is at most `top` (R82). -/
def legalL (b : Body) (top : Nat) : Bool := fldB b 20 4 = 0 && decide (fX b ≤ top)

/-- The shape of LDL to NOTL. -/
def accLogic (c : Core) (t : Nat) (b : Body) (reads : List Nat) (f : Bool → Bool → Bool) : Core :=
  c.regInstr t (legalL b 7) { l := reads } fun v r => r.putL (fL b) (f (v.getL (fL b)) (v.getL (fX b)))

/-- LDL: Ln = Lx. -/
def ldl (c : Core) (t : Nat) (b : Body) : Core := accLogic c t b [fX b] fun _ x => x
/-- ANDL: Ln = Ln AND Lx. -/
def andl (c : Core) (t : Nat) (b : Body) : Core := accLogic c t b [fL b, fX b] fun a x => a && x
/-- ORL: Ln = Ln OR Lx. -/
def orl (c : Core) (t : Nat) (b : Body) : Core := accLogic c t b [fL b, fX b] fun a x => a || x
/-- XORL: Ln = Ln XOR Lx. -/
def xorl (c : Core) (t : Nat) (b : Body) : Core := accLogic c t b [fL b, fX b] fun a x => a != x
/-- NOTL: Ln = NOT Lx. -/
def notl (c : Core) (t : Nat) (b : Body) : Core := accLogic c t b [fX b] fun _ x => !x

/-- LCON: Ln = X[0]; X[3:1] must be 0. -/
def lcon (c : Core) (t : Nat) (b : Body) : Core :=
  c.regInstr t (legalL b 1) {} fun _ r => r.putL (fL b) (decide (fX b % 2 = 1))
/-- LCC: Ln = the truth of condition X (R87). -/
def lcc (c : Core) (t : Nat) (b : Body) : Core :=
  c.regInstr t (legalL b 0xA) { fl := condReads (fX b) } fun v r => r.putL (fL b) (condTrue (fX b) v.flags)
/-- WTOL: Ln = (Wx ≠ 0). -/
def wtol (c : Core) (t : Nat) (b : Body) : Core :=
  c.regInstr t (legalL b 15) { w := [fX b] } fun v r => r.putL (fL b) (decide (v.getW (fX b) ≠ 0))

end Sys2Proof.Machine
end

