-- ==== Sys2Proof/Machine/Lace.lean ====
section
/-! DEFINITION. LACE's frames (R153 to R178): their layout, what a station does to a passing frame, what the manager
sends and takes, retries, folds, and the freeze of slices and of the status range (R163, R170 to R172). -/

namespace Sys2Proof.Machine

/-! ### Frame layout (Tables 7.2 to 7.4) -/

/-- A frame header. -/
structure Hdr where
  typ : Nat
  flags : Nat
  seq : Nat
  epoch : Nat
  txTime : Nat
  corr : Nat
  src : Nat
  nseg : Nat
  hops : Nat
  layoutId : Nat
  deriving DecidableEq, Repr

/-- Bytes `i` to `i + n - 1` as a little-endian number. -/
def bytesLe (bs : List Byte) (i n : Nat) : Nat := leNat ((bs.drop i).take n)

/-- Bytes laid over others from an offset. -/
def setBytes (bs : List Byte) (off : Nat) (new : List Byte) : List Byte :=
  bs.take off ++ new ++ bs.drop (off + new.length)

/-- The header a frame's first bytes hold. -/
def parseHdr (bs : List Byte) : Hdr :=
  { typ := bytesLe bs 0 1, flags := bytesLe bs 1 1, seq := bytesLe bs 2 2, epoch := bytesLe bs 4 4,
    txTime := bytesLe bs 8 8, corr := bytesLe bs 16 4, src := bytesLe bs 20 2, nseg := bytesLe bs 22 1,
    hops := bytesLe bs 23 1, layoutId := bytesLe bs 24 2 }

/-- The first 28 bytes of a header. -/
def hdrBytes (h : Hdr) : List Byte :=
  leBytes 1 h.typ ++ leBytes 1 h.flags ++ leBytes 2 h.seq ++ leBytes 4 h.epoch ++ leBytes 8 h.txTime
    ++ leBytes 4 h.corr ++ leBytes 2 h.src ++ leBytes 1 h.nseg ++ leBytes 1 h.hops ++ leBytes 2 h.layoutId
    ++ leBytes 2 0

/-- SCRC (Table 7.3). -/
def scrc (bs : List Byte) : Nat := (crcMsb 0x1021#16 0xFFFF#16 bs).toNat

/-- One segment as the manager sends it. -/
def segBytes (pos : Nat) (out : List Byte) (inLen : Nat) : List Byte :=
  let body := leBytes 2 (pos * 256) ++ out ++ List.replicate inLen 0
  body ++ leBytes 2 (scrc body)

/-- A frame with its checks computed anew over the header, the segments and the trailer's first two bytes (R161). -/
def sealFrame (bs : List Byte) : List Byte :=
  let bs := setBytes bs 28 (leBytes 4 (crc32 (bs.take 28)).toNat)
  let n := bs.length - 4
  bs.take n ++ leBytes 4 (crc32 (bs.take n)).toNat

/-- A frame as its sender makes it. -/
def makeFrame (h : Hdr) (segs : List (List Byte)) : List Byte :=
  sealFrame (hdrBytes h ++ leBytes 4 0 ++ segs.flatten ++ [0xFF#8, 0xFF#8] ++ leBytes 4 0)

/-- HCRC holds. -/
def hcrcOk (bs : List Byte) : Bool := bytesLe bs 28 4 = (crc32 (bs.take 28)).toNat

/-- FCRC holds. -/
def fcrcOk (bs : List Byte) : Bool :=
  let n := bs.length - 4
  bytesLe bs n 4 = (crc32 (bs.take n)).toNat

/-- ERR_HOP and FOLD of the trailer. -/
def errHop (bs : List Byte) : Nat := bytesLe bs (bs.length - 6) 1
def foldOf (bs : List Byte) : Nat := bytesLe bs (bs.length - 5) 1

/-- A segment found in a frame. -/
structure SegAt where
  off : Nat
  pos : Nat
  mark : Nat
  out : List Byte
  inp : List Byte
  good : Bool
  deriving DecidableEq, Repr

/-- The segments of a frame, walked by POS with the slice lengths of a layout (R162). -/
def segsOf (lens : Nat → Option (Nat × Nat)) (bs : List Byte) : Nat → Nat → List SegAt
  | 0, _ => []
  | n + 1, off =>
    let mark := bytesLe bs off 2
    let pos := mark / 256 % 128
    match lens pos with
    | none => []
    | some (o, i) =>
      let body := (bs.drop off).take (2 + o + i)
      ⟨off, pos, mark, (body.drop 2).take o, body.drop (2 + o), bytesLe bs (off + 2 + o + i) 2 = scrc body⟩
        :: segsOf lens bs n (off + 4 + o + i)

/-- Whether `a` is newer than `b`, 16-bit serial numbers with a window of 32,768 (R163). -/
def newer16 (a b : Nat) : Bool :=
  let x := (a + 65536 - b) % 65536
  decide (x ≠ 0) && decide (x < 32768)

/-- Serial comparison of epochs, window 2^31 (R163). -/
def newerEpoch (a b : Nat) : Bool :=
  let x := (a + 2 ^ 32 - b) % 2 ^ 32
  decide (x ≠ 0) && decide (x < 2 ^ 31)

/-- The other port of a ring: A with B, C with D (R154). -/
def otherPort (p : Nat) : Nat := if p % 2 = 0 then p + 1 else p - 1

namespace Dev

/-! ### Configuration in force -/

/-- The branch cycle in ns; 0 with no ring configured. -/
def tbNs (d : Dev) : Nat := 10 * d.fget F.LAC_TB_TB

/-- RMUL. -/
def rmul (d : Dev) : Nat := d.fget F.LAC_CFG_RMUL_M1 + 1

/-- The cycle of a ring in ns (R158). -/
def ringNs (d : Dev) (level0 : Bool) : Nat := if level0 then d.rmul * d.tbNs else d.tbNs

/-- Whether this device manages a ring: a manager its branch ring, the root the level-0 ring too. -/
def manages (d : Dev) (level0 : Bool) : Bool := d.tbNs ≠ 0 && (if level0 then d.role = 2 else d.role ≠ 0)

/-- Whether this device is a member of a ring: a worker of its branch ring, a branch manager of the level-0 ring. -/
def isMember (d : Dev) : Bool := d.tbNs ≠ 0 && d.role ≠ 2

/-- The cycle of the ring it is a member of. -/
def memberNs (d : Dev) : Nat := d.ringNs (d.role = 1)

/-- The register of a position: LAC_POSn, or LAC_BRb at level 0. -/
def posReg (level0 : Bool) (n : Nat) : Nat := if level0 then A.LAC_BR n else A.LAC_POS n

/-- Configured positions of a managed ring, rising. -/
def positions (d : Dev) (level0 : Bool) : List Nat :=
  ((List.range 127).map (· + 1)).filter fun n => (d.rget (posReg level0 n)).getLsbD 31

/-- Configured positions in ring order, in which segments follow (R156). On a branch ring the positions themselves are
that order; on the level-0 ring ENUM gives it. -/
def ringOrder (d : Dev) (level0 : Bool) : List Nat :=
  let ps := d.positions level0
  if level0 then d.lac.level0.order.filter ps.contains ++ ps.filter (!d.lac.level0.order.contains ·) else ps

/-- The place of a position in ring order, from 1; on a branch ring the position itself. -/
def place (d : Dev) (level0 : Bool) (n : Nat) : Nat :=
  if level0 && n ≠ 0 then (d.ringOrder true).idxOf n + 1 else n

/-- The slice lengths of a position: out, in. -/
def sliceLens (d : Dev) (level0 : Bool) (n : Nat) : Option (Nat × Nat) :=
  let v := d.rnat (posReg level0 n)
  if 1 ≤ n && n ≤ 127 && v / 2 ^ 31 = 1 then some (bitsOf v 26 16, bitsOf v 10 0) else none

/-- A ring. -/
def ring (d : Dev) (level0 : Bool) : Ring := if level0 then d.lac.level0 else d.lac.branch

/-- A ring changed. -/
def modRing (d : Dev) (level0 : Bool) (f : Ring → Ring) : Dev :=
  { d with lac := if level0 then { d.lac with level0 := f d.lac.level0 } else { d.lac with branch := f d.lac.branch } }

/-- The member part changed. -/
def modMemb (d : Dev) (f : Member → Member) : Dev := { d with lac := { d.lac with memb := f d.lac.memb } }

/-- The I/O-map records of a type. -/
def ioRecs (d : Dev) (typ : Nat) : List IoRec :=
  match d.esc.image with
  | some im => im.io.filter fun r => r.typ = typ
  | none => []

/-- The order of the slices in the I/O map: the member's slice, then the positions of the branch ring, then at the root
the branches, numbered from 256 (DEDUCED, log entry 13). -/
def sliceKeys (d : Dev) : List Nat :=
  (if d.isMember then [0] else []) ++ (if d.manages false then d.positions false else [])
    ++ (if d.manages true then (d.positions true).map (256 + ·) else [])

/-- The record of a received slice: input records after the field and host ranges. -/
def inSlice (d : Dev) (key : Nat) : Option IoRec := ((d.ioRecs 1).drop 2)[d.sliceKeys.idxOf key]?

/-- The record of a sent slice: output records after the field range. -/
def outSlice (d : Dev) (key : Nat) : Option IoRec := ((d.ioRecs 2).drop 1)[d.sliceKeys.idxOf key]?

/-- The bytes of a sent slice as last published, at a length. -/
def sliceBytes (d : Dev) (key n : Nat) : List Byte :=
  match d.outSlice key with
  | some r => (List.range n).map fun i => if i < r.len then d.lac.out.read (r.start + i) else 0
  | none => List.replicate n 0

/-- Whether the publish of a slice's task at its release beat has not completed (R162). -/
def sliceLate (d : Dev) (key : Nat) : Bool :=
  match d.outSlice key with
  | some r => (d.task r.owner).stretched || (d.task r.owner).late || (d.task r.owner).waitAck
  | none => false

/-- Bytes sent from a port. -/
def sendPort (d : Dev) (p : Nat) (bs : List Byte) : Dev :=
  if d.transmits p then (d.emit (.lace p bs)).bytesOut p bs.length else d

/-- Whether this member of a pair is the first of its ring ports, P of R155: the one with PAIR_PREF = 1 (DEDUCED, log
entry 67). -/
def firstMember (d : Dev) : Bool := d.cfgBit 4 7

/-- Whether this member of a pair, or a lone device, runs LACE bring-up as manager (R206): in BOOT, the member with
PAIR_PREF = 1 or one whose partner is not there. -/
def bootsRing (d : Dev) : Bool := d.st = .boot && (d.firstMember || !d.fbit F.WLT_STAT_LINK_UP)

/-- Whether this device originates LACE frames (Table 8.1, R206). A member that has relinquished does not from its next
base beat on (R205). -/
def originates (d : Dev) : Bool := !d.paired || (2 ≤ d.wltState && !d.wlt.relinquished) || d.bootsRing

/-- Whether this device acts as the one manager of its rings where a pair answers once: to ENUM, LAYOUT and JOIN_REQ
(R155, R179, R206; DEDUCED, log entry 67). -/
def leads (d : Dev) : Bool := !d.paired || d.isHolder || d.bootsRing

/-- The state shown in LAC_STAT.RING and LAC_RING of the managed branch ring (Table 7.14). -/
def ringShow (d : Dev) : Dev :=
  if d.manages false then
    let r := d.lac.branch
    let d := d.fset F.LAC_STAT_RING (if r.down then 3 else if r.lines then 2 else 1)
    let d := d.fset F.LAC_RING_FOLD_POS (if r.lines then r.cw else 0x7F)
    (d.fset F.LAC_RING_NPRES r.present.length).fset F.LAC_RING_NCFG (d.positions false).length
  else d.fset F.LAC_STAT_RING 0

/-- LAC_FLT of the first fault. -/
def lacFlt (d : Dev) (cause port pos : Nat) : Dev :=
  if d.fget F.LAC_FLT_CAUSE = 0 then
    ((d.fset F.LAC_FLT_CAUSE cause).fset F.LAC_FLT_PORT port).fset F.LAC_FLT_POS pos else d

/-! ### Candidates (R163) -/

/-- An EPOCH seen in a header raises the highest one. -/
def seeEpoch (d : Dev) (h : Hdr) : Dev :=
  if newerEpoch h.epoch (d.rnat A.LAC_EPOCH) then d.rsetN A.LAC_EPOCH h.epoch else d

/-- Whether a frame or a copy qualifies by CROWN: set, and of the highest epoch seen so far. -/
def qualifies (d : Dev) (crown : Bool) (epoch : Nat) : Bool := crown && decide (epoch = d.rnat A.LAC_EPOCH)

/-- A usable copy is offered to a receiver: the candidate it then holds. Of two that differ the qualifying one wins, as
both stand to the highest epoch seen by now; of two that agree the one that qualifies is kept. -/
def offer (d : Dev) (old : Option Cand) (new : Cand) : Dev × Option Cand :=
  match old with
  | none => (d, some new)
  | some c =>
    if new.seq = c.seq then
      let wins := d.qualifies new.crown new.epoch && !d.qualifies c.crown c.epoch
      if new.data = c.data then (d, some (if wins then { c with crown := new.crown, epoch := new.epoch } else c))
      else
        let d := ((d.finc F.LAC_CNT0_MISMATCH).raise F.LAC_EVT_MISMATCH).tally 0x304
        (d, some { (if wins then new else c) with mismatch := true })
    else if newer16 new.seq c.seq then (d, some new)
    else (d.finc F.LAC_CNT0_STALE_SEQ, some c)

/-! ### Folds (R174, R175) -/

/-- The ring of a manager learns of a fold: it runs as two lines, with the last positions that can be reached. -/
def toLines (d : Dev) (level0 : Bool) (cw ccw : Nat) : Dev :=
  let was := (d.ring level0).lines
  let d := d.modRing level0 fun r =>
    { r with lines := true, closing := false, cw := min r.cw cw, ccw := max r.ccw ccw }
  let d := if was then d else ((d.raise F.LAC_EVT_FOLD).finc F.LAC_CNT3_FOLDS).tally 0x303
  d.ringShow

/-- A returned FOLD field (R175): the last place of its line, `rev` the line that leaves the second port. -/
def seeFold (d : Dev) (level0 rev : Bool) (f : Nat) : Dev :=
  if (d.ring level0).lines then
    (d.modRing level0 fun r => if rev then { r with ccw := f } else { r with cw := f }).ringShow
  else d.toLines level0 f (f + 1)

/-- The managed ring of a port, if the device manages one there. -/
def ringOfPort (d : Dev) (p : Nat) : Option Bool :=
  if 2 ≤ p then (if d.manages false then some false else none) else (if d.manages true then some true else none)

/-- A station folds a port (R174): frames in flight are aborted on both sides. -/
def foldPort (d : Dev) (p cause : Nat) : Dev :=
  let d := (d.fput (F.LAC_PORT_FOLD p) true).fset F.LAC_STAT_FOLD (d.fget F.LAC_STAT_FOLD ||| 2 ^ p)
  let d := (d.lacFlt cause p d.lac.memb.pos).lasting 5 3
  let d := (d.emit (.laceAbort p)).emit (.laceAbort (otherPort p))
  match d.ringOfPort p with
  | some l => if p % 2 = 0 then d.toLines l 0 1 else d.toLines l 127 128
  | none => ((d.raise F.LAC_EVT_FOLD).finc F.LAC_CNT3_FOLDS).tally 0x303

/-- A port that the role uses aligns and is up (R153, R179). -/
def portUp (d : Dev) (p : Nat) : Dev :=
  if d.fbit (F.LAC_PORT_UP p) || !d.portInUse p then d
  else
    let lit := d.lac.lit || (d.lac.bringUp && decide (d.tb ≤ d.lac.bringStart + 2000000))
    { (d.fput (F.LAC_PORT_UP p) true).fset F.LAC_STAT_UP (d.fget F.LAC_STAT_UP ||| 2 ^ p) with
      lac := { d.lac with lit := lit } }

/-- Whether a cycle of a ring stands in its acyclic window, seen from a member: from TX_OFS after the release beat to
TX_OFS before the next (R180); outside the cycles of a ring and in BOOT always. -/
def betweenFrames (d : Dev) (cycle : Nat) : Bool :=
  let ofs := 10 * d.fget F.LAC_CFG_TX_OFS
  d.st = .boot || cycle = 0 || decide (ofs ≤ d.tb % cycle ∧ d.tb % cycle + ofs ≤ cycle)

/-- The acyclic window of a managed ring: no frame and no retry of it is in flight (R180). -/
def ringWindow (d : Dev) (level0 : Bool) : Bool :=
  (d.ring level0).frames = 0 && (d.ring level0).retries = 0 && d.betweenFrames (d.ringNs level0)

/-- The acyclic window at a port. -/
def portWindow (d : Dev) (p : Nat) : Bool :=
  match d.ringOfPort p with
  | some l => d.ringWindow l
  | none => d.betweenFrames d.memberNs

/-- The delay that 16 probes show, in 1/64 ns: half of each round trip less the turnaround, both counted in 0.4 ns, and
the mean of the 16 (R168). The spec does not say how a fraction is rounded: either way, by a free bit. -/
def probeDelay (d : Dev) (probes : List (Nat × Nat)) : Nat :=
  let s := 4 * (probes.map fun x => x.1 - x.2).sum
  s / 5 + b2n (decide (s % 5 ≠ 0) && (Config.openWord d.free).getLsbD 0)

/-- Whether a port measures its link now (R168): for the first time at bring-up, then once per second in the acyclic
window. -/
def probesDue (d : Dev) (p : Nat) : Bool :=
  match d.lac.measured.find? fun x => x.1 = p with
  | some x => decide (x.2 + 1000000000 ≤ d.tb) && d.portWindow p
  | none => true

/-- A port measures its link by 16 probes (R164, R168). -/
def linkDelay (d : Dev) (p : Nat) (probes : List (Nat × Nat)) : Dev :=
  if probes.length ≠ 16 || !d.fbit (F.LAC_PORT_UP p) || !d.probesDue p then d
  else
    let first := d.lac.measured.all fun x => x.1 ≠ p
    let delay := d.probeDelay probes
    let d := (d.fset (F.LAC_PORT_DELAY p) (min delay (2 ^ 20 - 1))).nextFree
    let d := { d with lac := { d.lac with measured := alPut p d.tb d.lac.measured } }
    if first && 64 * d.fget F.LAC_LINKMAX_LINK_MAX < delay then
      let d := ((d.fput (F.LAC_PORT_OUT p) true).raise F.LAC_EVT_LINK_LONG).lacFlt 3 p d.lac.memb.pos
      match d.ringOfPort p with
      | some l => if p % 2 = 0 then d.toLines l 0 1 else d.toLines l 127 128
      | none => d
    else d

/-- A folded link returns to service after 1,000 good probes; with UNFOLD_AUTO set the manager closes the ring between
two cycles, where none of its own ports of that ring is folded (R178). -/
def unfold (d : Dev) (p : Nat) : Dev :=
  let d :=
    if d.fbit (F.LAC_PORT_FOLD p) then
      ((d.fput (F.LAC_PORT_FOLD p) false).fset F.LAC_STAT_FOLD (d.fget F.LAC_STAT_FOLD - 2 ^ p)).portUp p
    else d
  match d.ringOfPort p with
  | some l =>
    if (d.ring l).lines && d.fbit F.LAC_CTL_UNFOLD_AUTO && !d.fbit (F.LAC_PORT_FOLD (otherPort p)) then
      d.modRing l fun r => { r with closing := true }
    else d
  | none => d

/-- A ring that is to be closed is closed (R178). -/
def closeRing (d : Dev) (level0 : Bool) : Dev :=
  if (d.ring level0).closing then
    ((d.modRing level0 fun r => { r with lines := false, closing := false, cw := 127, ccw := 1 }).raise
      F.LAC_EVT_UNFOLD).ringShow
  else d

/-! ### A passing frame (R160 to R162, R167, R174) -/

/-- The member's own slice for a SEQ: the same one in every copy (R162). -/
def insertion (d : Dev) (seq n : Nat) : Dev × List Byte × Bool :=
  match d.lac.memb.inserted with
  | some (s, bs, late) => if s = seq then (d, bs, late) else fresh
  | none => fresh
where fresh :=
  let late := d.sliceLate 0
  let bs := d.sliceBytes 0 n
  let d := if late then (d.finc F.LAC_CNT2_LATE).tally 0x306 else d
  (d.modMemb fun m => { m with inserted := some (seq, bs, late) }, bs, late)

/-- Whether a member writes its segment: every unpaired member, the crown holder of a pair, and its standby where the
segment arrives with PRESENT = 0 (R165). -/
def writesSegment (d : Dev) (mark : Nat) : Bool :=
  !d.paired || d.isHolder || ((d.wltState = 2 || d.wltState = 3) && mark / 2 ^ 15 = 0)

/-- MARK as a member writes it (Table 7.3). -/
def markOf (d : Dev) (pos : Nat) (ok late : Bool) : Nat :=
  2 ^ 15 + pos * 256 + b2n (d.st = .run) * 128 + b2n ok * 64 + b2n (d.fget F.LAC_STAT_MEMBER = 3) * 32
    + b2n (d.st = .safe) * 16 + b2n late * 8

/-- A member at its own segment (R162): takes OUT, writes MARK and IN, sends a new SCRC. -/
def ownSegment (d : Dev) (h : Hdr) (bs : List Byte) (s : SegAt) (hok : Bool) : Dev × List Byte :=
  let d := d.seeEpoch h
  let d :=
    if s.good && hok then
      let o := d.offer d.lac.memb.cand
        { seq := h.seq, data := s.out, crown := h.flags.testBit 0, epoch := h.epoch, unlocked := h.flags.testBit 5,
          folded := h.flags.testBit 2 }
      o.1.modMemb fun m => { m with cand := o.2 }
    else d
  if d.writesSegment s.mark then
    let x := d.insertion h.seq s.inp.length
    let body := leBytes 2 (x.1.markOf s.pos (s.good && hok) x.2.2) ++ s.out ++ x.2.1
    (x.1, setBytes bs s.off (body ++ leBytes 2 (scrc body)))
  else (d, bs)

/-- The time sample a frame yields (R167): first frame of its SEQ from the source, CROWN with the current epoch, both
checks good. -/
def frameSample (d : Dev) (p : Nat) (h : Hdr) (ok : Bool) : Dev :=
  if ok && p < 2 && d.role ≠ 2 && (h.typ = 1 || h.typ = 2 || h.typ = 4) && d.lac.memb.sampled ≠ some h.seq then
    let d := d.seeEpoch h
    if d.qualifies (h.flags.testBit 0) h.epoch then
      (d.modMemb fun m => { m with sampled := some h.seq }).timeSample h.txTime (h.corr + d.fget (F.LAC_PORT_DELAY p))
    else d
  else d

/-- What a failed check at this station comes to when the same SEQ arrives on the same port again (R177): a good copy
makes it transient, a failed one folds the port. A failure whose SEQ is past had no retry: its manager counts it
(R24). -/
def hopCheck (d : Dev) (p seq : Nat) (ok : Bool) : Dev :=
  let d := d.modMemb fun m => { m with errAt := m.errAt.filter fun x => x.1 ≠ p || x.2 = seq || newer16 x.2 seq }
  let known := d.lac.memb.errAt.contains (p, seq)
  let clear (d : Dev) := d.modMemb fun m => { m with errAt := m.errAt.filter (· ≠ (p, seq)) }
  if known then
    if ok then ((clear d).transient 5).nextFree.occurBlk 11 ((Config.openWord d.free).toNat % 256) 3
    else (clear d).foldPort p 1
  else if ok then d
  else d.modMemb fun m => { m with errAt := m.errAt ++ [(p, seq)] }

/-- A frame passes this station (R154, R160 to R162, R167, R174): from port `p` it is forwarded, or turned back where
the other port is folded. Where the incoming HCRC failed, the member's own segment stays as it came (R162, DESIGN
CHOICE, log entry 64). -/
def framePass (d : Dev) (p : Nat) (bs : List Byte) : Dev :=
  if !d.portUsable p then d
  else
    let d := d.bytesIn p bs.length
    let h := parseHdr bs
    let q := otherPort p
    if !(1 ≤ h.typ && h.typ ≤ 4) || bs.length < 38 then d.sendPort (if d.portUsable q then q else p) bs
    else
      let hok := hcrcOk bs
      let fok := fcrcOk bs
      let d := d.hopCheck p h.seq (hok && fok)
      let d := d.frameSample p h (hok && fok)
      let n := bs.length
      let bs' := setBytes bs 23 (leBytes 1 (h.hops + 1))
      let bs' := setBytes bs' 16 (leBytes 4 (h.corr + 120 * 64 + d.fget (F.LAC_PORT_DELAY p)))
      let bs' := if !fok && errHop bs = 0xFF then setBytes bs' (n - 6) (leBytes 1 (h.hops + 1)) else bs'
      let firstPass := foldOf bs = 0xFF
      let joined := match d.lac.memb.first with
        | some s => d.lac.memb.opened || h.seq = s || newer16 h.seq s
        | none => false
      let x : Dev × List Byte :=
        if firstPass && hok && joined && p < 2 && d.isMember && h.typ ≠ 4 then
          let d := d.modMemb fun m => { m with opened := true }
          let lens (k : Nat) := (d.lac.memb.layout.find? fun (r : RingRow) => r.pos = k).map fun r => (r.outLen, r.inLen)
          match (segsOf lens bs h.nseg 32).find? fun s => s.pos = d.lac.memb.pos with
          | some s => d.ownSegment h bs' s hok
          | none => (d, bs')
        else (d, bs')
      if x.1.portUsable q then x.1.sendPort q (sealFrame x.2)
      else
        let back := setBytes x.2 1 (leBytes 1 (h.flags ^^^ 2))
        x.1.sendPort p (sealFrame (setBytes back (n - 5) (leBytes 1 d.lac.memb.pos)))

/-! ### What a manager sends (R159, R165, R175 to R177) -/

/-- The FLAGS byte of this device's frames (Table 7.2). -/
def frameFlags (d : Dev) (reverse line : Bool) : Nat :=
  b2n d.acts + b2n reverse * 2 + b2n line * 4 + b2n (d.st = .stop) * 8 + b2n (d.st = .safe) * 16
    + b2n (!d.gtLock) * 32

/-- A header of this device. -/
def ownHdr (d : Dev) (typ seq nseg : Nat) (reverse line : Bool) : Hdr :=
  { typ := typ, flags := d.frameFlags reverse line, seq := seq, epoch := d.ownEpoch, txTime := d.tb, corr := 0,
    src := d.ownAddr, nseg := nseg, hops := 0, layoutId := d.fget F.LAC_LAYOUT_LAYOUT_ID }

/-- The segments for positions of a managed ring. -/
def ringSegs (d : Dev) (level0 : Bool) (ps : List Nat) : List (List Byte) :=
  ps.filterMap fun n => (d.sliceLens level0 n).map fun l =>
    segBytes n (d.sliceBytes (if level0 then 256 + n else n) l.1) l.2

/-- A frame with segments for positions leaves a ring port. -/
def sendSegs (d : Dev) (level0 : Bool) (typ seq : Nat) (port : Nat) (ps : List Nat) (line : Bool) : Dev :=
  d.sendPort port (makeFrame (d.ownHdr typ seq ps.length (port % 2 = 1) line) (d.ringSegs level0 ps))

/-- The sending port of a ring, clockwise. -/
def cwPort (level0 : Bool) : Nat := if level0 then 0 else 2

/-- The port from which this device's frames leave on a closed ring: clockwise, but the second member of a pair sends in
the other direction (R154). -/
def sendingPort (d : Dev) (level0 : Bool) : Nat :=
  cwPort level0 + b2n (d.paired && !d.firstMember)

/-- The positions on the two lines of a folded ring: clockwise, and counted down from the last. -/
def onLines (d : Dev) (level0 : Bool) (ps : List Nat) : List Nat × List Nat :=
  let r := d.ring level0
  (ps.filter fun n => d.place level0 n ≤ r.cw,
    (ps.filter fun n => r.ccw ≤ d.place level0 n && r.cw < d.place level0 n).reverse)

/-! The time a frame takes (R164, R175, R176): its bytes, 120 ns at each station and the link delays, measured ones
where a frame has come back. M counts the members of a pair separately (R155). -/

/-- The stations at some positions: a paired branch manager is two. -/
def stations (d : Dev) (level0 : Bool) (ps : List Nat) : Nat :=
  (ps.map fun n => if level0 && d.lac.level0.pairIds.any fun x => x.1 = n then 2 else 1).sum

/-- M of a managed ring. -/
def ringSize (d : Dev) (level0 : Bool) : Nat := d.stations level0 (d.positions level0) + 1 + b2n d.paired

/-- The second members of pairs on the branch ring and on the level-0 ring of this device (R155). -/
def secondMembers (d : Dev) : Nat × Nat := (b2n d.paired, b2n d.paired + d.lac.level0.pairIds.length)

/-- The delay of one link of a ring in 1/64 ns, LINK_MAX before a frame has come back. -/
def linkAvg (d : Dev) (level0 : Bool) : Nat := (d.ring level0).link.getD (64 * d.fget F.LAC_LINKMAX_LINK_MAX)

/-- The time of a frame's bytes in ns. -/
def bytesNs (d : Dev) (level0 : Bool) (ps : List Nat) : Nat :=
  (40 + (ps.map fun n => match d.sliceLens level0 n with | some l => l.1 + l.2 + 4 | none => 0).sum) * 4

/-- T of a frame on the closed ring. -/
def roundNs (d : Dev) (level0 : Bool) (ps : List Nat) : Nat :=
  d.bytesNs level0 ps + d.ringSize level0 * 120 + d.ringSize level0 * d.linkAvg level0 / 64

/-- The time of a line frame: it passes the line's stations, twice but for the last; the line of a pair's member that
leads through its partner counts that as one (R175). -/
def lineNs (d : Dev) (level0 rev : Bool) (ps : List Nat) : Nat :=
  let all := d.onLines level0 (d.positions level0)
  let k := d.stations level0 (if rev then all.2 else all.1) + b2n (d.paired && d.firstMember = rev)
  d.bytesNs level0 ps + (2 * k - 1) * 120 + 2 * k * d.linkAvg level0 / 64

/-- The frames that carry the segments of some positions on the usable paths of a ring: port, segments and time. -/
def routes (d : Dev) (level0 : Bool) (ps : List Nat) : List (Nat × List Nat × Nat) :=
  let all :=
    if (d.ring level0).lines then
      let x := d.onLines level0 ps
      [(cwPort level0, x.1, d.lineNs level0 false x.1), (cwPort level0 + 1, x.2, d.lineNs level0 true x.2)]
    else [(d.sendingPort level0, ps, d.roundNs level0 ps)]
  all.filter fun x => d.portUsable x.1

/-- Frames on some paths. -/
def sendRoutes (d : Dev) (level0 : Bool) (typ seq : Nat) (rs : List (Nat × List Nat × Nat)) : Dev :=
  let line := (d.ring level0).lines
  rs.foldl (fun (d : Dev) x =>
    let d := d.sendSegs level0 typ seq x.1 x.2.1 line
    -- the summary of a branch manager that is not locked carries it to the root (R169)
    if d.role = 1 && d.manages level0 && !d.gtLock then d.emit (.summaryUnlocked x.1) else d) d

/-- When frames sent now must be back: 2 µs after their time (R175). -/
def backBy (d : Dev) (rs : List (Nat × List Nat × Nat)) : Nat := d.tb + (rs.map fun x => x.2.2).foldl max 0 + 2000

/-- Whether frames may leave: STOP, RUN or SAFE, with an image and a ring (R27, R159). -/
def mayFrame (d : Dev) (level0 : Bool) : Bool :=
  (d.st = .stop || d.st = .run || d.st = .safe) && d.esc.image.isSome && d.manages level0 && d.originates

/-- The cyclic frame of a ring, at TX_OFS after a release beat of the exchange task (R159); a ring to be closed is
closed first (R178). -/
def sendCyclic (d : Dev) (level0 : Bool) : Dev :=
  let tc := d.ringNs level0
  let ofs := 10 * d.fget F.LAC_CFG_TX_OFS
  if d.mayFrame level0 && d.tb % tc = ofs then
    let d := d.closeRing level0
    let seq := d.tb / tc % 65536
    let rs := d.routes level0 (d.ringOrder level0)
    let due := d.backBy rs
    let d := d.sendRoutes level0 (if level0 then 2 else 1) seq rs
    let d := d.modRing level0 fun r =>
      { r with
        sentSeq := some seq, sentAt := d.tb, awaited := d.positions level0, failed := [], retries := 0,
        frames := rs.length, retried := false, broken := false, due := due }
    (d.fset F.LAC_SEQ_SEQ seq).tally 0x300 rs.length
  else d

/-- A header-only time frame (R165, R179): on the level-0 ring in the other branch cycles; in BOOT on every ring from
the time its LAYOUT has been sent, until cyclic frames begin. Its SEQ counts branch cycles (DEDUCED, log entry 14). -/
def sendTime (d : Dev) (level0 : Bool) : Dev :=
  let ofs := 10 * d.fget F.LAC_CFG_TX_OFS
  let boot := d.st = .boot && !d.held && d.manages level0 && d.originates && (d.ring level0).laidOut
  let run := d.mayFrame level0 && level0 && (d.tb - ofs) % d.ringNs true ≠ 0
  if (boot || run) && d.tb % d.tbNs = ofs then
    d.sendRoutes level0 4 (d.tb / d.tbNs % 65536) (d.routes level0 [])
  else d

/-- The failure of a SEQ's exchange is counted (R24, R176): transient where its retry came back good or had no room,
else lasting. -/
def brokenEnd (d : Dev) (level0 good : Bool) : Dev :=
  if (d.ring level0).broken then
    let d := d.modRing level0 fun r => { r with broken := false }
    if good then (d.transient 5).occurBlk 11 F.LAC_EVT_FOLD.lo 3 else d.lasting 5 3
  else d

/-- A retry of failed segments on each path where it can end 1 µs before the next release beat; a path on which it
cannot is skipped (R24, R176, R177). With no segment failed but a hop's check, the frame's header crosses the hop
again. -/
def retry (d : Dev) (level0 hop : Bool) : Dev :=
  let r := d.ring level0
  match r.sentSeq with
  | none => d
  | some seq =>
    let ps := (d.ringOrder level0).filter r.failed.contains
    let limit := r.sentAt - 10 * d.fget F.LAC_CFG_TX_OFS + d.ringNs level0
    let rs := (d.routes level0 ps).filter fun x => hop || !x.2.1.isEmpty
    if r.retried || !d.originates || rs.isEmpty then d
    else
      let fits (x : Nat × List Nat × Nat) : Bool := decide (d.tb + x.2.2 + 1000 ≤ limit)
      let send := rs.filter fits
      let skip := rs.filter fun x => !fits x
      let due := d.backBy send
      let left := skip.flatMap fun x => x.2.1
      let d := (d.sendRoutes level0 3 seq send).modRing level0 fun r =>
        { r with retried := true, retries := r.retries + send.length, failed := left, due := max r.due due }
      let d := if send.isEmpty then d else (d.finc F.LAC_CNT1_RETRY_SENT send.length).tally 0x301 send.length
      if skip.isEmpty then d
      else
        let d := d.modRing level0 fun r => { r with broken := false }
        let d := d.finc F.LAC_CNT1_RETRY_SKIPPED skip.length
        ((d.raise F.LAC_EVT_STALE).tally 0x302 skip.length).transient 5 |>.occurBlk 11 F.LAC_EVT_STALE.lo 3

/-! ### What a manager takes (R163, R171, R175) -/

/-- A position becomes present. -/
def markPresent (d : Dev) (level0 : Bool) (n : Nat) : Dev :=
  let r := d.ring level0
  if r.present.contains n then d
  else
    let again := r.everSeen.contains n
    let upd (r : Ring) : Ring :=
      { r with
        present := r.present ++ [n], admitted := if r.admitted.contains n then r.admitted else r.admitted ++ [n],
        rejoined := if again then r.rejoined ++ [n] else r.rejoined,
        everSeen := if again then r.everSeen else r.everSeen ++ [n] }
    let d := (d.modRing level0 upd).rset (posReg level0 n) (d.rget (posReg level0 n) ||| 0x40000000#32)
    let d := if again then (((d.raise F.LAC_EVT_REJOIN).finc F.LAC_CNT3_REJOINS).alert 24) else d
    d.ringShow

/-- A position becomes absent (R171). -/
def markAbsent (d : Dev) (level0 : Bool) (n : Nat) : Dev :=
  if (d.ring level0).present.contains n then
    let d := d.modRing level0 fun r => { r with present := r.present.filter (· ≠ n) }
    let d := d.rset (posReg level0 n) (d.rget (posReg level0 n) &&& 0xBFFFFFFF#32)
    (((d.raise F.LAC_EVT_ABSENT).tally 0x305).alert 24).ringShow
  else d

/-- Every frame and retry of the SEQ has come back or is lost: positions not heard of are absent (R171), and an aborted
frame is counted. -/
def settle (d : Dev) (level0 : Bool) : Dev :=
  let r := d.ring level0
  if r.frames = 0 && r.retries = 0 then
    let reach := d.onLines level0 r.failed
    let d := d.brokenEnd level0 ((reach.1.isEmpty && reach.2.isEmpty) || !d.originates)
    r.awaited.foldl (fun d n => if r.failed.contains n then d else d.markAbsent level0 n) d
  else d

/-- A usable copy of a position's slice is offered (R163); `unl` is the branches whose summaries carry UNLOCKED
(R169). -/
def offerSegment (d : Dev) (level0 : Bool) (h : Hdr) (unl : List Nat) (s : SegAt) : Dev :=
  let old := ((d.ring level0).cands.find? fun c => c.1 = s.pos).map (·.2)
  let o := d.offer old
    { seq := h.seq, data := s.inp, crown := h.flags.testBit 0, epoch := h.epoch, late := s.mark.testBit 3,
      unlocked := level0 && unl.contains s.pos, folded := h.flags.testBit 2 }
  o.1.modRing level0 fun r => { r with cands := match o.2 with | some c => alPut s.pos c r.cands | none => r.cands }

/-- A segment of the SEQ in flight that came back. -/
def takeSegment (d : Dev) (level0 : Bool) (h : Hdr) (hok : Bool) (unl : List Nat) (s : SegAt) : Dev :=
  if !(s.good && hok) then d.modRing level0 fun r => { r with failed := r.failed ++ [s.pos] }
  else if !s.mark.testBit 15 then d
  else
    let d := d.markPresent level0 s.pos
    let d := if s.mark.testBit 3 then (d.finc F.LAC_CNT2_LATE).tally 0x306 else d
    (d.offerSegment level0 h unl s).modRing level0 fun r =>
      { r with
        awaited := r.awaited.filter (· ≠ s.pos),
        failed := if s.mark.testBit 6 then r.failed else r.failed ++ [s.pos] }

/-- A frame with the SEQ in flight has come back: its times (R164, R183). -/
def backTimes (d : Dev) (p : Nat) (level0 : Bool) (h : Hdr) (hok : Bool) : Dev :=
  let path := h.corr + d.fget (F.LAC_PORT_DELAY p) - 64 * 120 * h.hops
  let d := d.modRing level0 fun r =>
    if h.typ = 3 then { r with retries := r.retries - 1, down := false }
    else
      { r with frames := r.frames - 1, down := false, link := if hok then some (path / (h.hops + 1)) else r.link }
  let t := d.tb - (d.ring level0).sentAt
  if h.typ = 3 then d else (d.rsetN A.LAC_TFRAME t).rsetN A.LAC_TFRAME_MAX (max t (d.rnat A.LAC_TFRAME_MAX))

/-- A frame of this manager comes back (R161, R163, R171, R175, R177): this port's check is the last hop's. A frame of
another SEQ only offers its slices. -/
def frameReturn (d : Dev) (p : Nat) (bs : List Byte) (unl : List Nat) : Dev :=
  match d.ringOfPort p with
  | none => d
  | some l =>
    let h := parseHdr bs
    let d := d.bytesIn p bs.length
    if !(1 ≤ h.typ && h.typ ≤ 3) || bs.length < 38 then d
    else
      let hok := hcrcOk bs
      let fok := fcrcOk bs
      let d := d.hopCheck p h.seq (hok && fok)
      let d := if hok then d.seeEpoch h else d
      let segs := segsOf (d.sliceLens l) bs h.nseg 32
      let r := d.ring l
      if r.sentSeq ≠ some h.seq then
        segs.foldl (fun d s => if s.good && hok && s.mark.testBit 15 then d.offerSegment l h unl s else d) d
      else
        let d := segs.foldl (fun d s => d.takeSegment l h hok unl s) (d.backTimes p l h hok)
        let d := if hok then d else d.modRing l fun r => { r with failed := r.failed ++ r.awaited }
        let f := foldOf bs
        let d := if f = 0xFF then d else d.seeFold l (r.lines && p % 2 = 1) (d.place l f)
        let hop := !fok || !hok || errHop bs ≠ 0xFF
        let d := if (d.ring l).failed.isEmpty && !hop then d else d.retry l hop
        (d.settle l).ringShow

/-- An abort reaches the manager, or a frame has not returned by TX_OFS + T + 2 µs: the ring runs as lines that reach
the places up to `cw` and down to `ccw`, and what has not come back is retried (R175, R176). -/
def frameBroken (d : Dev) (level0 : Bool) (cw ccw : Nat) : Dev :=
  if d.manages level0 && (d.ring level0).sentSeq.isSome then
    let d := d.toLines level0 cw ccw
    let again := (d.ring level0).retried
    let lost (r : Ring) : List Nat := r.awaited.filter fun n => d.place level0 n ≤ r.cw || r.ccw ≤ d.place level0 n
    let d := d.modRing level0 fun r =>
      { r with frames := 0, retries := 0, broken := r.broken || !r.retried, failed := if r.retried then r.failed
          else lost r }
    let d := if again then d.brokenEnd level0 false else d
    ((d.retry level0 false).settle level0).ringShow
  else d

/-- Loss of signal for 1 µs at a port (R174); a frame of this manager in flight is aborted by it. -/
def lossOfSignal (d : Dev) (p : Nat) : Dev :=
  if d.fbit (F.LAC_PORT_UP p) && !d.fbit (F.LAC_PORT_FOLD p) then
    let d := ((d.fput (F.LAC_PORT_UP p) false).fset F.LAC_STAT_UP (d.fget F.LAC_STAT_UP - 2 ^ p)).foldPort p 2
    match d.ringOfPort p with
    | some l => if (d.ring l).frames ≠ 0 then d.frameBroken l (d.ring l).cw (d.ring l).ccw else d
    | none => d
  else d

/-- A frame or a retry not returned by TX_OFS + T + 2 µs (R175). -/
def overdue (d : Dev) (level0 : Bool) : Bool :=
  let r := d.ring level0
  (r.frames ≠ 0 || r.retries ≠ 0) && decide (r.due ≤ d.tb)

/-- The fields of LACE that an image gives, loaded in BOOT, at a seam and at entry to RUN (R183). What a member has
learned by LAYOUT stands (Table 7.14). -/
def loadRing (d : Dev) (im : Image) : Dev :=
  let keepPresent (d : Dev) (a : Nat) (w : Word) : Dev :=
    d.rset a ((w &&& 0x87FF07FF#32) ||| (d.rget a &&& 0x40000000#32))
  let d := (List.range 127).foldl (fun d i =>
    let d := keepPresent d (A.LAC_POS (i + 1)) (im.ring.getD i 0)
    if d.role = 2 then keepPresent d (A.LAC_BR (i + 1)) (im.ring.getD (129 + i) 0) else d) d
  let d := (d.fset F.LAC_CFG_HOLD (bitsOf (im.ring.getD 127 0x03000190).toNat 31 24)).fset F.LAC_CFG_TX_OFS
    (bitsOf (im.ring.getD 127 0x03000190).toNat 15 0)
  let d := (d.fset F.LAC_CFG_RMUL_M1 im.rmulM1).fset F.LAC_LINKMAX_LINK_MAX
    (bitsOf (im.ring.getD 128 0x32).toNat 15 0)
  let d := d.fset F.LAC_TB_TB im.tbTicks
  d.rsetN A.LAC_STS_BASE (((im.io.filter fun r => r.typ = 5).map (·.start)).getD 0 0)

/-- LACE at entry to RUN (R183). -/
def ringRun (d : Dev) : Dev :=
  match d.esc.image with
  | some im => (d.loadRing im).rset A.LAC_TFRAME_MAX 0
  | none => d.rset A.LAC_TFRAME_MAX 0

end Dev

/-! ### The freeze (R163, R170 to R172) -/

namespace Core

open Dev (b2n)

/-- The bytes of a record's safe values: those the image names, or zeros (R29, R416). -/
def safeBytes (c : Core) (r : IoRec) : List Byte :=
  match c.dev.esc.image with
  | some im =>
    if r.safe = 0 then List.replicate r.len 0 else c.mem.cells.readN (0x10000000 + 0x200000 * im.half + r.safe) r.len
  | none => List.replicate r.len 0

/-- Bytes frozen into an input slice. -/
def freezeSlice (c : Core) (key : Nat) (bs : List Byte) : Core :=
  match c.dev.inSlice key with
  | some r => c.put r.start (bs.take r.len)
  | none => c

/-- A status byte set. -/
def setSts (c : Core) (i v : Nat) : Core :=
  c.onDev fun d => { d with lac := { d.lac with sts := alSet 0x06#8 i (BitVec.ofNat 8 v) d.lac.sts } }

/-- The status byte of a frozen candidate (Table 7.6). -/
def stsOf (x : Cand) (rejoined : Bool) : Nat :=
  b2n rejoined * 128 + b2n x.late * 64 + b2n x.unlocked * 32 + b2n x.mismatch * 16 + b2n x.folded * 8
    + (if x.late then 2 else 0) + 1

/-- The slices of a managed ring at a release beat of its exchange task. -/
def freezeRing (c : Core) (level0 : Bool) : Core :=
  (c.dev.positions level0).foldl (fun c n =>
    let r := c.dev.ring level0
    let sb := if level0 then 128 + n else n
    let fresh := (r.cands.find? fun x => x.1 = n).filter fun x => alGet n 65536 r.frozen ≠ x.2.seq
    match fresh with
    | some (_, x) =>
      let c := c.freezeSlice (if level0 then 256 + n else n) x.data
      let rj := r.rejoined.contains n
      let c := c.onDev fun d => d.modRing level0 fun r =>
        { r with frozen := alPut n x.seq r.frozen, rejoined := r.rejoined.filter (· ≠ n) }
      c.setSts sb (stsOf x rj)
    | none => if r.present.contains n then c.setSts sb 3 else c.setSts sb 4) c

/-- The missed-beat count has reached HOLD (R172). -/
def holdExpire (c : Core) : Core :=
  let c := match c.dev.inSlice 0 with
    | some r => c.freezeSlice 0 (c.safeBytes r)
    | none => c
  (c.setSts 128 4).onDev fun d =>
    ((d.fset F.LAC_STAT_MEMBER 3).raise F.LAC_EVT_HOLD_EXPIRED).lacFlt 6 0 d.lac.memb.pos

/-- Whether the hold of this member runs out now. -/
def holdDue (c : Core) : Bool :=
  c.dev.isMember && c.dev.fget F.LAC_STAT_MEMBER = 2
      && decide (c.dev.fget F.LAC_CFG_HOLD ≤ c.dev.fget F.LAC_STAT_HOLD_CNT)

/-- The received slice of a member at a release beat of its exchange task (R163, R172). -/
def freezeMember (c : Core) : Core :=
  let m := c.dev.lac.memb
  let joined := c.dev.fget F.LAC_STAT_MEMBER = 2 || c.dev.fget F.LAC_STAT_MEMBER = 3
  if !joined then c
  else
    match m.cand with
    | some x =>
      if m.frozen = some x.seq then miss c
      else
        let c := (c.freezeSlice 0 x.data).setSts 128 (stsOf x m.rejoin)
        c.onDev fun d =>
          let d := d.modMemb fun m => { m with frozen := some x.seq, rejoin := false }
          ((d.fset F.LAC_STAT_HOLD_CNT 0).fset F.LAC_STAT_MEMBER 2).fset F.LAC_SEQ_SEQ x.seq
    | none => miss c
where miss (c : Core) : Core :=
  let c := c.onDev fun d => d.finc F.LAC_STAT_HOLD_CNT
  if c.dev.fget F.LAC_STAT_MEMBER = 3 then c.setSts 128 4
  else if c.holdDue then c.holdExpire
  else c.setSts 128 3

/-- The LACE part of a freeze (Table 2.1, step 4; R170): slices whose exchange task has a release beat now, and the
status range. -/
def lacFreeze (c : Core) : Core :=
  let due (c : Core) (tc : Nat) : Bool := tc ≠ 0 && c.dev.tb % tc = 0
  let c := if c.dev.isMember && due c c.dev.memberNs then c.freezeMember else c
  let c := if c.dev.manages false && due c (c.dev.ringNs false) then c.freezeRing false else c
  let c := if c.dev.manages true && due c (c.dev.ringNs true) then c.freezeRing true else c
  let r := c.dev.lac.branch
  let b0 := b2n (c.dev.manages false && !r.down && !r.lines) + b2n (c.dev.manages false && !r.down && r.lines) * 2
    + b2n c.dev.gtLock * 4
  match (c.dev.ioRecs 5).head? with
  | none => c
  | some rec5 =>
    let sts := c.dev.lac.sts
    c.put rec5.start (((List.range 256).map fun i =>
      if i = 0 then BitVec.ofNat 8 b0 else alGet i 0x06#8 sts).take rec5.len)

end Core

end Sys2Proof.Machine
end

