-- ==== Sys2Proof/Machine/Field.lean ====
section
/-! DEFINITION. FIELD (R264 to R283): the output state and its frames, release and silence, the input range, the
digital and current-loop channels, trim and detection, and configuration writes. -/

namespace Sys2Proof.Machine

/-- A vector entry, 0 beyond the end. -/
def vget {α : Type} {n : Nat} (v : Vector α n) (i : Nat) (d : α) : α := v.toList.getD i d

/-- Codes of 4 mA, 20 mA, 3.5 mA and 21.5 mA (R270). -/
def code4 : Nat := 0x2AAB
def code20 : Nat := 0xD555
def codeLow : Nat := 0x2555
def codeHigh : Nat := 0xE555

/-- The first field-interface clock edge at or after an instant: edges lie at the last beat plus multiples of 100 ns
(R264). -/
def fieldEdge (beat t : Nat) : Nat := beat + (t - beat + 99) / 100 * 100

/-- The end of the `k`-th slot from instant `t` that is full length and not reserved to a beat: slot `n` spans
(n − 1) × 100 ns to n × 100 ns, outbound slots 7 to 13 are reserved (R264, R266). `fuel` bounds the slots looked at. -/
def slotsEnd (beat period : Nat) : Nat → Nat → Nat → Nat
  | 0, _, t => t
  | _, 0, t => t
  | fuel + 1, k + 1, t =>
    let s := fieldEdge beat t
    let o := (s - beat) % period
    let free := decide (o + 100 ≤ period) && !(decide (600 ≤ o) && decide (o < 1300)) && decide (o % 100 = 0)
    if free then slotsEnd beat period fuel k (s + 100) else slotsEnd beat period fuel (k + 1) (s + 100)

namespace Dev

/-- FIELD's state changed. -/
def modField (d : Dev) (f : FieldSt → FieldSt) : Dev := { d with field := f d.field }

/-- A fault cause of FIELD, first since power-on. -/
def fldFlt (d : Dev) (cause channel : Nat) : Dev :=
  if d.fget F.FLD_FLT_CAUSE = 0 then (d.fset F.FLD_FLT_CAUSE cause).fset F.FLD_FLT_CHANNEL channel else d

/-! ### Safe-state values and the output state (R268, R281) -/

/-- The safe state of a DO as a duty. -/
def doSafe (d : Dev) (n : Nat) : Nat := if d.cfgBit 38 n then 65535 else 0

/-- The safe state of an AO: the code, and whether it passes the trim. -/
def aoSafe (d : Dev) (n : Nat) : Nat × Bool :=
  match d.cfgByte (40 + n) with
  | 1 => (codeLow, false)
  | 2 => (codeHigh, false)
  | 3 => (d.cfgLe (44 + 2 * n) 2, true)
  | _ => (0, false)

/-- Whether the device sends the safe-state values as its output state: outside RUN, on a pair member that is not
HOLDER, and on a worker whose hold has expired (R172, R268). -/
def fieldStateSafe (d : Dev) : Bool :=
  d.st ≠ .run || (d.paired && (!d.isHolder || d.wlt.relinquished)) || (d.role = 0 && d.isMember
      && d.fget F.LAC_STAT_MEMBER = 3)

/-- A byte of the field output range as last published. -/
def fieldOutByte (d : Dev) (i : Nat) : Byte :=
  match (d.ioRecs 2).head? with
  | some r => if i < r.len then d.lac.out.read (r.start + i) else 0
  | none => 0

/-- A 16-bit field of the field output range. -/
def fieldOut16 (d : Dev) (i : Nat) : Nat := (d.fieldOutByte i).toNat + (d.fieldOutByte (i + 1)).toNat * 256

/-- The duty of a DO in the output state. -/
def doState (d : Dev) (n : Nat) : Nat :=
  let mode := d.fget (F.FLD_DOCFG_MODE n)
  if mode = 3 then 0
  else if d.fieldStateSafe || (mode ≠ 2 && !d.field.published) then d.doSafe n
  else if mode = 0 then (if (d.fieldOutByte 0).getLsbD n then 65535 else 0)
  else if mode = 1 then d.fieldOut16 (12 + 2 * n)
  else vget d.field.loopDo n 0

/-- Whether an AO is owned by LOOP. -/
def aoLoop (d : Dev) (n : Nat) : Bool := d.fbit (F.FLD_AOCFG_SRC n)

/-- Whether an AO is at its safe state in the output state. -/
def aoIsSafe (d : Dev) (n : Nat) : Bool := d.fieldStateSafe || (!d.aoLoop n && !d.field.published)

/-- The commanded code of an AO. -/
def aoCode (d : Dev) (n : Nat) : Nat :=
  if d.aoIsSafe n then (d.aoSafe n).1 else if d.aoLoop n then vget d.field.loopAo n 0 else d.fieldOut16 (4 + 2 * n)

/-- The trim points of an AO in use: A4 and A20. -/
def aoTrim (d : Dev) (n : Nat) : Nat × Nat :=
  let w := (vget d.factory.aoTrim n 0).toNat
  let f := (w % 65536, w / 65536)
  if d.fbit F.FLD_CTL_UTRIM_EN && !d.fbit (F.FLD_AOCFG_TRIM_SEL n) then (vget d.field.aoUser n none).getD f else f

/-- Whether the alarm level selected for an AO is the high one (R277). -/
def aoHigh (d : Dev) (n : Nat) : Bool :=
  if d.fbit (F.FLD_AOCFG_ALM_OVR n) then d.fbit (F.FLD_AOCFG_ALM_HI n) else d.cfgBit 52 n

/-- The whole output state now, to be applied at an edge; trim and alarm levels travel with it, so that they too
change at the next output frame (R276, R283). -/
def compose (d : Dev) (edge : Nat) (release : Bool) : FieldFrame :=
  { duty := Vector.ofFn fun i => d.doState i, code := Vector.ofFn fun i => d.aoCode i,
    alm := if d.fieldStateSafe || !d.field.published then 0 else (d.fieldOutByte 1).extractLsb' 0 4,
    almHi := BitVec.ofNat 4 (b2n (d.aoHigh 0) + 2 * b2n (d.aoHigh 1) + 4 * b2n (d.aoHigh 2) + 8 * b2n (d.aoHigh 3)),
    trim := Vector.ofFn fun i => d.aoTrim i, safe := d.fieldStateSafe, release := release, edge := edge }

/-- The release frame: the channel configuration with the OTP safe-state values as the output state (R268). -/
def releaseFrame (d : Dev) (edge : Nat) : FieldFrame :=
  { d.compose edge true with
    duty := Vector.ofFn fun i => if d.fget (F.FLD_DOCFG_MODE i) = 3 then 0 else d.doSafe i,
    code := Vector.ofFn fun i => (d.aoSafe i).1, alm := 0, safe := true }

/-! ### What the field die drives (R276, R277, R282) -/

/-- The effective code of CODE (R276). -/
def aoEff (d : Dev) (n code : Nat) : Nat :=
  let t := vget d.field.applied.trim n (0, 0)
  let x : Rat := (t.1 : Rat) + ((code : Int) - code4 : Int) * ((t.2 : Int) - t.1 : Int) / ((code20 - code4 : Nat) : Rat)
  (clampI 0 65535 (roundRat x ((Config.openWord d.free).getLsbD 0))).toNat

/-- The selected alarm level of an AO. -/
def aoAlarm (d : Dev) (n : Nat) : Nat := if d.field.applied.almHi.getLsbD n then codeHigh else codeLow

/-- Whether the field die drives its outputs at all (R12, R268, R282). -/
def fieldDrives (d : Dev) : Bool :=
  d.field.power && d.field.released && !d.fbit F.FLD_STAT_VF_UV && !d.field.uvWait

/-- Whether an AO drives an alarm level (R277). -/
def aoAlarmActive (d : Dev) (n : Nat) : Bool :=
  d.fieldDrives && !d.field.silent && ((vget d.field.det n {}).reaction || d.field.applied.alm.getLsbD n)

/-- The code an AO drives. -/
def aoDriven (d : Dev) (n : Nat) : Nat :=
  let safe (x : Nat × Bool) : Nat := if x.2 then d.aoEff n x.1 else x.1
  if !d.fieldDrives then 0
  else if d.field.silent then safe (d.aoSafe n)
  else if (vget d.field.det n {}).reaction then codeLow
  else if d.field.applied.alm.getLsbD n then d.aoAlarm n
  else if d.field.applied.safe then safe (d.aoSafe n)
  else d.aoEff n (vget d.field.applied.code n 0)

/-- The duty a DO drives. -/
def doDriven (d : Dev) (n : Nat) : Nat :=
  if !d.fieldDrives || d.fget F.FLD_DOSTAT_THERM / 2 ^ n % 2 = 1 then 0
  else if d.field.silent then d.doSafe n
  else vget d.field.applied.duty n 0

/-- The registers that show what is driven: FLD_AOCMDn, ALARM_ACTIVE, the trim in use and the pin states. -/
def fieldShow (d : Dev) : Dev :=
  let d := (List.range 4).foldl (fun d n =>
    (((d.fset (F.FLD_AOCMD_EFF n) (d.aoDriven n)).fset (F.FLD_AOCMD_CODE n) (vget d.field.applied.code n 0)).fput
      (F.FLD_AOSTAT_ALARM_ACTIVE n) (d.aoAlarmActive n)).fput (F.FLD_AOSTAT_UTRIM n)
        (d.fbit F.FLD_CTL_UTRIM_EN && !d.fbit (F.FLD_AOCFG_TRIM_SEL n) && (vget d.field.aoUser n none).isSome)) d
  let pins := (List.range 8).foldl (fun k n =>
    let u := d.doDriven n
    k + b2n (decide (u = 65535) || (decide (0 < u) && (Config.openWord d.free).getLsbD n)) * 2 ^ n) 0
  (d.fset F.FLD_DOSTAT_PIN pins).nextFree

/-! ### Output frames (R265 to R269) -/

/-- An event between beats composes a frame; it replaces one that has not begun (R266). -/
def fieldEvent (d : Dev) : Dev :=
  if d.field.released && d.field.power then
    let beat := d.esc.lastBeat.getD 0
    d.modField fun f => { f with pend := some (d.compose (fieldEdge beat (d.tb + 1000)) false) }
  else d

/-- A frame has been sent and reached the field die: it is held until its edge. -/
def fieldSent (d : Dev) (x : FieldFrame) : Dev :=
  d.modField fun f => { f with held := sortBy (fun a b => a.edge ≤ b.edge) (f.held ++ [x]), last := x, lastSent := d.tb }

/-- A frame that was good when it was resent (R23, R265). -/
def linkRetried (d : Dev) : Dev :=
  ((d.finc F.FLD_LINKCNT_RETRIES).tally 0x701).transient 8 |>.raiseRec F.FLD_EVT_LINK_RETRY

/-- A frame that failed twice (R23, R265); none counts while the die is down (R269). -/
def linkFailed (d : Dev) : Dev :=
  let d := (d.finc F.FLD_LINKCNT_RETRIES).tally 0x701
  if d.fbit F.FLD_STAT_DIE_DOWN then d else ((d.raise F.FLD_EVT_LINK_LASTING).lasting 8 7).fldFlt 1 0

/-- The frame of a between-beat event is sent (R266): 0 good; 1 its check failed and the resend is good; 2 both
failed. -/
def sendPend (d : Dev) (res : Nat) : Dev :=
  match d.field.pend with
  | none => d
  | some x =>
    let d := d.modField fun f => { f with pend := none }
    let beat := d.esc.lastBeat.getD 0
    match res with
    | 0 => d.fieldSent x
    | 1 =>
      let e1 := slotsEnd beat d.esc.period 60 3 (x.edge - 1000)
      let e2 := slotsEnd beat d.esc.period 60 3 e1
      (d.fieldSent { x with edge := fieldEdge beat e2 }).linkRetried
    | _ => d.linkFailed

/-- The core releases the field die: configuration, safe-state values and then the output state (R268). The release
frame fares as the output frame of its beat; one that fails twice is sent anew at the next good contact (R23, R265,
DEDUCED, log entry 13). -/
def fieldRelease (d : Dev) : Dev :=
  if !d.field.power then d
  else if d.field.resOut = 2 then d.linkFailed.modField fun f => { f with relDue := true }
  else
    let d := if d.field.resOut = 1 then d.linkRetried else d
    let x := d.releaseFrame (fieldEdge (d.esc.lastBeat.getD 0) (d.tb + 1000))
    let upd (f : FieldSt) : FieldSt :=
      { f with
        uvWait := f.uvWait && d.fbit F.FLD_STAT_VF_UV, released := true, silent := false, held := [], applied := x,
            last := x, lastSent := d.tb, lastGood := d.tb,
        relDue := false }
    ((d.modField upd).fput F.FLD_STAT_RELEASED true).fieldShow

/-- The field die applies each held frame whose edge has come (R266, R267); frames after an expiry are discarded until a
new release. -/
def applyFrames (d : Dev) : Dev :=
  let due := d.field.held.filter fun x => x.edge ≤ d.tb
  let d := d.modField fun f => { f with held := f.held.filter fun x => !(x.edge ≤ d.tb) }
  match due.getLast? with
  | none => d
  | some x =>
    if d.field.silent || !d.field.released || !d.field.power then d
    else
      (d.modField fun f => { f with applied := x, lastGood := max f.lastGood x.edge,
                                    uvWait := if d.fbit F.FLD_STAT_VF_UV then f.uvWait else false }).fieldShow

/-- After 1 ms without a frame the last state is sent again. The frame fares as the next output frame of the link (R23,
R266, DEDUCED, log entry 53). -/
def keepAlive (d : Dev) : Dev :=
  let up := d.st = .stop || d.st = .run || d.st = .safe
  if up && d.field.released && d.field.power && d.field.pend.isNone && d.field.lastSent + 1000000 ≤ d.tb then
    let x := { d.field.last with edge := fieldEdge (d.esc.lastBeat.getD 0) (d.tb + 1000), release := false }
    (d.modField fun f => { f with pend := some x }).sendPend d.field.resOut
  else d

/-- SILENCE expires on the field die's own oscillator, accurate to 5 % (R267). The safe-state values then apply
whether or not an undervoltage has just ended (R282). -/
def silenceExpire (d : Dev) : Dev :=
  if d.field.released && !d.field.silent && d.field.lastGood + 950000 * d.fget F.FLD_SILENCE_MS ≤ d.tb then
    (d.modField fun f => { f with silent := true, held := [], uvWait := false }).fieldShow
  else d

/-- The core hears of an expiry at the first good contact: cause and entry (R267). -/
def silenceReport (d : Dev) : Dev :=
  if d.field.silent && !d.field.relDue then ((d.fldFlt 3 0).raise F.FLD_EVT_SILENCE).occurBlk 6 (7 * 256 + 0x83) 7 else d

/-! ### The input range (R270) -/

/-- AI_Q of a code (Table 11.6). -/
def aiQuality (code : Nat) : Nat :=
  let x := code * 240
  let at_ (tenths : Nat) : Nat := tenths * 65536
  if x ≤ at_ 36 then 6
  else if x < at_ 38 then 5
  else if x ≤ at_ 205 then 0
  else if x < at_ 210 then 9
  else 10

/-- The 32 bytes of the field input range, QUALITY given. -/
def fieldInput (d : Dev) (quality : Nat) : List Byte :=
  let le16 (n : Nat) := leBytes 2 n
  let per4 (f : Nat → Nat) (k : Nat) : List Byte := (List.range 4).flatMap fun n => leBytes k (f n)
  let safe := (List.range 8).foldl (fun k n => k + b2n (d.field.silent || d.fbit F.FLD_STAT_VF_UV) * 2 ^ n) 0
  le16 (d.fget F.FLD_DILIVE_DI) ++ leBytes 1 (d.fget F.FLD_DOSTAT_PIN)
    ++ leBytes 1 (quality + b2n (d.fbit F.FLD_STAT_VF_UV) * 4 + b2n (d.fbit F.FLD_STAT_RELEASED) * 8)
    ++ per4 (fun n => d.fget (F.FLD_AIVAL_CODE n)) 2 ++ per4 (fun n => d.fget (F.FLD_AIVAL_Q n)) 1
    ++ per4 (fun n => d.fget (F.FLD_AOSTAT_READBACK n)) 2
    ++ per4 (fun n => b2n (d.fbit (F.FLD_AOSTAT_OPEN n)) + b2n (d.fbit (F.FLD_AOSTAT_COMPLIANCE n)) * 2
        + b2n (d.aoAlarmActive n) * 4 + b2n (d.field.silent || d.field.applied.safe) * 8) 1
    ++ leBytes 1 (d.fget F.FLD_DOSTAT_OVL) ++ leBytes 1 (d.fget F.FLD_DOSTAT_THERM) ++ leBytes 1 safe ++ [0#8]

/-- The field die is down (R269). -/
def dieDown (d : Dev) : Dev :=
  if 8 ≤ d.field.fails && !d.fbit F.FLD_STAT_DIE_DOWN then
    (((d.fput F.FLD_STAT_DIE_DOWN true).raise F.FLD_EVT_DIE_DOWN).finc F.FLD_LINKCNT_DOWNS).fldFlt 2 0
  else d

/-- The outcome of a beat's input frame for the link (R265, R269): 0 good, 1 good when resent, 2 failed twice. A field
die that answers after a die-down or an expiry, or that is not released, as after a loss of its supply, is released anew
(R12, R267, R269). -/
def inputOutcome (d : Dev) (res : Nat) : Dev :=
  if res ≤ 1 then
    let d := if res = 1 then d.linkRetried else d
    let was := d.fbit F.FLD_STAT_DIE_DOWN
    let d := (d.tally 0x700).modField fun f => { f with fails := 0, quality := 0 }
    let d := d.silenceReport
    if was || !d.field.released || d.field.silent || d.field.relDue then
        (d.fput F.FLD_STAT_DIE_DOWN false).fieldRelease else d
  else
    (d.linkFailed.modField fun f => { f with fails := min 8 (f.fails + 1), quality := 2 }).dieDown

/-- The output frame of a beat (Table 11.1; R265): composed after the publish, applied at 1.0 µs, or at 1.4 µs when
resent; failed twice, the field die keeps what it has. -/
def beatFrame (d : Dev) (beat res : Nat) : Dev :=
  if d.field.released && d.field.power && !d.field.relDue then
    match res with
    | 0 => d.fieldSent (d.compose (beat + 1000) false)
    | 1 => (d.fieldSent (d.compose (beat + 1400) false)).linkRetried
    | _ => d.linkFailed
  else d

/-! ### Digital channels (R272, R273) -/

/-- A filter accepts a level; a rising edge of DI0 to DI7 is an alert. -/
def diAccept (d : Dev) (n : Nat) (level : Bool) : Dev :=
  let old := d.fget F.FLD_DILIVE_DI
  let was := old / 2 ^ n % 2 = 1
  let d := d.fset F.FLD_DILIVE_DI (if level = was then old else if level then old + 2 ^ n else old - 2 ^ n)
  if level && !was && n < 8 then d.alert (16 + n) else d

/-- A bit of a field set or cleared. -/
def setBit (d : Dev) (f : Fld) (n : Nat) (b : Bool) : Dev :=
  let v := d.fget f
  d.fset f (if b then (if v / 2 ^ n % 2 = 1 then v else v + 2 ^ n) else (if v / 2 ^ n % 2 = 1 then v - 2 ^ n else v))

/-- 100 µs in current limit. -/
def overload (d : Dev) (n : Nat) : Dev := ((d.setBit F.FLD_DOSTAT_OVL n true).raise F.FLD_EVT_OVERLOAD).tally 0x702

/-- 1 ms out of current limit. -/
def overloadClear (d : Dev) (n : Nat) : Dev := d.setBit F.FLD_DOSTAT_OVL n false

/-- A junction reaches 170 °C. -/
def thermalShutdown (d : Dev) (n : Nat) : Dev :=
  let d := d.setBit F.FLD_DOSTAT_THERM n true
  let d := d.modField fun f => { f with hot := f.hot ||| (1#8 <<< n) }
  let d := ((d.raiseRec F.FLD_EVT_THERMAL).tally 0x703)
  (if d.fbit (F.FLD_DOCFG_LATCH n) then d.fldFlt 5 n else d).fieldShow

/-- A junction has cooled below 150 °C: in auto-restart mode the channel switches on again. -/
def thermalRestart (d : Dev) (n : Nat) : Dev :=
  let d := d.modField fun f => { f with hot := f.hot &&& ~~~ (1#8 <<< n) }
  (if d.fbit (F.FLD_DOCFG_LATCH n) then d else d.setBit F.FLD_DOSTAT_THERM n false).fieldShow

/-- A write of FLD_DORESTART. -/
def doRestart (d : Dev) (v : Nat) : Dev :=
  ((List.range 8).foldl (fun d n =>
    if v / 2 ^ n % 2 = 1 && d.fbit (F.FLD_DOCFG_LATCH n) && !d.field.hot.getLsbD n then
      d.setBit F.FLD_DOSTAT_THERM n false
    else d) d).fieldShow

/-! ### Current-loop channels (R275 to R280) -/

/-- One 25 µs evaluation of an AO: readback code and headroom in mV (R278). -/
def aoEvaluate (d : Dev) (n rb head : Nat) : Dev :=
  let rb := min rb 65535
  let d := (d.fset (F.FLD_AOSTAT_READBACK n) rb).fset (F.FLD_AOHEAD_HEAD n) (min head 65535)
  let d := d.fput (F.FLD_AOSTAT_HEAD_LOW n) (head < 1500)
  let x := vget d.field.det n {}
  let code := vget d.field.applied.code n 0
  let set (d : Dev) (x : AoDet) : Dev := d.modField fun f => { f with det := f.det.setIfInBounds n x }
  let isOpen := decide (0x0800 ≤ code) && decide (rb * 240 < 131072)
  let x := if isOpen then { x with openN := min 40 (x.openN + 1), clearN := 0 }
    else { x with openN := 0, clearN := min 40 (x.clearN + 1) }
  let was := d.fbit (F.FLD_AOSTAT_OPEN n)
  let d :=
    if !was && x.openN = 40 then ((d.fput (F.FLD_AOSTAT_OPEN n) true).raiseRec F.FLD_EVT_OPEN).tally 0x705
    else if was && x.clearN = 40 then d.fput (F.FLD_AOSTAT_OPEN n) false
    else d
  if d.fbit (F.FLD_AOSTAT_OPEN n) then set d { x with failN := 0, passN := 0 }
  else
    let dev := if code ≤ rb then rb - code else code - rb
    let bad := decide (131072 < dev * 240) && decide (head < 1500)
    let x := if bad then { x with failN := min 41 (x.failN + 1), passN := 0 }
      else { x with failN := 0, passN := min 41 (x.passN + 1) }
    let comp := d.fbit (F.FLD_AOSTAT_COMPLIANCE n)
    if !comp && x.failN = 41 then
      let d := ((d.fput (F.FLD_AOSTAT_COMPLIANCE n) true).raiseRec F.FLD_EVT_COMPLIANCE).tally 0x704
      (set d { x with reaction := d.fbit (F.FLD_AOCFG_REACT n) }).fieldShow
    else if comp && !x.reaction && !d.fbit (F.FLD_AOCFG_REACT n) && x.passN = 41 then
      (set (d.fput (F.FLD_AOSTAT_COMPLIANCE n) false) x).fieldShow
    else set d x

/-- 1 written to COMPLIANCE (R278). -/
def complianceClear (d : Dev) (n : Nat) : Dev :=
  let d := d.fput (F.FLD_AOSTAT_COMPLIANCE n) false
  (d.modField fun f => { f with det := f.det.setIfInBounds n {} }).fieldShow

/-- The trim points of an AI in use: the raw codes that read at 4 mA and at 20 mA. -/
def aiTrim (d : Dev) (n : Nat) : Nat × Nat :=
  let w := (vget d.factory.aiTrim n 0).toNat
  let f := (w % 65536, w / 65536)
  if d.fbit F.FLD_CTL_UTRIM_EN then (vget d.field.aiUser n none).getD f else f

/-- The code of a raw AI code (R276): the line through the two trim points; equal points state no line. -/
def aiCode (d : Dev) (n raw : Nat) : Nat :=
  let t := d.aiTrim n
  if t.1 = t.2 then (Config.openWord d.free).toNat % 65536
  else
    let x : Rat := (code4 : Rat) + ((raw : Int) - t.1 : Int) * ((code20 - code4 : Nat) : Rat) / ((t.2 : Int) - t.1 : Int)
    (clampI 0 65535 (roundRat x ((Config.openWord d.free).getLsbD 0))).toNat

/-- One 25 µs conversion of an AI (R280). -/
def aiConvert (d : Dev) (n raw : Nat) : Dev :=
  if !d.fbit (F.FLD_AICFG_EN n) then
    (d.fset (F.FLD_AIVAL_Q n) 3).modField fun f => { f with aiSum := f.aiSum.setIfInBounds n (0, 0) }
  else
    let s := vget d.field.aiSum n (0, 0)
    let s := (s.1 + min raw 65535, s.2 + 1)
    let need := 4 ^ d.fget (F.FLD_AICFG_AVG n)
    if s.2 < need then d.modField fun f => { f with aiSum := f.aiSum.setIfInBounds n s }
    else
      let code := d.aiCode n (s.1 / s.2)
      let q := aiQuality code
      let was := d.fget (F.FLD_AIVAL_Q n) % 4
      let d := ((d.nextFree.fset (F.FLD_AIVAL_CODE n) code).fset (F.FLD_AIVAL_Q n) q).modField fun f =>
        { f with aiSum := f.aiSum.setIfInBounds n (0, 0) }
      if q % 4 = 2 && was ≠ 2 then d.raise F.FLD_EVT_AI_FAULT else d

/-! ### Supply (R282) -/

/-- VFIELD below 16.5 V. -/
def vfUv (d : Dev) : Dev :=
  let d := (d.fput F.FLD_STAT_VF_UV true).raise F.FLD_EVT_VF_UV
  (if d.st = .run then d.fldFlt 4 0 else d).fieldShow

/-- VFIELD above 17.5 V for 10 ms: the outputs return at the next output frame, after a silence expiry at once with
their safe-state values (R282). -/
def vfUvRecover (d : Dev) : Dev :=
  if d.fbit F.FLD_STAT_VF_UV || !d.field.power then
    ((d.fput F.FLD_STAT_VF_UV false).modField fun f => { f with uvWait := !f.silent, power := true }).fieldShow
  else d

/-- VFIELD below about 9 V: the field die loses its state (R269). -/
def vfieldLoss (d : Dev) : Dev :=
  let upd (f : FieldSt) : FieldSt :=
    { f with
      power := false, released := false, silent := false, held := [], pend := none, applied := {},
      det := Vector.replicate 4 {}, hot := 0 }
  let off (x : SafeSt) : SafeSt := { x with dieSq := 0, dieOpen := true }
  let d := (({ d.modField upd with safe := off d.safe }).fset F.FLD_DOSTAT_THERM 0).fset F.FLD_DOSTAT_OVL 0
  let d := (List.range 4).foldl (fun (d : Dev) n => d.fput (F.FLD_AOSTAT_OPEN n) false) d
  (d.fput F.FLD_STAT_RELEASED false).fieldShow

/-! ### Configuration (R283) -/

/-- A field kept at its old value because a reserved code was written. -/
def keepField (before d : Dev) (f : Fld) (bad : Bool) : Dev :=
  if bad then (d.fset f (before.fget f)).fput F.FLD_STAT_CFG_REFUSED true else d

/-- The consequences of a write to a FIELD configuration register: reserved codes are refused field by field, ALM_HI
follows its override, and the change takes effect at the next output frame. -/
def fieldCfg (before d : Dev) (addr : Nat) : Dev :=
  let d := (List.range 2).foldl (fun d k =>
    if addr = A.FLD_DIFLT k then
      (List.range 8).foldl (fun d i =>
        let f : Fld := ⟨A.FLD_DIFLT k, 3 * i + 2, 3 * i⟩
        keepField before d f (4 < d.fget f)) d
    else d) d
  let d := (List.range 8).foldl (fun d n =>
    if addr = A.FLD_DOCFG n then keepField before d (F.FLD_DOCFG_PERIOD n) (d.fget (F.FLD_DOCFG_PERIOD n) < 100) else d) d
  let d := (List.range 4).foldl (fun d n =>
    if addr = A.FLD_AOCFG n && !d.fbit (F.FLD_AOCFG_ALM_OVR n) then d.fput (F.FLD_AOCFG_ALM_HI n) (d.cfgBit 52 n)
    else d) d
  (d.fieldEvent).fieldShow

end Dev

namespace Core

/-- The user trim record of a key, when the records area holds one: two 16-bit codes (R276). -/
def userTrim (c : Core) (key : Nat) : Core × Option (Nat × Nat) :=
  let x := soundRecord 1024 c fun r => r.key = key
  match x.2 with
  | some (r, bs) => (x.1, if r.len = 4 then some (leNat (bs.take 2), leNat (bs.drop 2)) else none)
  | none => (x.1, none)

/-- The user trim record of one AO is read again (R276). -/
def trimReload (c : Core) (n : Nat) : Core :=
  let x := c.userTrim (0x46444100 + n)
  let c := x.1.onDev fun d => d.modField fun f => { f with aoUser := f.aoUser.setIfInBounds n x.2 }
  c.onDev fun d =>
    let used := x.2.isSome && d.fbit F.FLD_CTL_UTRIM_EN && !d.fbit (F.FLD_AOCFG_TRIM_SEL n)
    (if used then d.raise F.FLD_EVT_UTRIM_LOADED else d).fieldEvent.fieldShow

/-- The user trim records are read when the start-up scan completes (R276). -/
def trimLoad (c : Core) : Core :=
  let add (s : Core × List (Option (Nat × Nat))) (key : Nat) : Core × List (Option (Nat × Nat)) :=
    let x := s.1.userTrim key
    (x.1, s.2 ++ [x.2])
  let x := ((List.range 8).map fun i => 0x46444100 + i / 4 * 0x800 + i % 4).foldl add (c, [])
  let ao := Vector.ofFn fun (i : Fin 4) => x.2.getD i none
  let ai := Vector.ofFn fun (i : Fin 4) => x.2.getD (4 + i) none
  x.1.onDev fun d =>
    let d := d.modField fun f => { f with aoUser := ao, aiUser := ai }
    let any := x.2.any Option.isSome
    let d := d.fput F.FLD_STAT_UTRIM_LOADED true
    (if any && d.fbit F.FLD_CTL_UTRIM_EN then d.raise F.FLD_EVT_UTRIM_LOADED else d).fieldEvent.fieldShow

/-- The field ranges are frozen at a beat (Table 2.1, step 5; R265): a frame that failed twice leaves the old bytes with
QUALITY bad. -/
def fieldFreeze (c : Core) : Core :=
  let dead := !c.dev.field.power
  let res := if dead then 2 else c.dev.field.resIn.getD 0
  let c := c.onDev fun d => (d.modField fun f => { f with resIn := none }).inputOutcome res
  match (c.dev.ioRecs 1).head? with
  | none => c
  | some r =>
    if res ≤ 1 then c.put r.start ((c.dev.fieldInput 0).take r.len)
    else
      let old := (c.mem.cells.read (r.start + 3)).toNat
      c.put (r.start + 3) [BitVec.ofNat 8 (old - old % 4 + 2)]

end Core

end Sys2Proof.Machine
end

