-- ==== Sys2Proof/Machine/Safe.lean ====
section
/-! DEFINITION. SAFE (R300 to R324): the safety block, the lane, safety inputs, axis states, STO and SS1, the encoders
and safe motion, the safety outputs and the safety reset. -/

namespace Sys2Proof.Machine

namespace Dev

/-- SAFE's state changed. -/
def modSafe (d : Dev) (f : SafeSt → SafeSt) : Dev := { d with safe := f d.safe }

/-- One axis. -/
def axis (d : Dev) (a : Nat) : AxisSt := vget d.safe.axes a {}

/-- One axis changed. -/
def modAxis (d : Dev) (a : Nat) (f : AxisSt → AxisSt) : Dev :=
  d.modSafe fun s => { s with axes := s.axes.setIfInBounds a (f (vget s.axes a {})) }

/-! ### The safety block (R321, R322) -/

/-- A little-endian field of the safety block. -/
def spLe (d : Dev) (i n : Nat) : Nat := d.cfgLe (256 + i) n

/-- A little-endian field of an axis record (Table 13.6). -/
def axLe (d : Dev) (a i n : Nat) : Nat := d.spLe (8 + 56 * a + i) n

/-- A bit of AXCFG. -/
def axBit (d : Dev) (a b : Nat) : Bool := (BitVec.ofNat 8 (d.axLe a 0 1)).getLsbD b

/-- The SICFG byte of an input. -/
def siCfg (d : Dev) (n : Nat) : Nat := d.spLe (120 + n) 1

/-- FUNC of an input. -/
def siFunc (d : Dev) (n : Nat) : Nat := d.siCfg n % 16

/-- The STP output an input is tied to: 0 none, 1 STP0, 2 STP1. -/
def siStp (d : Dev) (n : Nat) : Nat := d.siCfg n / 16 % 4

/-- Whether an even input is paired with the next odd one. -/
def siDual (d : Dev) (n : Nat) : Bool := n % 2 = 0 && d.siCfg n / 64 % 2 = 1

/-- The axes an output is mapped to (Table 13.5). -/
def sqAxes (d : Dev) (n : Nat) : List Nat :=
  match d.spLe 136 1 / 4 ^ n % 4 with
  | 0 => [0]
  | 1 => [1]
  | 2 => [0, 1]
  | _ => []

/-- Whether an axis record lies in its ranges. -/
def axValid (d : Dev) (a : Nat) : Bool :=
  let zero (i n : Nat) : Bool := d.axLe a i n = 0
  let bits := d.axLe a 1 1
  let clk := d.axLe a 2 1
  12 ≤ bits && bits ≤ 32 && 1 ≤ clk && clk ≤ 20 && bits * 10 ≤ 180 * clk
    && zero 3 1 && zero 30 2 && d.axLe a 40 1 ≤ 1 && zero 41 1 && zero 48 8

/-- SSIG as computed over bytes 0 to 187. -/
def sigComputed (d : Dev) : Nat :=
  (crc32c ((List.range 188).map fun i => BitVec.ofNat 8 (d.spLe i 1))).toNat

/-- Whether the block is valid (R322). -/
def blockValid (d : Dev) : Bool :=
  let inputs := (List.range 8).all fun n =>
    d.siFunc n ≤ 0xB && d.siStp n ≤ 2 && d.siCfg n < 128 && (n % 2 = 0 || d.siCfg n / 64 = 0)
  d.spLe 4 1 = 1 && d.spLe 5 3 = 0 && d.axValid 0 && d.axValid 1 && inputs
    && 10 ≤ d.spLe 130 2 && d.spLe 130 2 ≤ 1000
    && ((List.range 4).all fun p => 1 ≤ d.spLe (132 + p) 1 && d.spLe (132 + p) 1 ≤ 50)
    && 15 ≤ d.spLe 137 1 && d.spLe 137 1 ≤ 60 && 50 ≤ d.spLe 138 2 && d.spLe 138 2 ≤ 1000
    && d.spLe 140 48 = 0 && d.spLe 188 4 = d.sigComputed

/-- Whether an axis is configured. -/
def axConfigured (d : Dev) (a : Nat) : Bool := d.axBit a 7

/-! ### Recording (R302) -/

/-- A privileged entry of the safety-trips source: SAF_FLT cause or 0, and the number of the event bit. -/
def safEntry (d : Dev) (cause bit : Nat) : Dev := d.occurBlk 3 (cause * 256 + bit) 9

/-- The first lasting fault since power-on. -/
def safFlt (d : Dev) (cause place : Nat) : Dev :=
  if d.fget F.SAF_FLT_CAUSE = 0 then (d.fset F.SAF_FLT_CAUSE cause).fset F.SAF_FLT_WHERE place else d

/-- A lasting fault with its event bit. -/
def safLasting (d : Dev) (f : Fld) (cause place : Nat) : Dev := ((d.safFlt cause place).raise f).safEntry cause f.lo

/-! ### Channels and demands (R306, R307) -/

/-- Whether the input itself reads 1 on the core side. -/
def siRead (d : Dev) (n : Nat) : Bool := d.fget F.SAF_SI_FILT / 2 ^ n % 2 = 1

/-- Whether an input is the first of its channel. -/
def isChannel (d : Dev) (n : Nat) : Bool := n % 2 = 0 || !d.siDual (n - 1)

/-- The fault that makes a channel demand: 5 test pulse, 6 discrepancy, 0 none. -/
def chanFault (d : Dev) (n : Nat) : Nat :=
  let tpf := d.fget F.SAF_SI_TPF
  if tpf / 2 ^ n % 2 = 1 || (d.siDual n && tpf / 2 ^ (n + 1) % 2 = 1) then 5
  else if d.siDual n && d.safe.disc.getLsbD (n / 2) then 6 else 0

/-- Whether a channel reads 1 by its inputs. -/
def chanReads (d : Dev) (n : Nat) : Bool := d.siRead n && (!d.siDual n || d.siRead (n + 1))

/-- Whether a channel demands. -/
def chanDemands (d : Dev) (n : Nat) : Bool := !d.chanReads n || d.chanFault n ≠ 0

/-- The fault causes behind the demanding channels whose FUNC is one of `fs`, 0 for a plain demand. -/
def chanCauses (d : Dev) (fs : List Nat) : List Nat :=
  ((List.range 8).filter fun n => d.isChannel n && fs.contains (d.siFunc n) && d.chanDemands n).map d.chanFault

/-- A bit of a request field of SAF_REQ. -/
def reqBit (d : Dev) (f : Fld) (a : Nat) : Bool := d.fget f / 2 ^ a % 2 = 1

/-- Whether RUN_LOSS is requested (R316): in STOP and in SAFE. -/
def runLost (d : Dev) : Bool := d.st = .stop || d.st = .safe

/-- The active STO demands on an axis, each by its SAF_FLT cause or 0. -/
def stoCauses (d : Dev) (a : Nat) : List Nat :=
  let on (b : Bool) (c : Nat) : List Nat := if b then [c] else []
  d.chanCauses [1 + a, 3] ++ on (d.reqBit F.SAF_REQ_STO a) 0 ++ on (d.runLost && d.axBit a 3) 0
    ++ on (d.paired && !d.isHolder) 0 ++ on d.safe.laneBad 2 ++ on d.safe.sigBad 3
    ++ on (3 ≤ (d.axis a).failN) 4 ++ on (d.axis a).violSto 0

/-- The active SS1 demands on an axis. -/
def ss1Causes (d : Dev) (a : Nat) : List Nat :=
  let on (b : Bool) : List Nat := if b then [0] else []
  d.chanCauses [4 + a, 6] ++ on (d.reqBit F.SAF_REQ_SS1 a) ++ on (d.runLost && !d.axBit a 3) ++ on (d.axis a).violSs1

/-- The cause that counts among demands: a fault before a plain demand. -/
def worstCause (cs : List Nat) : Nat := (cs.find? fun c => c ≠ 0).getD 0

/-- The SLS limit with an index. -/
def slsLimit (d : Dev) (a i : Nat) : Nat := d.axLe a (24 + 2 * (i - 1)) 2

/-- The SLS index in force: of the indexes the inputs and the program select, the one with the smallest limit (R307). -/
def slsIndex (d : Dev) (a : Nat) : Nat :=
  let chan := b2n (!(d.chanCauses [7]).isEmpty) + 2 * b2n (!(d.chanCauses [8]).isEmpty)
  let req := if a = 0 then d.fget F.SAF_REQ_SLS0 else d.fget F.SAF_REQ_SLS1
  if chan = 0 then req
  else if req = 0 then chan
  else if d.slsLimit a req < d.slsLimit a chan then req else chan

/-- Whether SLP is active. -/
def slpActive (d : Dev) (a : Nat) : Bool := !(d.chanCauses [9]).isEmpty || d.reqBit F.SAF_REQ_SLP a

/-- Whether SDI is active. -/
def sdiActive (d : Dev) (a : Nat) : Bool := !(d.chanCauses [0xA]).isEmpty || d.reqBit F.SAF_REQ_SDI a

/-! ### Axis states (R308, R309) -/

/-- STATE of an axis. -/
def axState (d : Dev) (a : Nat) : Nat := d.fget (F.SAF_AX_STATE a)

/-- The speed v of an axis, signed counts/ms. -/
def axSpeed (d : Dev) (a : Nat) : Int := signed 16 (d.fget (F.SAF_AX_SPEED a))

/-- An axis enters STO with a cause. -/
def enterSto (d : Dev) (a cause : Nat) : Dev :=
  let d := (d.fset (F.SAF_AX_STATE a) 2).fset (F.SAF_AX_CAUSE a) cause
  let d := d.modAxis a fun x => { x with faulted := decide (cause ≠ 0) }
  (((d.raise F.SAF_EVT_STO).safEntry cause 0)).tally 0x903

/-- An axis is latched. -/
def latchAxis (d : Dev) (a : Nat) : Dev :=
  (d.fset (F.SAF_AX_STATE a) 3).modAxis a fun x => { x with latch := true, faulted := false }

/-- 64 times the SS1 envelope at evaluation `n` after t0 (R309). -/
def ss1Env (d : Dev) (a n : Nat) : Int :=
  let env : Int := 64 * (d.axis a).ss1V0 + 64 * d.axLe a 14 2 - d.axLe a 12 2 * ((n : Int) - 4 * d.axLe a 18 2).toNat
  let stand : Int := 64 * d.axLe a 16 2
  if env < stand then stand else env

/-- One evaluation of SS1, `n` of 250 µs after t0 (R309). -/
def ss1Check (d : Dev) (a : Nat) : Dev :=
  let x := d.axis a
  let v : Int := (d.axSpeed a).natAbs
  let enc := d.axBit a 0
  let still := enc && decide (v ≤ d.axLe a 16 2)
  let since := if still then some (x.standAt.getD x.ss1N) else none
  let d := d.modAxis a fun x => { x with standAt := since }
  let held := match since with
    | some n0 => decide (4 * d.axLe a 22 2 ≤ x.ss1N - n0)
    | none => false
  if enc && decide (d.ss1Env a x.ss1N < 64 * v) then (d.safFlt 8 a).enterSto a 8
  else if held || decide (4 * d.axLe a 20 2 ≤ x.ss1N) then d.enterSto a x.ss1Fault
  else d

/-- SS1 starts at t0. -/
def startSs1 (d : Dev) (a cause : Nat) : Dev :=
  let d := (d.fset (F.SAF_AX_STATE a) 1).modAxis a fun x =>
    { x with ss1N := 0, ss1V0 := d.axSpeed a, standAt := none, ss1Fault := cause }
  ((d.raise F.SAF_EVT_SS1).tally 0x904).ss1Check a

/-- The transitions of an axis that the demands of this instant cause (R308). -/
def settleAxis (d : Dev) (a : Nat) : Dev :=
  let sto := d.stoCauses a
  let ss1 := d.ss1Causes a
  let st := d.axState a
  let x := d.axis a
  if d.safe.absent then d.fset (F.SAF_AX_STATE a) 4
  else if !d.safe.blockOk then d.fset (F.SAF_AX_STATE a) 3
  else if !d.axConfigured a then d.fset (F.SAF_AX_STATE a) 4
  else if !sto.isEmpty then
    let c := worstCause sto
    let d := if st ≠ 2 then d.enterSto a c
      else if c ≠ 0 && !x.faulted then (d.fset (F.SAF_AX_CAUSE a) c).modAxis a fun x => { x with faulted := true }
      else d
    if d.paired && !d.isHolder then d.modAxis a fun x => { x with latch := true } else d
  else if st = 2 && ss1.isEmpty then
    if d.axBit a 2 && !x.latch && !x.faulted then d.fset (F.SAF_AX_STATE a) 0 else d.latchAxis a
  else if st = 0 && !ss1.isEmpty then d.startSs1 a (worstCause ss1)
  else d

/-- The registers that show the motion functions and the commanded outputs (R307, R315): an output is on while each of
its axes has torque and the cut-off is closed. -/
def safShow (d : Dev) : Dev :=
  let d := (List.range 2).foldl (fun d a =>
    let i := if d.safe.blockOk then d.slsIndex a else 0
    let act := d.safe.blockOk && d.axConfigured a
    let d := d.fset (F.SAF_AX_SLS_IDX a) i
    let d := d.fset (F.SAF_AX_ACT a)
      (4 * b2n (act && i ≠ 0) + 2 * b2n (act && d.slpActive a) + b2n (act && d.sdiActive a))
    let on := act && d.sdiActive a
    d.modAxis a fun x => { x with sdiBase := if on then some (x.sdiBase.getD x.inc) else none }) d
  let sq (n : Nat) : Bool :=
    d.safe.blockOk && !d.fbit F.SAF_STAT_CUTOFF_OPEN && !(d.sqAxes n).isEmpty
      && (d.sqAxes n).all fun a => d.axState a ≤ 1
  let d := d.fset F.SAF_STAT_SQ ((List.range 4).foldl (fun k n => k + b2n (sq n) * 2 ^ n) 0)
  d.fput F.SAF_STAT_PARAM_OK (d.safe.blockOk && !d.safe.sigBad)

/-- Every consequence of a change of demands. -/
def safSettle (d : Dev) : Dev := ((d.settleAxis 0).settleAxis 1).safShow

/-! ### The encoders and safe motion (R311 to R314) -/

/-- A Gray word as binary, over `n` bits. -/
def grayToBin : Nat → Nat → Nat
  | 0, _ => 0
  | n + 1, g =>
    let hi := grayToBin n (g / 2)
    hi * 2 + (hi % 2 + g % 2) % 2

/-- The position P of an axis. -/
def axPos (d : Dev) (a : Nat) : Nat :=
  let bits := d.axLe a 1 1
  let w := (d.axis a).ssi.toNat % 2 ^ bits
  if d.axBit a 1 then grayToBin bits w else w

/-- A value reduced into ±2^(bits − 1), in 65,536ths. -/
def wrapPos (bits : Nat) (x : Int) : Int :=
  let m : Int := 2 ^ bits * 65536
  let r := x % m
  if 2 * r < m then r else r - m

/-- dev of an axis in 65,536ths (R313). -/
def encDev (d : Dev) (a : Nat) : Nat :=
  let x := d.axis a
  let bits := d.axLe a 1 1
  let inc := signed 32 (x.inc - x.inc0).toNat
  (wrapPos bits (inc * d.axLe a 4 4) - wrapPos bits (((d.axPos a : Int) - x.ssi0) * 65536)).natAbs

/-- The reference points are captured (R313). -/
def encCapture (d : Dev) (a : Nat) : Dev :=
  let p := d.axPos a
  d.modAxis a fun x => { x with inc0 := x.inc, ssi0 := p, z1 := none, failN := 0 }

/-- Whether a Z pulse lies off the first one (R313). -/
def zOff (d : Dev) (a : Nat) (z : Option Word) : Bool :=
  let rev := d.axLe a 44 4
  match z, (d.axis a).z1 with
  | some w, some w1 =>
    let m := ((signed 32 (w - w1).toNat) % (rev : Int)).toNat
    rev ≠ 0 && 2 < m && m + 2 < rev
  | _, _ => false

/-- A violation of a safe motion function: its event, its entry and its request (R314). -/
def violation (d : Dev) (a : Nat) (bad : Bool) (f : Fld) (react : Nat) : Dev :=
  if bad then
    let sto := d.axBit a react
    ((d.raise f).safEntry 0 f.lo).modAxis a fun x =>
      { x with violSto := x.violSto || sto, violSs1 := x.violSs1 || !sto }
  else d

/-- One evaluation of an axis every 250 µs: speed, cross-check and the safe motion functions (R312 to R314).
`illegal`: an illegal transition since the last evaluation; `z`: the count at a Z pulse since then. -/
def encEvaluate (d : Dev) (a : Nat) (illegal : Bool) (z : Option Word) : Dev :=
  if !d.safe.blockOk || !d.axConfigured a || !d.axBit a 0 then d
  else
    let x := d.axis a
    let before := x.hist.getD 3 (x.hist.getLastD 0)
    let v := signed 32 (x.inc - before).toNat
    let d := d.fset (F.SAF_AX_SPEED a) (unsigned 16 v)
    let d := d.modAxis a fun x => { x with hist := (x.inc :: x.hist).take 4, violSto := false, violSs1 := false }
    let p := d.axPos a
    let d := d.fset (F.SAF_POS_P a) p
    let dev := d.encDev a
    let up := b2n (decide (dev % 65536 ≠ 0) && (Config.openWord d.free).getLsbD 0)
    let d := (d.fset (F.SAF_DEV_DEV a) (dev / 65536 + up)).nextFree
    let off := d.zOff a z
    let d := d.modAxis a fun x => { x with z1 := x.z1.orElse fun _ => z }
    let bad := decide (65536 * d.axLe a 8 4 < dev) || x.ssiBad || illegal || off
    let d := d.fput (F.SAF_AX_ENC_OK a) !bad
    let was := (d.axis a).failN
    let d := d.modAxis a fun x => { x with failN := if bad then min 3 (x.failN + 1) else 0 }
    let d := if bad && was = 2 then d.safLasting F.SAF_EVT_ENC_FAULT 4 a else d
    let i := d.slsIndex a
    let d := d.violation a (i ≠ 0 && decide ((d.slsLimit a i : Int) < v.natAbs)) F.SAF_EVT_SLS_VIOL 4
    let out := decide ((p : Int) < signed 32 (d.axLe a 32 4)) || decide (signed 32 (d.axLe a 36 4) < p)
    let d := d.violation a (d.slpActive a && out) F.SAF_EVT_SLP_VIOL 5
    let move : Int := match (d.axis a).sdiBase with
      | some b => signed 32 (x.inc - b).toNat
      | none => 0
    let forbidden := if d.axLe a 40 1 = 0 then -move else move
    let d := d.violation a (d.sdiActive a && decide ((d.axLe a 42 2 : Int) < forbidden)) F.SAF_EVT_SDI_VIOL 6
    d.safSettle

/-- One evaluation of SS1 on an axis (R309). -/
def ss1Evaluate (d : Dev) (a : Nat) : Dev :=
  if d.axState a = 1 then ((d.modAxis a fun x => { x with ss1N := x.ss1N + 1 }).ss1Check a).safSettle else d

/-- An SSI word is clocked in on the field die; `ok` says that the data line was high before the first clock and low
after the last (R311). -/
def ssiFrame (d : Dev) (a : Nat) (w : Word) (ok : Bool) : Dev :=
  d.modSafe fun s => { s with dieSsi := s.dieSsi.setIfInBounds a (w, !ok) }

/-! ### Inputs (R304 to R306) -/

/-- A safety input filter accepts a level on the field die; in a blanking window of its STP output it keeps the old
one. -/
def siAccept (d : Dev) (n : Nat) (level : Bool) : Dev :=
  let stp := d.siStp n
  if d.safe.blockOk && stp ≠ 0 && d.tb < vget d.safe.dieBlank (stp - 1) 0 then d
  else d.modSafe fun s =>
    { s with
      dieFilt := if level then s.dieFilt ||| (1#8 <<< n) else s.dieFilt &&& ~~~ (1#8 <<< n),
      dieAt := d.tb }

/-- The inputs tied to an STP output (0 or 1). -/
def tied (d : Dev) (stp : Nat) : List Nat := (List.range 8).filter fun n => d.siStp n = stp + 1

/-- An STP output is pulsed low; `low` holds the inputs that read low within 150 µs (R305). -/
def testPulse (d : Dev) (stp : Nat) (low : BitVec 8) : Dev :=
  if !d.safe.blockOk then d
  else
    let d := d.modSafe fun s => { s with dieBlank := s.dieBlank.setIfInBounds stp (d.tb + 300000) }
    (d.tied stp).foldl (fun d n =>
      if low.getLsbD n then d.modSafe fun s => { s with tpGood := s.tpGood ||| (1#8 <<< n) }
      else (d.modSafe fun s => { s with tpMiss := s.tpMiss ||| (1#8 <<< n) }).tally 0x905) d

/-- The extra pulse for the inputs that missed one (R305). -/
def testPulseExtra (d : Dev) (stp : Nat) (low : BitVec 8) : Dev :=
  if !d.safe.blockOk || (d.tied stp).all fun n => !d.safe.tpMiss.getLsbD n then d
  else
    let d := d.modSafe fun s => { s with dieBlank := s.dieBlank.setIfInBounds stp (d.tb + 300000) }
    let d := (d.tied stp).foldl (fun d n =>
      if !d.safe.tpMiss.getLsbD n then d
      else
        let d := d.modSafe fun s => { s with tpMiss := s.tpMiss &&& ~~~ (1#8 <<< n) }
        if low.getLsbD n then d.modSafe fun s => { s with tpGood := s.tpGood ||| (1#8 <<< n) }
        else
          let d := (d.setBit F.SAF_SI_TPF n true).modSafe fun s => { s with tpGood := s.tpGood &&& ~~~ (1#8 <<< n) }
          (d.safLasting F.SAF_EVT_TP_FAULT 5 n).tally 0x905) d
    d.safSettle

/-- The states that follow the inputs: how long dual inputs differ, latched pairs that read 0 together, and the edges of
reset inputs. -/
def inputsFollow (before d : Dev) : Dev :=
  let d := (List.range 4).foldl (fun d p =>
    if d.siDual (2 * p) then
      let x := d.siRead (2 * p)
      let y := d.siRead (2 * p + 1)
      let since := if x ≠ y then some ((vget d.safe.diffAt p none).getD d.tb) else none
      let zero := d.safe.disc.getLsbD p && !x && !y
      d.modSafe fun s =>
        { s with
          diffAt := s.diffAt.setIfInBounds p since,
          discZero := if zero then s.discZero ||| (1#4 <<< p) else s.discZero }
    else d) d
  (List.range 8).foldl (fun d n =>
    if d.isChannel n && d.siFunc n = 0xB then
      if d.chanReads n && !before.chanReads n then
        d.modSafe fun s => { s with riseAt := s.riseAt.setIfInBounds n (some d.tb) }
      else if !d.chanReads n && before.chanReads n then
        let pulse := match vget d.safe.riseAt n none with
          | some t => decide (t + 100000000 ≤ d.tb) && decide (d.tb ≤ t + 2000000000)
          | none => false
        d.modSafe fun s =>
          { s with
            riseAt := s.riseAt.setIfInBounds n none, resetPend := s.resetPend || pulse }
      else d
    else d) d

/-- A pair has differed for longer than its DISC (R306), counted on domain 12 with its tolerance of 5 %. -/
def discrepancy (d : Dev) (p : Nat) : Dev :=
  match vget d.safe.diffAt p none with
  | none => d
  | some t =>
    if d.safe.blockOk && d.siDual (2 * p) && !d.safe.disc.getLsbD p && t + 9500000 * d.spLe (132 + p) 1 < d.tb then
      let d := d.modSafe fun s =>
        { s with
          disc := s.disc ||| (1#4 <<< p), discZero := s.discZero &&& ~~~ (1#4 <<< p) }
      (d.safLasting F.SAF_EVT_DISC 6 (2 * p)).safSettle
    else d

/-! ### The lane (R303) -/

/-- The slot of an inbound frame: a frame or none. Two consecutive failures set both axes to STO. -/
def laneInbound (d : Dev) (f : Option LaneIn) : Dev :=
  let d := d.tally 0x900
  let good := match f with
    | some x => x.crc && (d.safe.laneIn.isNone || d.safe.laneIn = some x.cnt)
    | none => false
  let next := match f with
    | some x => if x.crc then some (x.cnt + 1) else d.safe.laneIn.map (· + 1)
    | none => d.safe.laneIn.map (· + 1)
  let was := d.safe.laneFail
  let d := d.modSafe fun s => { s with laneIn := next, laneFail := !good }
  match f, good with
  | some x, true =>
    let before := d
    let uv := d.fbit F.FLD_STAT_VF_UV
    let filt := if uv then 0 else d.safe.dieFilt
    let d := ((d.fset F.SAF_SI_FILT filt.toNat).fset F.SAF_SI_RAW (if uv then 0 else x.raw.toNat)).fset
      F.SAF_OP_READBACK x.readback.toNat
    let word (a : Nat) : Word × Bool := vget d.safe.dieSsi a (0, false)
    let d := d.modAxis 0 fun y => { y with inc := x.inc0, ssi := (word 0).1, ssiBad := (word 0).2 }
    let d := d.modAxis 1 fun y => { y with inc := x.inc1, ssi := (word 1).1, ssiBad := (word 1).2 }
    let d := (d.modSafe fun s => { s with laneBad := false }).fput F.SAF_STAT_LANE_OK true
    let d := inputsFollow before d
    let sto0 := d.axState 0 = 2
    let sto1 := d.axState 1 = 2
    let d := d.safSettle
    if (d.axState 0 = 2 && !sto0) || (d.axState 1 = 2 && !sto1) then
      d.modSafe fun s => { s with respAt := some s.dieAt }
    else d
  | _, _ =>
    let d := ((d.finc F.SAF_LANE_BAD).raise F.SAF_EVT_LANE).tally 0x901
    if was && !d.safe.laneBad then
      let d := (d.modSafe fun s => { s with laneBad := true }).fput F.SAF_STAT_LANE_OK false
      ((d.finc F.SAF_LANE_LASTING).safLasting F.SAF_EVT_LANE 2 0).safSettle
    else d

/-- VFIELD is undervoltage: every safety input reads 0 (R304). -/
def safUv (d : Dev) : Dev :=
  (inputsFollow d ((d.fset F.SAF_SI_FILT 0).fset F.SAF_SI_RAW 0)).safSettle

/-- The slot of an outbound frame; `good` says that the field die receives it. -/
def laneOutbound (d : Dev) (good : Bool) : Dev :=
  let d := d.tally 0x900
  let d := match d.safe.respAt with
    | some t =>
      if good then
        let us := min 65535 ((d.tb - t) / 1000)
        ((d.fset F.SAF_RESP_LAST us).fmaxTo F.SAF_RESP_MAX us).modSafe fun s => { s with respAt := none }
      else d
    | none => d
  if good then
    d.modSafe fun s =>
      { s with
        dieSq := BitVec.ofNat 4 (d.fget F.SAF_STAT_SQ), dieOpen := d.fbit F.SAF_STAT_CUTOFF_OPEN, dieLast := d.tb }
  else d

/-- The field die has had no good outbound frame for 1 ms of its own oscillator (R303). -/
def laneTimeout (d : Dev) : Dev :=
  if d.safe.dieLast + 950000 ≤ d.tb then d.modSafe fun s => { s with dieSq := 0, dieOpen := true } else d

/-- The SQ outputs as the field die drives them (R12, R304, R315). -/
def sqDriven (d : Dev) : BitVec 4 :=
  if d.safe.dieOpen || d.fbit F.FLD_STAT_VF_UV || !d.field.power || !d.field.released then 0
      else d.safe.dieSq &&& ~~~ d.safe.dieTherm

/-! ### Outputs (R315, R317, R318) -/

/-- An SQ at 170 °C shuts off, latched. -/
def sqThermal (d : Dev) (n : Nat) : Dev :=
  (d.modSafe fun s => { s with dieTherm := s.dieTherm ||| (1#4 <<< n) }).raise F.SAF_EVT_STO

/-- Both axes are latched with a cause, and the cut-off is open. -/
def holdBoth (d : Dev) (cause : Nat) : Dev :=
  let d := d.fput F.SAF_STAT_CUTOFF_OPEN true
  let d := (List.range 2).foldl (fun d a =>
    if d.axState a = 4 then d else ((d.latchAxis a).fset (F.SAF_AX_CAUSE a) cause)) d
  d.safSettle

/-- An off-pulse of an energised output: whether the readback fell in time, and whether it returned (R317). -/
def offPulse (d : Dev) (n : Nat) (fell ret : Bool) : Dev :=
  if d.fget F.SAF_STAT_SQ / 2 ^ n % 2 = 1 && d.safe.opRetry.isNone then
    let d := d.tally 0x902
    let d := if ret then d else d.raise F.SAF_EVT_OP_NORET
    let d := d.setBit F.SAF_OP_RETRY n !fell
    if fell then d.finc F.SAF_OP_PASSES else d.modSafe fun s => { s with opRetry := some n }
  else d

/-- The extra off-pulse after a miss; a second miss means stuck on (R317). -/
def offPulseExtra (d : Dev) (n : Nat) (fell ret : Bool) : Dev :=
  if d.safe.opRetry = some n then
    let d := (d.modSafe fun s => { s with opRetry := none }).tally 0x902
    let d := if ret then d else d.raise F.SAF_EVT_OP_NORET
    if fell then d.finc F.SAF_OP_PASSES
    else ((d.safLasting F.SAF_EVT_STUCK_ON 1 n).holdBoth 1).safeFault
  else d

/-- The cut-off test: 0 passes, 1 passes when repeated, 2 fails twice (R318). A lasting failure has no event bit of its
own, so that the low byte of its entry is open. -/
def cutoffTest (d : Dev) (res : Nat) : Dev :=
  if res ≤ 1 then d.fput F.SAF_STAT_CUTOFF_OPEN false
  else
    let bit := (Config.openWord d.free).toNat % 256
    (((d.nextFree.safFlt 7 0).safEntry 7 bit)).holdBoth 7

/-! ### Reset, BOOT and confirmation (R319 to R322) -/

/-- The latches of the inputs that a safety reset clears: test pulses that a good one has followed, and discrepancies
whose inputs have read 0 together. -/
def clearLatches (d : Dev) : Dev :=
  let tpf := BitVec.ofNat 8 (d.fget F.SAF_SI_TPF)
  let d := d.fset F.SAF_SI_TPF (tpf &&& ~~~ d.safe.tpGood).toNat
  d.modSafe fun s => { s with disc := s.disc &&& ~~~ s.discZero }

/-- Whether a reset finds no demand and a valid, confirmed block. -/
def resetReady (d : Dev) : Bool :=
  let x := d.clearLatches
  d.safe.blockOk && !d.safe.sigBad && !d.fbit F.SAF_STAT_UNCONFIRMED
    && (List.range 2).all fun a => !x.axConfigured a || ((x.stoCauses a).isEmpty && (x.ss1Causes a).isEmpty)

/-- A reset that is not accepted. -/
def resetRefused (d : Dev) : Dev := d.fput F.SAF_STAT_RESET_REFUSED true

/-- A safety reset, with the result of its cut-off test (R318, R319). -/
def safetyReset (d : Dev) (cut : Nat) : Dev :=
  let d := d.modSafe fun s => { s with resetPend := false }
  if !d.resetReady then d.resetRefused
  else
    let latched := (List.range 2).filter fun a => d.axState a = 3
    let energises := (List.range 4).any fun n => (d.sqAxes n).any latched.contains
    let t := if energises then d.cutoffTest cut else d
    if energises && 2 ≤ cut then t.resetRefused
    else
      let d := t.clearLatches
      let d := latched.foldl (fun d a =>
        ((d.fset (F.SAF_AX_STATE a) 0).modAxis a fun x => { x with latch := false, faulted := false }).encCapture a) d
      (d.raise F.SAF_EVT_RESET).safSettle

/-- SAFE takes its block in BOOT (R320, R322); settings of format 1 and the defaults hold none, and both axes are then
UNCONFIG (R376). -/
def safBoot (d : Dev) : Dev :=
  let absent := d.cfgLe 0 2 ≠ 2
  let ok := !absent && d.blockValid
  let d := { d with safe := { d.safe with
    blockOk := ok, absent := absent, sigBad := false, axes := Vector.replicate 2 {} } }
  let d := (List.range 48).foldl (fun d n => d.rsetN (A.SAF_PARAM n) (d.spLe (4 * n) 4)) d
  let d := (d.rsetN A.SAF_SIG (d.spLe 188 4)).rset A.SAF_CSIG d.nv.csig
  let d := (d.fput F.SAF_STAT_UNCONFIRMED (d.rget A.SAF_SIG ≠ d.nv.csig)).fput F.SAF_STAT_CUTOFF_OPEN true
  let d := (List.range 2).foldl (fun d a => (d.fset (F.SAF_AX_STATE a) 3).fset (F.SAF_AX_CAUSE a) (if ok || absent then 0 else 3)) d
  let d := if ok || absent then d else d.safLasting F.SAF_EVT_PARAM 3 0
  d.safSettle

/-- The end of BOOT: the cut-off test, and the capture of the encoders (R313, R318). -/
def safBootEnd (d : Dev) (cut : Nat) : Dev := (((d.cutoffTest cut).encCapture 0).encCapture 1).safSettle

/-- Entry to STOP or SAFE clears SAF_REQ (R316); entry to RUN ends RUN_LOSS. -/
def safState (d : Dev) : Dev := (if d.st = .run then d else d.rsetN A.SAF_REQ 0).safSettle

/-- The signature check every 1 s: 0 matches, 1 matches on the re-read, 2 fails twice (R322). -/
def signatureCheck (d : Dev) (res : Nat) : Dev :=
  if !d.safe.blockOk then d
  else if res ≤ 1 then (d.modSafe fun s => { s with sigBad := false }).safSettle
  else if d.safe.sigBad then d
  else ((d.modSafe fun s => { s with sigBad := true }).safLasting F.SAF_EVT_PARAM 3 0).safSettle

/-- SAF_CONFIRM written by the service port (R322). -/
def safConfirm (d : Dev) (v : Word) : Dev :=
  if v = d.rget A.SAF_SIG then
    let d := { d with nv := d.nv.sysWrite fun n => { n with csig := v } }
    ((d.rset A.SAF_CSIG v).fput F.SAF_STAT_UNCONFIRMED false).occurBlk 3 0x00FF 9
  else d.fput F.SAF_STAT_LOCKED_WR true

end Dev

end Sys2Proof.Machine
end

