-- ==== Sys2Proof/Machine/HostPort.lean ====
section
/-! DEFINITION. The PCIe host port's link, configuration space and write buffer (R366 to R370). -/

namespace Sys2Proof.Machine

namespace Dev

/-- A BAR0 offset that Table 1.7 lists. -/
def bar0Mapped (off : Nat) : Bool :=
  decide (off < 0x0201000) || (decide (0x0400000 ≤ off) && decide (off < 0x0890000))
    || (decide (0x1000000 ≤ off) && decide (off < 0x1100000))

/-- A write TLP to the host input write buffer (R369): the bytes that fall into its 4 KiB. -/
def hostInput (d : Dev) (off : Nat) (bs : List Byte) : Dev :=
  let put (m : Cells × Nat) (b : Byte) : Cells × Nat := (if m.2 < 4096 then m.1.write m.2 b else m.1, m.2 + 1)
  (({ d with hst := { d.hst with inBuf := (bs.foldl put (d.hst.inBuf, off)).1 } }).tally 0xE00).bytesIn 5 bs.length

/-- The link goes down: SPEED reads 0 and the host input image keeps its content (R368). -/
def linkDown (d : Dev) : Dev :=
  if d.fbit F.HST_STAT_LINK_UP then
    ((d.fput F.HST_STAT_LINK_UP false).fset F.HST_STAT_SPEED 0).raise F.HST_EVT_LINK_DOWN
  else d

/-- PCIE_PERST_N: the link, the configuration space and the MSI-X table (R368). -/
def perst (d : Dev) : Dev :=
  let d := (d.linkDown).raise F.HST_EVT_PERST
  let d := (List.range 32).foldl (fun d v =>
    (((d.rreset (A.HST_MSIX_ALO v)).rreset (A.HST_MSIX_AHI v)).rreset (A.HST_MSIX_DATA v)).rreset (A.HST_MSIX_VC v)) d
  let d := (((d.rreset A.HST_PBA).fput F.HST_STAT_BUS_MASTER false).fput F.HST_STAT_MSIX_EN false)
  { d with hst := { d.hst with funcMask := false, targetSpeed := 2 } }

/-- The link trains at the highest rate both ends support, at most the target (R366). -/
def linkUp (d : Dev) (peer : Nat) : Dev :=
  let sp := clampN 1 2 (min peer d.hst.targetSpeed)
  (((d.fput F.HST_STAT_LINK_UP true).fset F.HST_STAT_SPEED sp).raise F.HST_EVT_LINK_UP).msixFlush

/-- A configuration write of Bus Master Enable, MSI-X Enable, Function Mask and Target Link Speed (R366, R370). -/
def configure (d : Dev) (busMaster msixEn funcMask : Bool) (target : Nat) : Dev :=
  let t := clampN 1 2 target
  let d := (d.fput F.HST_STAT_BUS_MASTER busMaster).fput F.HST_STAT_MSIX_EN msixEn
  let d := { d with hst := { d.hst with funcMask := funcMask, targetSpeed := t } }
  let d := if d.fbit F.HST_STAT_LINK_UP && t < d.fget F.HST_STAT_SPEED then d.fset F.HST_STAT_SPEED t else d
  d.msixFlush

end Dev

end Sys2Proof.Machine
end

