-- ==== Sys2Proof/Machine/Recorder.lean ====
section
/-! DEFINITION. RECORDER's area (R351 to R358): how queued occurrences become records, merged headers are written back,
and the BOOT scan finds its place. -/

namespace Sys2Proof.Machine

/-- The 64 bytes of a record (Table 15.9). -/
def recordBytes (seq : Nat) (e : RecEntry) : List Byte :=
  leBytes 4 (e.source % 64 * 2 ^ 26 + seq % 2 ^ 26) ++ leBytes 6 e.ts ++ leBytes 2 e.code ++ leBytes 2 e.rep
    ++ leBytes 2 e.delta ++ ((e.snap ++ List.replicate (12 - e.snap.length) 0).take 12).flatMap fun (w : Word) => leBytes 4 w.toNat

/-- A record as one value, byte 0 lowest. -/
def recordOf (bs : List Byte) : BitVec 512 := BitVec.ofNat 512 (leNat bs)

/-- Byte `i` of a record. -/
def recordByte (r : BitVec 512) (i : Nat) : Byte := r.extractLsb' (8 * i) 8

namespace Area

/-- The record in a slot; an unused slot reads 0. -/
def at_ (a : Area) (slot : Nat) : BitVec 512 := alGet slot 0 a.slots

/-- A slot written. -/
def put (a : Area) (slot : Nat) (r : BitVec 512) : Area := { a with slots := alSet 0 slot r a.slots }

/-- Whether a slot is empty: its bytes 0 to 3 read 0 (R353). -/
def empty (a : Area) (slot : Nat) : Bool := (a.at_ slot).extractLsb' 0 32 = 0#32

/-- The canonical form of the area. -/
def wf (a : Area) : Bool := alWf (fun _ => 0) none a.slots

/-- The used ordinary slots, as the scan finds them: they fill in order (R352). -/
def ordUsed (a : Area) : Nat := (a.slots.filter fun s => s.1 < 3840 && !a.empty s.1).foldl (fun n s => max n (s.1 + 1)) 0

/-- The used kept privileged slots. -/
def keptUsed (a : Area) : Nat :=
  (a.slots.filter fun s => 3840 ≤ s.1 && s.1 < 4480 && !a.empty s.1).foldl (fun n s => max n (s.1 - 3840 + 1)) 0

/-- The circulating slot after the newest record, relative to the head (R351, R352). -/
def circNext (a : Area) (head : Nat) : Nat :=
  let age (s : Nat) : Nat := (head + 2 ^ 26 - ((a.at_ s).extractLsb' 0 26).toNat) % 2 ^ 26
  let used := (a.slots.map (·.1)).filter fun s => 4480 ≤ s && !a.empty s
  match used.foldl (fun (b : Option Nat) s =>
      match b with
      | none => some s
      | some t => if age s < age t then some s else some t) none with
  | none => 0
  | some s => (s - 4480 + 1) % 640

end Area

/-- The SEQ after `n`: a value whose low 26 bits are 0 is skipped (R351). -/
def nextSeq (n : Nat) : Nat :=
  let m := (n + 1) % 2 ^ 32
  if m % 2 ^ 26 = 0 then m + 1 else m

/-- The queued entry served next: the lowest source, its oldest entry (R355). -/
def nextQueued (q : List RecEntry) : Option Nat :=
  let src := q.foldl (fun m e => min m e.source) 64
  q.findIdx? fun e => e.source = src

/-- One entry written to its area (R351 to R353), with the registers it moves. -/
def writeRecord (a : Area) (d : Dev) (e : RecEntry) : Area × Dev :=
  let priv := Dev.privileged e.source
  if !priv && d.fbit F.REC_STAT_ORD_FULL then (a, d.finc F.REC_LOST_ORD_LOST)
  else
    let seq := nextSeq (d.rnat A.REC_HEAD)
    let pn := d.fget F.REC_PNEXT_SLOT
    let slot := if !priv then d.fget F.REC_ORD_N_N
      else if d.fbit F.REC_STAT_PRIV_CIRC then 4480 + pn else 3840 + pn
    let d := d.rsetN A.REC_HEAD seq
    let d :=
      if !priv then
        let d := d.fset F.REC_ORD_N_N (slot + 1)
        if slot + 1 = 3840 then (d.fput F.REC_STAT_ORD_FULL true).raise F.REC_EVT_ORD_FULL else d
      else if d.fbit F.REC_STAT_PRIV_CIRC then d.fset F.REC_PNEXT_SLOT ((pn + 1) % 640)
      else if pn + 1 = 640 then (d.fset F.REC_PNEXT_SLOT 0).fput F.REC_STAT_PRIV_CIRC true
      else d.fset F.REC_PNEXT_SLOT (pn + 1)
    let d := { d with rcd := { d.rcd with
      lastW := (e.source, slot, e) :: d.rcd.lastW.filter fun (x : Nat × Nat × RecEntry) => x.1 ≠ e.source && x.2.1 ≠ slot,
      merged := alDel slot d.rcd.merged } }
    let d := { d with nv := { d.nv with badRcd := d.nv.badRcd.filter fun g => g / 2 ≠ slot } }
    let d := (d.raise F.REC_EVT_ENTRY).tally 0xC00
    (a.put slot (recordOf (recordBytes seq e)), if priv then (d.raise F.REC_EVT_PRIV).tally 0xC03 else d)

/-- The next queued occurrence leaves the queue; after losses a LOST record follows an emptied queue (R355). None does
during the BOOT scan, nor while KEEP is sealed (R356, R357). -/
def dequeueOne (a : Area) (d : Dev) : Area × Dev :=
  match nextQueued d.rcd.queue with
  | none => (a, d)
  | some i =>
    match if d.rcd.scanning || d.fbit F.KEP_STAT_SEALED then none else d.rcd.queue[i]? with
    | none => (a, d)
    | some e =>
      let r := writeRecord a { d with rcd := { d.rcd with queue := d.rcd.queue.eraseIdx i } } e
      if r.2.rcd.queue.isEmpty && r.2.rcd.lostN ≠ 0 then
        let snap : List Word := [r.2.rcd.lostMask.extractLsb' 0 32, r.2.rcd.lostMask.extractLsb' 32 32,
          BitVec.ofNat 32 r.2.rcd.lostN]
        (r.1, ({ r.2 with rcd := { r.2.rcd with lostMask := 0, lostN := 0 } }).recEnqueue
          ⟨20, 3, r.2.tsNow, 0, 0, snap⟩)
      else r

/-- A merged header written back to its record (R354). -/
def writeHeader (a : Area) (slot rep delta : Nat) : Area :=
  let old := a.at_ slot
  let keep := old &&& ~~~ (BitVec.ofNat 512 (0xFFFFFFFF * 2 ^ 96))
  a.put slot (keep ||| BitVec.ofNat 512 ((rep % 65536 + delta % 65536 * 65536) * 2 ^ 96))

/-- Every pending merged header written back (R357). -/
def writeHeaders (a : Area) (d : Dev) : Area × Dev :=
  (d.rcd.merged.foldl (fun a m => writeHeader a m.1 m.2.1 m.2.2) a,
   { d with rcd := { d.rcd with merged := [] } })

/-- A byte of the recorder read window at an offset of the area, with merged values (R352, R354). -/
def windowByte (a : Area) (d : Dev) (off : Nat) : Byte :=
  let slot := off / 64
  let i := off % 64
  match d.rcd.merged.find? fun m => m.1 = slot with
  | some (_, rep, delta) =>
    if 12 ≤ i && i < 16 then (leBytes 4 (rep % 65536 + delta % 65536 * 65536)).getD (i - 12) 0
    else recordByte (a.at_ slot) i
  | none => recordByte (a.at_ slot) i

/-- The registers after the BOOT scan (R356). -/
def scanDone (a : Area) (d : Dev) : Dev :=
  let n := a.ordUsed
  let k := a.keptUsed
  let d := { d with rcd := { d.rcd with scanning := false } }
  let d := (d.fset F.REC_ORD_N_N n).fput F.REC_STAT_ORD_FULL (n = 3840)
  if k = 640 then (d.fput F.REC_STAT_PRIV_CIRC true).fset F.REC_PNEXT_SLOT (a.circNext (d.rnat A.REC_HEAD))
  else (d.fput F.REC_STAT_PRIV_CIRC false).fset F.REC_PNEXT_SLOT k

namespace Core

/-- Bytes of the recorder read window from an offset of the area: a group that reads uncorrectable reads all ones, and
sets REC_FLT.UNREADABLE (R352, R353). -/
def windowRead (c : Core) (area : Area) (off n : Nat) : Core × List Byte :=
  let gs := (List.range (n / 32 + 2)).map fun k => off / 32 + k
  let x := (gs.filter fun g => 32 * g < off + n).foldl (fun (s : Core × List Nat) g =>
    let y := s.1.readGroup (0x1085000 + g)
    (y.1, if y.2 then s.2 else g :: s.2)) (c, [])
  let c := if x.2 = [] then x.1
    else x.1.onDev fun d => (d.fput F.REC_FLT_UNREADABLE true).raise F.REC_EVT_UNREADABLE
  (c, (List.range n).map fun i => if x.2.contains ((off + i) / 32) then 0xFF else windowByte area c.dev (off + i))

end Core

end Sys2Proof.Machine
end

