-- ==== Sys2Proof/Machine/Can.lean ====
section
/-! DEFINITION. CAN (R325 to R340): configuration, message objects and chains, matching, requests and retransmission,
errors and bus-off, and the time-triggered service. -/

namespace Sys2Proof.Machine

/-- The page offset of word `w` of object `n` of controller `c` (R327). -/
def objAddr (c n w : Nat) : Nat := 0xA0000 + 0x1000 + 0x3000 * c + 0x60 * n + 4 * w

/-- The group of the object storage that holds word `w` of an object (R338). -/
def objGroup (c n w : Nat) : Nat := 0x33000000 / 32 + 3 * (128 * c + n) + w / 8

/-- The payload length of a data length code. -/
def dlcBytes (fdf : Bool) (dlc : Nat) : Nat :=
  if dlc ≤ 8 then dlc
  else if !fdf then 8
  else [12, 16, 20, 24, 32, 48, 64].getD (dlc - 9) 64

namespace Dev

/-- A controller changed. -/
def modCan (d : Dev) (c : Nat) (f : CanSt → CanSt) : Dev := { d with can := d.can.setIfInBounds c (f (vget d.can c {})) }

/-- An object word. -/
def obj (d : Dev) (c n w : Nat) : Word := d.rget (objAddr c n w)

/-- An object word changed. -/
def setObj (d : Dev) (c n w : Nat) (v : Word) : Dev := d.rset (objAddr c n w) v

/-- A bit of an object word. -/
def objBit (d : Dev) (c n w b : Nat) : Bool := (d.obj c n w).getLsbD b

/-- A bit of an object word changed. -/
def putObj (d : Dev) (c n w b : Nat) (v : Bool) : Dev :=
  d.setObj c n w (if v then d.obj c n w ||| (1#32 <<< b) else d.obj c n w &&& ~~~ (1#32 <<< b))

/-- A refused configuration write or command. -/
def canRefused (d : Dev) : Dev := d.fput F.CAN_STAT_CFG_REFUSED true

/-- Whether received frames are stored: always unpaired; on a pair member in SOLO and HOLDER (R337). -/
def canStores (d : Dev) : Bool := !d.paired || d.wltState = 3 || d.wltState = 4

/-! ### Configuration (R326, R334) -/

/-- Whether a new word of a configuration register breaks a rule of its own. -/
def canBadCfg (d : Dev) (c addr : Nat) : Bool :=
  if addr = A.CAN_CFG c then
    d.fget (F.CAN_CFG_RETX c) = 3 || d.fget (F.CAN_CFG_TT_MODE c) = 3
      || !([1, 2, 4, 8, 16, 32, 64].contains (d.fget (F.CAN_CFG_NCYC_M1 c) + 1))
  else if addr = A.CAN_NBT c then
    decide ((d.fget (F.CAN_NBT_NBRP_M1 c) + 1)
      * (3 + d.fget (F.CAN_NBT_NTSEG1_M1 c) + d.fget (F.CAN_NBT_NTSEG2_M1 c)) < 80)
  else if addr = A.CAN_DBT c then
    decide ((d.fget (F.CAN_DBT_DBRP_M1 c) + 1)
      * (3 + d.fget (F.CAN_DBT_DTSEG1_M1 c) + d.fget (F.CAN_DBT_DTSEG2_M1 c)) < 10)
  else if addr = A.CAN_TTCYC c then
    decide (d.fget (F.CAN_TTCYC_CYCLE c) < 100) || decide (1000000 < d.fget (F.CAN_TTCYC_CYCLE c))
  else if addr = A.CAN_TTPH c then decide (d.fget (F.CAN_TTCYC_CYCLE c) ≤ d.fget (F.CAN_TTPH_PHASE c))
  else false

/-- A write to a configuration register of a controller has changed `before` into `d`: it stands only with INIT set and
within its rules. -/
def canCfg (before d : Dev) (addr : Nat) : Dev :=
  let c := (addr - A.CAN_CFG 0) / 0x40
  if !before.canInit c || d.canBadCfg c addr then before.canRefused else d

/-- The service of a controller begins anew: its role and the start of its reference watch. -/
def canServe (d : Dev) (c : Nat) : Dev :=
  let role := if d.fget (F.CAN_CFG_TT_MODE c) = 2 then 2 else 0
  (d.fset (F.CAN_TTSTAT_ROLE c) role).modCan c fun s =>
    { s with ttStart := none, lastRef := some d.tb, noRef := false, marked := [] }

/-- A write of CAN_CTL.INIT: controllers in configuration hold their pins recessive; one that leaves it waits for
integration (R326). -/
def canInitWrite (d : Dev) (v : Nat) : Dev :=
  (List.range 2).foldl (fun d c =>
    let on := v / 2 ^ c % 2 = 1
    if on = d.canInit c then d
    else
      (d.setBit F.CAN_CTL_INIT c on).modCan c fun s => { s with integrated := false }) d

/-- A controller has seen 11 consecutive recessive bits since INIT was cleared (R326). -/
def canIntegrate (d : Dev) (c : Nat) : Dev :=
  if d.canInit c || (d.canc c).integrated then d
  else (d.modCan c fun s => { s with integrated := true }).canServe c

/-- A write of CAN_CTL.RECOVER (R333). -/
def canRecover (d : Dev) (v : Nat) : Dev :=
  (List.range 2).foldl (fun d c =>
    if v / 2 ^ c % 2 = 1 then
      if d.canState c = 2 then (d.fset (F.CAN_ERR_STATE c) 3).fset (F.CAN_BUS_RSEQ c) 0 else d.canRefused
    else d) d

/-- 128 sequences of 11 recessive bits have been counted (R333). -/
def canRecovered (d : Dev) (c : Nat) : Dev :=
  if d.canState c = 3 then
    let d := ((d.fset (F.CAN_BUS_RSEQ c) 128).fset (F.CAN_ERR_STATE c) 0).fset (F.CAN_ERR_TEC c) 0
    (d.fset (F.CAN_ERR_REC c) 0).raise (F.CAN_EVT_RECOVERED c)
  else d

/-! ### Errors (R333) -/

/-- The error state that follows the counters; entry to error-passive and to bus-off. -/
def canErrState (d : Dev) (c : Nat) : Dev :=
  let was := d.canState c
  let tec := d.fget (F.CAN_ERR_TEC c)
  let rec' := d.fget (F.CAN_ERR_REC c)
  if 2 ≤ was then d
  else if 255 < tec then
    ((d.fset (F.CAN_ERR_STATE c) 2).raiseRec (F.CAN_EVT_BUS_OFF c)).tally 0xA04
  else if 127 < tec || 127 < rec' then
    let d := d.fset (F.CAN_ERR_STATE c) 1
    if was = 0 then d.raise (F.CAN_EVT_ERR_PASSIVE c) else d
  else d.fset (F.CAN_ERR_STATE c) 0

/-- A protocol error: its kind (Table 14.6), whether the controller was transmitting, and by how much the standard
raises its counter. -/
def canError (d : Dev) (c kind : Nat) (tx : Bool) (inc : Nat) : Dev :=
  if !d.canActive c then d
  else
    let d := d.fset (F.CAN_BUS_LAST_ERR c) kind
    if d.canListen c then d
    else
      let f := if tx then F.CAN_ERR_TEC c else F.CAN_ERR_REC c
      ((d.finc f inc).tally 0xA03).canErrState c

/-- A frame sent well lowers TEC; one received well lowers REC, from above 127 to a value between 119 and 127 that the
standard leaves open. -/
def canGood (d : Dev) (c : Nat) (tx : Bool) : Dev :=
  let n := d.fget (F.CAN_ERR_REC c)
  let d :=
    if tx then d.fset (F.CAN_ERR_TEC c) (d.fget (F.CAN_ERR_TEC c) - 1)
    else if 127 < n then (d.fset (F.CAN_ERR_REC c) (119 + (Config.openWord d.free).toNat % 9)).nextFree
    else d.fset (F.CAN_ERR_REC c) (n - 1)
  d.canErrState c

/-! ### Chains (R329) -/

/-- Whether object `n` goes on to object `n + 1` in one chain. -/
def chained (d : Dev) (c n : Nat) : Bool :=
  n < 127 && d.objBit c n 2 27 && d.objBit c (n + 1) 0 31 && (d.objBit c n 0 30 = d.objBit c (n + 1) 0 30)

/-- Whether an object is the first of its chain. -/
def chainFirst (d : Dev) (c n : Nat) : Bool := n = 0 || !d.chained c (n - 1)

/-- The number of objects of the chain from `n` on; `fuel` bounds it. -/
def chainLen (d : Dev) (c : Nat) : Nat → Nat → Nat
  | 0, _ => 1
  | fuel + 1, n => if d.chained c n then 1 + d.chainLen c fuel (n + 1) else 1

/-- The first object of the chain that holds `n`. -/
def chainHead (d : Dev) (c : Nat) : Nat → Nat
  | 0 => 0
  | n + 1 => if d.chained c n then d.chainHead c n else n + 1

/-! ### Receiving (R328 to R330) -/

/-- Whether an object accepts a frame. -/
def objMatches (d : Dev) (c n : Nat) (f : CanFrame) : Bool :=
  let w0 := d.obj c n 0
  let w1 := d.obj c n 1
  w0.getLsbD 31 && !w0.getLsbD 30 && d.chainFirst c n
    && ((f.id ^^^ w0.extractLsb' 0 29) &&& w1.extractLsb' 0 29) = 0 && (!w1.getLsbD 31 || w0.getLsbD 29 = f.ide)

/-- A frame stored in an object. -/
def storeFrame (d : Dev) (c first n : Nat) (f : CanFrame) : Dev :=
  let seq := d.fget (F.CAN_RXSEQ_RXSEQ c)
  let w3 := (d.obj c n 3).toNat
  let w3 := setBits (setBits w3 31 31 1) 23 20 f.dlc.toNat
  let w3 := setBits (setBits w3 26 26 (b2n f.esi)) 25 25 (b2n f.rtr)
  let d := d.setObj c n 3 (BitVec.ofNat 32 w3)
  let d := (d.setObj c n 4 (BitVec.ofNat 32 f.sof)).setObj c n 5 (BitVec.ofNat 32 (f.sof / 2 ^ 32))
  let d := d.setObj c n 6
    (BitVec.ofNat 32 (b2n f.fdf * 2 ^ 31 + b2n f.brs * 2 ^ 30 + b2n f.ide * 2 ^ 29 + f.id.toNat))
  let d := d.setObj c n 7 (BitVec.ofNat 32 (setBits (d.obj c n 7).toNat 15 0 seq))
  let len := if f.rtr then 0 else dlcBytes f.fdf f.dlc.toNat
  let old := (List.range 16).flatMap fun i => leBytes 4 (d.obj c n (8 + i)).toNat
  let bs := f.data.take len
  let bytes := bs ++ old.drop bs.length
  let d := (List.range 16).foldl (fun d i => d.setObj c n (8 + i) (BitVec.ofNat 32 (leNat ((bytes.drop (4 * i)).take 4)))) d
  let k := d.chainLen c 128 first
  let d := d.setObj c first 7 (BitVec.ofNat 32 (setBits (d.obj c first 7).toNat 31 24 ((n - first + 1) % k)))
  let d := ((d.fincWrap (F.CAN_RXSEQ_RXSEQ c)).tally 0xA01).bytesIn (7 + c) bs.length
  if d.objBit c n 2 28 then d.alert (26 + c) else d

/-- The object that takes a frame: the first of the matching chain and the object at its FILL. -/
def frameTarget (d : Dev) (c : Nat) (f : CanFrame) : Option (Nat × Nat) :=
  ((List.range 128).find? fun n => d.objMatches c n f).map fun first =>
    (first, first + (d.obj c first 7).toNat / 2 ^ 24 % d.chainLen c 128 first)

/-- Whether a frame is a reference message of a controller (R334, R335). -/
def isReference (d : Dev) (c : Nat) (f : CanFrame) : Bool :=
  d.fget (F.CAN_CFG_TT_MODE c) ≠ 0 && !f.fdf && !f.rtr && !f.ide && f.dlc = 1
    && f.id.toNat / 2 ^ 21 = d.fget (F.CAN_TTREF_REF_ID c) / 8

/-- A reference message received: the cycle starts at its SOF, and a master acts as a slave (R335). -/
def reference (d : Dev) (c : Nat) (f : CanFrame) : Dev :=
  let role := if d.fget (F.CAN_CFG_TT_MODE c) = 1 then 3 else 2
  let d := (d.fset (F.CAN_TTSTAT_ROLE c) role).fset (F.CAN_TTSTAT_CYCCNT c) ((f.data.getD 0 0).toNat % 64)
  (d.modCan c fun s =>
    { s with ttStart := some f.sof, lastRef := some f.sof, noRef := false, marked := [] }).tally 0xA05

/-- The end of a received frame (R328 to R330, R337). -/
def canReceive (d : Dev) (c : Nat) (f : CanFrame) : Dev :=
  let d := d.canGood c false
  let d := if d.isReference c f then d.reference c f else d
  if !d.canStores then d
  else
    match d.frameTarget c f with
    | none => d
    | some (first, n) =>
      if d.objBit c n 3 31 then
        ((d.putObj c first 3 30 true).raise (F.CAN_EVT_RX_OVR c)).tally 0xA02
      else d.storeFrame c first n f

/-! ### Requests (R331, R332) -/

/-- A request becomes pending. -/
def canPend (d : Dev) (c n : Nat) : Dev :=
  (d.putObj c n 3 31 true).modCan c fun s => { s with reqs := s.reqs ++ [(n, d.tb)], tries := alDel n s.tries }

/-- A request ends. -/
def canUnpend (d : Dev) (c n : Nat) : Dev :=
  (d.putObj c n 3 31 false).modCan c fun s =>
    { s with
      reqs := s.reqs.filter fun r => r.1 ≠ n, tries := alDel n s.tries, cancels := s.cancels.filter fun m => m ≠ n }

/-- A request ends without success. -/
def canLost (d : Dev) (c n : Nat) : Dev := ((d.canUnpend c n).putObj c n 3 27 true).putObj c n 3 28 false

/-- A command through CAN_CMD: 1 REQUEST, 2 CANCEL, 3 FREE. `underWay` says that the object's transmission has begun. -/
def canCommand (d : Dev) (c op n : Nat) (underWay : Bool) : Dev :=
  let tx := d.objBit c n 0 30
  match op with
  | 1 =>
    let fd := d.objBit c n 2 31
    if !d.objBit c n 0 31 || !tx || d.objBit c n 2 26 || (fd && !d.fbit (F.CAN_CFG_FD_EN c)) || (fd && d.objBit c n 2 29)
    then d.canRefused
    else if d.objBit c n 3 31 then d else d.canPend c n
  | 2 =>
    if !tx then d.canRefused
    else if !d.objBit c n 3 31 then d
    else if underWay then d.modCan c fun s => { s with cancels := s.cancels ++ [n] }
    else d.canLost c n
  | 3 =>
    if tx then d.canRefused
    else
      let d := d.putObj c n 3 31 false
      if d.chainFirst c n then d.putObj c n 3 30 false else d
  | _ => d

/-- The rank of an object in arbitration: an 11-bit identifier before a 29-bit one with the same leading bits, then the
object number (R332). -/
def canRank (d : Dev) (c n : Nat) : Nat :=
  let w0 := d.obj c n 0
  let id := (w0.extractLsb' 0 29).toNat
  let ide := w0.getLsbD 29
  ((id / 2 ^ 18 * 2 + b2n ide) * 2 ^ 18 + (if ide then id % 2 ^ 18 else 0)) * 128 + n

/-- The request that competes at an instant: of the requests made by then, enabled and each the oldest of its chain, the
one of lowest rank. -/
def canWinner (d : Dev) (c sof : Nat) : Option Nat :=
  let reqs := (d.canc c).reqs.filter fun r => r.2 ≤ sof && d.objBit c r.1 0 31 && !d.objBit c r.1 3 29
  let pick (acc : List (Nat × Nat)) (r : Nat × Nat) : List (Nat × Nat) :=
    let h := d.chainHead c r.1
    if acc.any fun a => a.1 = h then acc else acc ++ [(h, r.1)]
  let heads := (reqs.foldl pick ([] : List (Nat × Nat))).map (·.2)
  heads.foldl (fun (b : Option Nat) n =>
    match b with
    | none => some n
    | some m => if d.canRank c n < d.canRank c m then some n else some m) none

/-- A transmission attempt of object `n` that began at `sof` ends: 0 sent, 1 an error, 2 arbitration lost
(R331, R332, R336). -/
def canEnd (d : Dev) (c n sof outcome : Nat) : Dev :=
  if outcome = 0 then
    let w2 := d.obj c n 2
    let len := if w2.getLsbD 29 then 0 else dlcBytes (w2.getLsbD 31) (w2.extractLsb' 20 4).toNat
    let d := ((d.canUnpend c n).putObj c n 3 28 true).putObj c n 3 27 false
    let d := (d.setObj c n 4 (BitVec.ofNat 32 sof)).setObj c n 5 (BitVec.ofNat 32 (sof / 2 ^ 32))
    (((d.canGood c true).raise (F.CAN_EVT_TXOK c)).tally 0xA00).bytesOut (7 + c) len
  else
    let s := d.canc c
    let k := alGet n 0 s.tries + 1
    let retx := d.fget (F.CAN_CFG_RETX c)
    if d.objBit c n 2 26 || s.cancels.contains n || retx = 2 || (retx = 1 && 2 ≤ k) then d.canLost c n
    else d.modCan c fun s => { s with tries := alPut n k s.tries }

/-! ### Object writes (R327, R336) -/

/-- Whether the time-trigger selection of an object is within its rules. -/
def ttSelOk (d : Dev) (c n : Nat) : Bool :=
  let w1 := (d.obj c n 1).toNat
  let rep := bitsOf w1 13 8 + 1
  [1, 2, 4, 8, 16, 32, 64].contains rep && rep ≤ d.fget (F.CAN_CFG_NCYC_M1 c) + 1 && bitsOf w1 5 0 < rep

/-- A write to word `w` of an object. -/
def canObjWrite (d : Dev) (c n w : Nat) (v : Word) : Dev :=
  let old := d.obj c n w
  let en := d.objBit c n 0 31
  match w with
  | 0 =>
    if en && (v &&& 0x3FFFFFFF#32) ≠ (old &&& 0x3FFFFFFF#32) then d.canRefused
    else if !en && v.getLsbD 31 && v.getLsbD 30 && d.objBit c n 2 26 && !d.ttSelOk c n then d.canRefused
    else
      let d := d.setObj c n 0 v
      if !en && v.getLsbD 31 then d.putObj c n 3 29 false else d
  | 1 =>
    if en then d.canRefused else d.setObj c n 1 (v &&& (if d.objBit c n 0 30 then 0x3F3F#32 else 0x9FFFFFFF#32))
  | 2 => if en then d.canRefused else d.setObj c n 2 (v &&& 0xFCF0FFFF#32)
  | _ =>
    if w < 8 then d
    else if d.objBit c n 0 30 && d.objBit c n 3 31 then d.canRefused
    else d.setObj c n w v

/-! ### The time-triggered service (R335, R336) -/

/-- Whether a cycle start of a master is due now. -/
def ttDue (d : Dev) (c : Nat) : Bool :=
  let cyc := d.fget (F.CAN_TTCYC_CYCLE c) * 1000
  if d.fbit (F.CAN_CFG_TT_GTSYNC c) then d.tb % cyc = d.fget (F.CAN_TTPH_PHASE c) * 1000
  else match (d.canc c).ttStart with
    | some t => decide (t + cyc ≤ d.tb)
    | none => true

/-- Whether a reference message of this cycle has come before a master's attempt. -/
def ttTaken (d : Dev) (c : Nat) : Bool :=
  d.fget (F.CAN_TTSTAT_ROLE c) = 3 &&
    match (d.canc c).ttStart with
    | some t => decide (d.tb < t + d.fget (F.CAN_TTCYC_CYCLE c) * 500)
    | none => false

/-- A cycle start: a master makes its reference attempt; `won` says that its message was sent (R335). -/
def ttStart (d : Dev) (c : Nat) (won : Bool) : Dev :=
  if d.fget (F.CAN_CFG_TT_MODE c) ≠ 1 || !d.canActive c || d.canListen c || !d.ttDue c || d.ttTaken c then d
  else if won then
    let was := d.fget (F.CAN_TTSTAT_ROLE c)
    let n := (d.fget (F.CAN_TTSTAT_CYCCNT c) + 1) % (d.fget (F.CAN_CFG_NCYC_M1 c) + 1)
    let d := (d.fset (F.CAN_TTSTAT_ROLE c) 1).fset (F.CAN_TTSTAT_CYCCNT c) n
    let d := (d.modCan c fun s => { s with ttStart := some d.tb, lastRef := some d.tb, marked := [] }).tally 0xA05
    let d := ((d.canGood c true).tally 0xA00).bytesOut (7 + c) 1
    if was = 1 then d else d.raise (F.CAN_EVT_TT_MASTER c)
  else d.fset (F.CAN_TTSTAT_ROLE c) 3

/-- A time mark: the object is requested once; a request still waiting from its mark before is lost (R336). -/
def ttMark (d : Dev) (c n : Nat) : Dev :=
  match (d.canc c).ttStart with
  | none => d
  | some t =>
    let w1 := (d.obj c n 1).toNat
    let sel := d.fget (F.CAN_TTSTAT_CYCCNT c) % (bitsOf w1 13 8 + 1) = bitsOf w1 5 0
    let due := decide (t + (bitsOf (d.obj c n 2).toNat 15 0) * 1000 ≤ d.tb)
    if d.fget (F.CAN_CFG_TT_MODE c) ≠ 0 && !(d.canc c).noRef && d.objBit c n 0 31 && d.objBit c n 0 30
        && d.objBit c n 2 26 && sel && due && !(d.canc c).marked.contains n then
      let d := if d.objBit c n 3 31 then d.canLost c n else d
      (d.canPend c n).modCan c fun s => { s with marked := s.marked ++ [n] }
    else d

/-- A slave without a reference within two cycles (R335). -/
def ttMiss (d : Dev) (c : Nat) : Dev :=
  match (d.canc c).lastRef with
  | none => d
  | some t =>
    if d.fget (F.CAN_CFG_TT_MODE c) = 2 && d.canActive c && !(d.canc c).noRef
        && t + d.fget (F.CAN_TTCYC_CYCLE c) * 2000 ≤ d.tb then
      ((d.finc (F.CAN_TTSTAT_MISSES c)).raise (F.CAN_EVT_TT_REF_MISS c)).modCan c fun s => { s with noRef := true }
    else d

/-- A lasting storage fault of an object (R338). -/
def objFault (d : Dev) (c n : Nat) : Dev :=
  let d := (d.putObj c n 3 29 true).putObj c n 0 31 false
  let first := !(d.canc 0).faulted && !(d.canc 1).faulted
  let d := if first then (d.fset F.CAN_FLT_CTRL c).fset F.CAN_FLT_OBJ n else d
  (d.modCan c fun s => { s with faulted := true }).raise (F.CAN_EVT_OBJ_FAULT c)

end Dev

namespace Core

/-- An object read for a match or a transmission; `e1` and `e2` are the wrong symbols of the read and of its re-read
(R338). Answers whether the object may be used. -/
def objRead (c : Core) (k n : Nat) (e1 e2 : List (Nat × Byte)) : Core × Bool :=
  match classify e1 with
  | .clean => (c, true)
  | .correctable _ _ => (c.noteCorr (objGroup k n 0), true)
  | _ =>
    let c := c.noteUncorr (objGroup k n 0)
    if (classify e2).bad then (c.onDev fun d => (d.lasting 2 10).objFault k n, false)
    else (c.onDev fun d => (d.transient 2).occurBlk 13 F.WKM_EVT_UNCORR.lo 5, true)

/-- A frame received by controller `k` (R328); the storage errors meet the object that would take it. -/
def canFrame (c : Core) (k : Nat) (f : CanFrame) (e1 e2 : List (Nat × Byte)) : Core :=
  if !c.dev.canActive k then c
  else
    let c := match c.dev.frameTarget k f with
      | some (_, n) => (c.objRead k n e1 e2).1
      | none => c
    c.onDev fun d => d.canReceive k f

/-- The end of the transmission attempt that began at `sof` (R332). -/
def canSent (c : Core) (k sof outcome : Nat) (e1 e2 : List (Nat × Byte)) : Core :=
  if !c.dev.canActive k || c.dev.canListen k then c
  else
    match c.dev.canWinner k sof with
    | none => c
    | some n =>
      let r := c.objRead k n e1 e2
      if r.2 then r.1.onDev fun d => d.canEnd k n sof outcome else r.1

end Core

end Sys2Proof.Machine
end

