-- ==== Sys2Proof/Machine/Images.lean ====
section
/-! DEFINITION. Images (R113 to R116, R215 to R229, R238, R239, R416): headers, bodies and their checks, complication
tables, carry maps, and what a verified program image means to the blocks. -/

namespace Sys2Proof.Machine

/-- The code store address of a half. -/
def halfBase (h : Nat) : Nat := 0x1000_0000 + 0x20_0000 * h

/-- The offset of the table area in a half (R113). -/
def tableOfs : Nat := 0x1F_E000

/-- A little-endian field of a header (Table 9.1). -/
def hLe (h : List Byte) (i n : Nat) : Nat := leNat ((h.drop i).take n)

/-- Whether bytes are all 0. -/
def zeros (bs : List Byte) : Bool := bs.all (· = 0#8)

/-! ### Complication tables (R113 to R118) -/

/-- Whether a source selector may stand in an entry (R115). -/
def cpxSelOk (bitForm pairD pairS : Bool) (s : Nat) : Bool :=
  s ≠ 0xF && !(bitForm && 8 ≤ s && s ≤ 0xD) && !(s = 0xB && !pairD) && !(s = 0xC && !pairS)

/-- Whether a micro-operation word is well formed at index `i` of `count` (R115, Table 5.4). -/
def microOk (bitForm pairD pairS : Bool) (count i w : Nat) : Bool :=
  let dst := bitsOf w 27 24
  let a := bitsOf w 23 20
  let b := bitsOf w 19 16
  let k := bitsOf w 15 0
  let sel := cpxSelOk bitForm pairD pairS
  match bitsOf w 31 28 with
  | 0x1 => dst ≤ 7 && sel a && b = 0 && k = 0
  | 0x2 => bitForm && dst ≤ 7 && a = 0 && b = 0 && bitsOf k 14 0 = 0
  | 0x3 => dst ≤ 7 && sel a && sel b && bitsOf k 15 5 = 0 && k % 16 ≠ 0xF
  | 0x4 => dst ≤ 7 && sel a && b = 0 && bitsOf k 15 11 = 0 && bitsOf k 9 5 + bitsOf k 4 0 ≤ 31
  | 0x5 => dst ≤ 7 && sel a && b = 0 && bitsOf k 15 10 = 0 && bitsOf k 9 5 + bitsOf k 4 0 ≤ 31
  | 0x6 => dst ≤ 7 && sel a && sel b && (List.range 4).all fun n => bitsOf k (4 * n + 3) (4 * n) ≤ 9
  | 0x7 => dst ≤ 7 && sel a && b = 0 && bitsOf k 15 15 = 0 && bitsOf k 13 12 ≠ 3
  | 0x8 => dst = 0 && sel a && sel b && bitsOf k 15 14 = 0 && bitsOf k 13 12 ≠ 3
  | 0x9 => dst = 0 && a = 0 && b = 0 && bitsOf k 15 14 = 0 && bitsOf k 7 5 = 0
  | 0xA =>
    let t := bitsOf k 15 14
    dst = 0 && sel a && b = 0 && bitsOf k 13 0 = 0 && !(t = 1 && !pairD) && !(2 ≤ t && !bitForm)
  | 0xB => dst ≤ 7 && a ≤ 1 && b = 0
  -- N = 0 breaks no check of R115; such a SKIP skips nothing (R118, DESIGN CHOICE, log entry 64)
  | 0xC => dst = 0 && a = 0 && b = 0 && bitsOf k 15 10 = 0 && i + 1 + bitsOf k 9 4 ≤ count
      && (bitsOf k 3 0 ≤ 9 || bitsOf k 3 0 = 0xF)
  | 0xD => dst = 0 && a = 0 && b = 0 && bitsOf k 15 4 = 0
  | _ => false

/-- Whether the present entry at an address is well formed (R115, Table 5.2). -/
def cpxEntryOk (m : Cells) (a : Nat) : Bool :=
  let count := m.le a 1
  let fl := m.le (a + 1) 1
  let op (i : Nat) : Nat := m.le (a + 16 + 4 * i) 4
  let form := fl % 2 = 1
  1 ≤ count && count ≤ 64 && fl < 16 && m.le (a + 2) 2 = 0 && m.le (a + 12) 4 = 0
    && ((List.range 64).all fun i =>
      if i < count then microOk form (fl / 2 % 2 = 1) (fl / 4 % 2 = 1) count i (op i) else op i = 0)
    && ((List.range count).filter fun i => op i / 2 ^ 28 = 8).length ≤ 16

/-- Whether the table area at an address holds a valid table (R113, R115). -/
def tableOk (m : Cells) (a : Nat) : Bool :=
  let present := m.le (a + 4) 2
  m.le a 4 ≠ 0 && m.le (a + 6) 2 = 0 && zeros (m.readN (a + 12) 20)
    && crc32 (m.readN (a + 32) 4352) = BitVec.ofNat 32 (m.le (a + 8) 4)
    && ((List.range 16).all fun k =>
      let e := a + 32 + 272 * k
      if present / 2 ^ k % 2 = 1 then cpxEntryOk m e else zeros (m.readN e 272))
    && zeros (m.readN (a + 4384) (8192 - 4384))

/-- The bank a valid table loads; an empty bank otherwise (R123). -/
def loadTable (m : Cells) (a : Nat) : CpxBank :=
  if tableOk m a then
    { tableId := BitVec.ofNat 32 (m.le a 4), present := BitVec.ofNat 16 (m.le (a + 4) 2),
      entries := (List.range 16).map fun k =>
        let e := a + 32 + 272 * k
        ⟨m.le e 1, m.le (e + 1) 1, (List.range (m.le e 1)).map fun i => BitVec.ofNat 32 (m.le (e + 16 + 4 * i) 4)⟩ }
  else {}

/-! ### The program body (R224, R416) -/

/-- Entry `i` of the section directory: OFS and LEN. -/
def secAt (m : Cells) (half i : Nat) : Nat × Nat :=
  (m.le (halfBase half + 8 * i) 4, m.le (halfBase half + 8 * i + 4) 4)

/-- Whether the section directory follows R224. -/
def directoryOk (m : Cells) (half bodyLen : Nat) : Bool :=
  let ss := (List.range 8).map (secAt m half)
  let used := ss.filter fun s => s.2 ≠ 0
  (ss.all fun s => s.1 % 32 = 0) && (used.all fun s => 64 ≤ s.1 && s.1 + s.2 ≤ bodyLen)
    && ((List.range used.length).all fun i => (List.range i).all fun j =>
      let x := used.getD i (0, 0)
      let y := used.getD j (0, 0)
      x.1 + x.2 ≤ y.1 || y.1 + y.2 ≤ x.1)
    && (secAt m half 0).2 ≠ 0 && (secAt m half 1).2 ≠ 0 && secAt m half 7 = (0, 0)

/-- The tasks of section TASKS. -/
def readTasks (m : Cells) (half : Nat) : List TaskImg :=
  let a := halfBase half + (secAt m half 1).1 + 16
  (List.range 16).map fun n =>
    let x := a + 16 * n
    ⟨BitVec.ofNat 32 (m.le x 4), BitVec.ofNat 32 (m.le (x + 4) 4), BitVec.ofNat 32 (m.le (x + 8) 4), m.le (x + 12) 4⟩

/-- The records of section IOMAP. -/
def readIo (m : Cells) (half : Nat) : List IoRec :=
  let s := secAt m half 2
  (List.range (s.2 / 16)).map fun i =>
    let x := halfBase half + s.1 + 16 * i
    ⟨m.le x 1, m.le (x + 1) 1, m.le (x + 4) 4, m.le (x + 8) 4, m.le (x + 12) 4⟩

/-- The words of section RING: LAC_POS1 to 127, LAC_CFG, LAC_LINKMAX, and at the root LAC_BR1 to 127 (DEDUCED, log
entry 33). -/
def readRing (m : Cells) (half : Nat) : List Word :=
  let s := secAt m half 4
  (List.range (s.2 / 4)).map fun i => BitVec.ofNat 32 (m.le (halfBase half + s.1 + 4 * i) 4)

/-- The image that a half holds under a header. -/
def readImage (m : Cells) (half : Nat) (h : List Byte) : Image :=
  { half := half, imgVer := BitVec.ofNat 32 (hLe h 12 4), keepVer := BitVec.ofNat 32 (hLe h 16 4),
    tableId := BitVec.ofNat 32 (hLe h 24 4), beat := hLe h 28 4, tbTicks := hLe h 32 4, rmulM1 := hLe h 36 1,
    layoutId := hLe h 38 2, rsMode := hLe h 9 1 % 4, hash := sha256 h,
    escCtl := BitVec.ofNat 32 (m.le (halfBase half + (secAt m half 1).1) 4),
    tasks := readTasks m half, io := readIo m half, fpBase := (secAt m half 3).1,
    fpCnt := (secAt m half 3).2 / 32, ring := readRing m half, carry := secAt m half 5,
    migrate := secAt m half 6, bodyLen := hLe h 20 4 }

namespace TaskImg

/-- Whether the task is present. -/
def en (t : TaskImg) : Bool := t.cfg.getLsbD 31
/-- Whether its trigger is an alert source. -/
def byAlert (t : TaskImg) : Bool := t.cfg.getLsbD 30
def prio (t : TaskImg) : Nat := bitsOf t.cfg.toNat 27 24
def period (t : TaskImg) : Nat := bitsOf t.cfg.toNat 15 0
def phase (t : TaskImg) : Nat := bitsOf t.ph.toNat 15 0

end TaskImg

namespace Image

/-- The numbers of the present tasks. -/
def present (im : Image) : List Nat := (List.range 16).filter fun n => (im.tasks.getD n {}).en

/-- The size of a task's input view (R416). -/
def viewSize (im : Image) (n : Nat) : Nat :=
  ((im.io.filter fun r => r.typ = 1 && r.owner = n).map fun r => (r.len + 31) / 32 * 32).sum

/-- Whether the views follow R416. -/
def viewsOk (im : Image) : Bool :=
  let base (n : Nat) : Nat := (im.tasks.getD n {}).view.toNat
  im.present.all fun n =>
    base n % 32 = 0 && 0x40000 ≤ base n && base n < 0x1E0000 && base n + im.viewSize n ≤ 0x1E0000
      && im.present.all fun k => n = k || base n + im.viewSize n ≤ base k || base k + im.viewSize k ≤ base n

/-- Whether the task table follows R31 and R55: TASK_TABLE. -/
def tasksOk (im : Image) (m : Cells) : Bool :=
  let t (n : Nat) : TaskImg := im.tasks.getD n {}
  let code := secAt m im.half 0
  !im.present.isEmpty && 272 ≤ (secAt m im.half 1).2
    && zeros (m.readN (halfBase im.half + (secAt m im.half 1).1 + 4) 12)
    && (im.present.all fun n =>
      (t n).period ≠ 0 && ((t n).byAlert || (t n).phase < (t n).period)
        && (im.present.all fun k => n = k || (t n).prio ≠ (t k).prio)
        && code.1 ≤ (t n).entry && (t n).entry + 4 ≤ code.1 + code.2 && (t n).entry % 4 = 0
        && m.le (halfBase im.half + (t n).entry + 3) 1 = 0x01)
    && im.viewsOk

/-- Whether two ranges share a unit of `g` bytes. -/
def sharesUnit (g : Nat) (x y : IoRec) : Bool :=
  x.len ≠ 0 && y.len ≠ 0 && x.start / g ≤ (y.start + y.len - 1) / g && y.start / g ≤ (x.start + x.len - 1) / g

/-- Whether the I/O map follows R20 and R33: IO_MAP. -/
def ioOk (im : Image) : Bool :=
  let rec' (t : Nat) : List IoRec := im.io.filter fun r => r.typ = t
  let apart (rs : List IoRec) (bad : IoRec → IoRec → Bool) : Bool :=
    (List.range rs.length).all fun i => (List.range i).all fun j =>
      match rs[i]?, rs[j]? with
      | some x, some y => !bad x y
      | _, _ => true
  let owners (x y : IoRec) : Bool := x.owner ≠ y.owner && x.owner ≠ 0xFF && y.owner ≠ 0xFF
  apart (rec' 1) (sharesUnit 1) && ((rec' 1).all fun r => r.start + r.len ≤ 0x8000)
    && apart (rec' 2) (fun x y => owners x y && sharesUnit 1 x y)
    && apart (rec' 3) (fun x y => owners x y && sharesUnit 32 x y)
    && ((rec' 4).all fun r => r.start + r.len ≤ 4096) && apart (rec' 4) (sharesUnit 1)
    && (im.io.all fun r => r.typ = 4 || r.len = 0 || r.start + r.len ≤ 0x1E0000 || 0x200000 ≤ r.start)
    && (im.io.all fun r => r.safe = 0 || r.safe + r.len ≤ im.bodyLen)

/-- A configured position of the ring table: position, out and in lengths. -/
def posOf (im : Image) (base n : Nat) : Option (Nat × Nat × Nat) :=
  let w := (im.ring.getD (base + n - 1) 0).toNat
  if w / 2 ^ 31 = 1 then some (n, bitsOf w 26 16, bitsOf w 10 0) else none

/-- The configured positions of the branch ring, or of the level-0 ring. -/
def posns (im : Image) (level0 : Bool) : List (Nat × Nat × Nat) :=
  ((List.range 127).map (· + 1)).filterMap (im.posOf (if level0 then 129 else 0))

/-- TX_OFS in ns and LINK_MAX of the image. -/
def txOfs (im : Image) : Nat := 10 * bitsOf (im.ring.getD 127 0x03000190).toNat 15 0
def linkMax (im : Image) : Nat := bitsOf (im.ring.getD 128 0x32).toNat 15 0

/-- The order of slices in the I/O map under this image's ring table, as `Dev.sliceKeys`. -/
def keys (im : Image) (role : Nat) : List Nat :=
  if im.tbTicks = 0 then []
  else (if role ≠ 2 then [0] else []) ++ (if role ≠ 0 then (im.posns false).map (·.1) else [])
    ++ (if role = 2 then (im.posns true).map (256 + ·.1) else [])

/-- Whether the beat divides the branch cycle and every task that exchanges slices is cyclic, of phase 0 and of the
cycle of its ring (R27, R158): BEAT_GRID. -/
def gridOk (im : Image) (role : Nat) : Bool :=
  if im.tbTicks = 0 then true
  else
    let cyc (key : Nat) : Nat :=
      if 256 ≤ key || (key = 0 && role = 1) then (im.rmulM1 + 1) * im.tbTicks else im.tbTicks
    let ok (r : IoRec) (key : Nat) : Bool :=
      let t := im.tasks.getD r.owner {}
      r.owner = 0xFF || (t.en && !t.byAlert && t.phase = 0 && t.period * im.beat = cyc key)
    let slices (typ skip : Nat) : List IoRec := (im.io.filter fun r => r.typ = typ).drop skip
    3125 ≤ im.tbTicks && im.tbTicks ≤ 10000000 && im.tbTicks % im.beat = 0
      && ((slices 1 2).zip (im.keys role)).all (fun x => ok x.1 x.2)
      && ((slices 2 1).zip (im.keys role)).all (fun x => ok x.1 x.2)

/-- The frame times T (every link at LINK_MAX) and T_fold of a ring, in ns (R164). M counts the positions, the manager
and `more`: the second members of pairs on that ring (R155). -/
def frameTimes (im : Image) (level0 : Bool) (more : Nat) : Nat × Nat :=
  let ps := im.posns level0
  let bytes := (40 + 4 * ps.length + (ps.map fun p => p.2.1 + p.2.2).sum) * 4
  let mem := ps.length + 1 + more
  (bytes + mem * 120 + mem * im.linkMax, bytes + 2 * (mem - 1) * (120 + im.linkMax))

/-- Whether the frames fit their cycles (R164, R166): FRAME_TIME. `seconds` counts the second members on the branch ring
and on the level-0 ring. -/
def framesOk (im : Image) (role : Nat) (seconds : Nat × Nat) : Bool :=
  let b := im.frameTimes false seconds.1
  let l := im.frameTimes true seconds.2
  im.tbTicks = 0
    || (im.txOfs + b.2 + 1000 ≤ 10 * im.tbTicks
      && (role ≠ 2 || im.txOfs + l.1 + l.2 + 1000 ≤ 10 * (im.rmulM1 + 1) * im.tbTicks))

end Image

/-! ### The carry map (R225 to R229) -/

/-- A carry entry (Table 9.4). -/
structure CarryEnt where
  inst : Nat
  old : Nat
  new : Nat
  srcT : Nat
  dstT : Nat
  cnt : Nat
  deriving DecidableEq, Repr

/-- The entries of a carry map; none for the identity map (R229). -/
def carryEntries (m : Cells) (im : Image) : List CarryEnt :=
  if im.carry.2 = 0 then []
  else
    let a := halfBase im.half + im.carry.1
    (List.range (min (m.le a 4) 8192)).map fun i =>
      let x := a + 16 + 16 * i
      ⟨m.le x 4, m.le (x + 4) 4, m.le (x + 8) 4, m.le (x + 12) 1, m.le (x + 13) 1, m.le (x + 14) 2⟩

namespace CarryEnt

def count (e : CarryEnt) : Nat := elemCount e.cnt

/-- Whether a type pair is listed in R226. -/
def pairOk (e : CarryEnt) : Bool :=
  (tyNumeric e.srcT && tyNumeric e.dstT) || (tyCounter e.srcT && tyCounter e.dstT)
    || (e.srcT = e.dstT && [0x10, 0x11, 0x20, 0x21, 0x22].contains e.srcT)

/-- The destination as an interval: 0 for bits of memory and 1 for slots, first and one past the last. -/
def dest (e : CarryEnt) : Nat × Nat × Nat :=
  if e.dstT = 0x20 then (1, e.new, e.new + e.count)
  else if e.dstT = 0x11 || e.dstT = 0x21 then (0, e.new, e.new + e.count)
  else (0, 8 * e.new, 8 * (e.new + tySize e.dstT * e.count))

/-- The source bytes of a converted entry: first and one past the last. -/
def source (e : CarryEnt) : Option (Nat × Nat) :=
  if e.srcT = 0x20 || e.srcT = 0x21 || e.srcT = 0x22 then none
  else if e.srcT = 0x11 then some (e.old / 8, (e.old + e.count + 7) / 8)
  else some (e.old, e.old + tySize e.srcT * e.count)

/-- Whether the destination lies in the retentive region, rather than in the flags. -/
def toRet (e : CarryEnt) : Bool := e.dest.1 = 0 && e.dest.2.1 < 8 * 0x30000

/-- Whether an entry alone follows R227. -/
def ok (e : CarryEnt) (im : Image) : Bool :=
  let slotNew (s : Nat) : Bool := im.io.any fun r => r.typ = 4 && r.owner ≠ 0xFF && r.start ≤ s && s < r.start + r.len
  let al (t a : Nat) : Bool := tySize t = 0 || a % tySize t = 0
  e.pairOk && e.count ≠ 0 && (tyNumeric e.srcT || (!srcBe e.cnt && !dstBe e.cnt))
    && (e.dstT = 0x20 || (8 * 0x10000 ≤ e.dest.2.1 && e.dest.2.2 ≤ 8 * 0x40000))
    && (match e.source with | some s => decide (s.2 ≤ 0x1E0000) | none => true)
    && (e.srcT = 0x22 || e.srcT = 0x11 || e.srcT = 0x20 || e.srcT = 0x21 || (al e.srcT e.old && al e.dstT e.new))
    && (e.dstT ≠ 0x20 || (e.old + e.count ≤ 4096 && e.new + e.count ≤ 4096
        && (List.range e.count).all fun i => slotNew (e.new + i)))
    && (e.srcT ≠ 0x22 || e.old + e.count ≤ im.bodyLen)

end CarryEnt

/-- Whether the carry map follows R227 and R229: CARRY_MAP. -/
def carryOk (m : Cells) (im : Image) (storedVer : Nat) : Bool :=
  let es := carryEntries m im
  let a := halfBase im.half + im.carry.1
  let head := im.carry.2 = 0
    || (16 ≤ im.carry.2 && m.le a 4 ≤ 8192 && zeros (m.readN (a + 4) 12) && 16 + 16 * m.le a 4 ≤ im.carry.2)
  head && (if es.isEmpty then im.keepVer.toNat = storedVer
    else
      (es.all fun e => e.ok im)
        && ((List.range es.length).all fun i => (List.range i).all fun j =>
          match es[i]?, es[j]? with
          | some x, some y =>
            x.inst ≠ y.inst
              && (x.dest.1 ≠ y.dest.1 || x.dest.2.2 ≤ y.dest.2.1 || y.dest.2.2 ≤ x.dest.2.1)
          | _, _ => true)
        && ((es.filter fun e => e.dstT = 0x21).map (·.count)).sum ≤ 1024)

/-- Whether the migration table follows R238 and R239: MIGRATION. It is absent exactly when KEEP_VER is the stored
version, for FROM_KEEP must equal a stored version that KEEP_VER exceeds. -/
def migrateOk (m : Cells) (im : Image) (storedVer : Nat) : Bool :=
  if im.migrate.2 = 0 then im.keepVer.toNat ≤ storedVer
  else
    let a := halfBase im.half + im.migrate.1
    let es := readEntries m (m.le (a + 4) 4) (a + 16)
    storedVer < im.keepVer.toNat && m.le a 4 = storedVer && zeros (m.readN (a + 8) 8)
      && es.all fun e => e.newLen ≤ 224 && e.moves.all fun v =>
        let n := elemCount v.2.2.2.2
        let st := v.2.2.1
        let dt := v.2.2.2.1
        ((tyNumeric st && tyNumeric dt) || (st = 0x10 && dt = 0x10))
          && v.1 + n * tySize st ≤ 224 && v.2.1 + n * tySize dt ≤ e.newLen

/-! ### Headers and settings (R218 to R220) -/

/-- The first IMAGE_BEGIN check that a header fails; `role` is not needed there. `run`: the device is in RUN; `armed`: a
resole is armed; `cur`: the image in force (R220, Table 9.2). -/
def beginCheck (d : Dev) (h : List Byte) (run armed : Bool) (beat : Nat) (cur : Option Image) (storedVer : Nat) :
    Option Nat :=
  let kind := hLe h 5 1
  let slot := hLe h 8 1
  let len := hLe h 20 4
  let prog := kind = 1
  let keyHash := (vget d.keyHash slot 0)
  let fails : List (Nat × Bool) := [
    (0x01, hLe h 0 4 ≠ 0x59444C44), (0x02, hLe h 4 1 ≠ 1),
    (0x03, hLe h 124 4 ≠ (crc32 (h.take 124)).toNat), (0x04, hLe h 6 2 ≠ 0x9640),
    (0x05, !(1 ≤ kind && kind ≤ 3)), (0x06, 3 < slot || keyHash = 0),
    (0x07, d.keyRevoked.getLsbD slot), (0x08, leNat (sha256 ((h.drop 128).take 64)) ≠ keyHash.toNat),
    (0x09, !ecdsaVerify ((h.drop 128).take 64) (sha256 (h.take 192)) ((h.drop 192).take 64)),
    (0x0A, if prog then len < 64 || 2088960 < len else if kind = 2 then len ≠ 8192 else len ≠ 512),
    (0x0B, !(zeros ((h.drop 10).take 2) && hLe h 37 1 = 0 && zeros ((h.drop 72).take 52) && hLe h 9 1 < 3)
      || (if prog then hLe h 28 4 < 1000 || 10000000 < hLe h 28 4
          else hLe h 9 1 ≠ 0 || hLe h 16 4 ≠ 0 || !zeros ((h.drop 28).take 12) || (kind = 3 && hLe h 24 4 ≠ 0))),
    (0x0C, kind ≠ 3 && armed),
    (0x0D, prog && run && hLe h 28 4 * 10 ≠ beat),
    (0x0E, prog && run && (hLe h 32 4, hLe h 36 1, hLe h 38 2)
      ≠ (match cur with | some im => (im.tbTicks, im.rmulM1, im.layoutId) | none => (0, 0, 0))),
    (0x0F, prog && hLe h 16 4 < storedVer)]
  (fails.find? (·.2)).map (·.1)

/-- The first IMAGE_END check that a received program image fails (R222, Table 9.2); `tableBad` says that the table area
of the half is marked invalid (R115). -/
def programCheck (m : Cells) (half : Nat) (h : List Byte) (role : Nat) (seconds : Nat × Nat) (storedVer : Nat)
    (run : Bool) (cur : Option Image) (tableBad : Bool) : Option Nat :=
  let len := hLe h 20 4
  let im := readImage m half h
  let fp := secAt m half 3
  let tbl := halfBase half + tableOfs
  let fails : List (Nat × Bool) := [
    (0x21, sha256 (m.readN (halfBase half) len) ≠ (h.drop 40).take 32),
    (0x22, !directoryOk m half len), (0x23, !im.tasksOk m), (0x24, !im.ioOk), (0x25, !im.gridOk role),
    (0x26, !im.framesOk role seconds),
    (0x27, (im.tbTicks ≠ 0 && im.ring.isEmpty)
      || (run && im.ring ≠ (match cur with | some x => x.ring | none => []))),
    (0x28, 131072 < fp.2 || fp.2 % 32 ≠ 0 || fp.1 % 32 ≠ 0),
    (0x29, im.tableId ≠ 0 && !(!tableBad && tableOk m tbl && m.le tbl 4 = im.tableId.toNat)),
    (0x2B, !carryOk m im storedVer), (0x2C, !migrateOk m im storedVer)]
  (fails.find? (·.2)).map (·.1)

/-- The first IMAGE_END check that a received table fails. -/
def tableCheck (m : Cells) (half : Nat) (h : List Byte) : Option Nat :=
  let a := halfBase half + tableOfs
  if sha256 (m.readN a 8192) ≠ (h.drop 40).take 32 then some 0x21
  else if !tableOk m a || m.le a 4 ≠ hLe h 24 4 then some 0x2A else none

/-- Whether 512 settings bytes form a valid generation (R376). -/
def settingsOk (bs : List Byte) : Bool :=
  let fmt := hLe bs 0 2
  (fmt = 1 || fmt = 2) && hLe bs 508 4 = (crc32 (bs.take 508)).toNat

/-- The first IMAGE_END check that a settings image fails (R222, R378). -/
def settingsCheck (bs h : List Byte) : Option Nat :=
  let add := hLe bs 449 1
  if sha256 bs ≠ (h.drop 40).take 32 then some 0x21
  else if !settingsOk bs || !(add ≤ 3 || add = 0xFF) || 16 ≤ hLe bs 448 1 then some 0x2D else none

namespace Core

/-- The half that intake writes (R216). -/
def inactiveHalf (c : Core) : Nat :=
  match c.dev.esc.image with
  | some im => 1 - im.half
  | none => 0

/-- A half record. -/
def halfRec (c : Core) (h : Nat) : HalfRec := vget c.dev.nv.halves h {}

/-- A half record written. -/
def setHalf (c : Core) (h : Nat) (x : HalfRec) : Core :=
  c.onDev fun d => { d with nv := d.nv.sysWrite fun v => { v with halves := v.halves.setIfInBounds h x } }

/-- The fields of ESCAPEMENT that come from the image are loaded at the end of BOOT and at a seam; without a verified
image P is 1 ms (R27, R51). -/
def loadEsc (d : Dev) : Dev :=
  match d.esc.image with
  | none => d.fset F.ESC_BEAT_PERIOD (d.esc.period / 10)
  | some im =>
    (List.range 16).foldl (fun (d : Dev) n =>
      let t := im.tasks.getD n {}
      -- reserved bits read 0 (R10, R51)
      ((d.rset (A.ESC_TCFG n) (t.cfg &&& 0xEF1FFFFF#32)).rset (A.ESC_TPH n) (t.ph &&& 0xFFFF#32)).rset (A.ESC_TVIEW n) t.view)
      ((d.fset F.ESC_BEAT_PERIOD im.beat).rset A.ESC_CTL (im.escCtl &&& 0xFFFF8000#32))

/-- The image fields of MOVEMENT and LACE take an image's values, and the image is the active one (R27, R57, R158). -/
def loadImage (c : Core) (im : Image) : Core :=
  c.onDev fun d =>
    let d := { d with esc := { d.esc with image := some im, period := 10 * im.beat } }
    let d := (d.rsetN A.MOV_FP_BASE (halfBase im.half + im.fpBase)).rsetN A.MOV_FP_CNT im.fpCnt
    (d.loadRing im).fset F.LAC_LAYOUT_LAYOUT_ID im.layoutId

/-- Whether a half's header and body stand a check at BOOT (R217). -/
def halfSound (c : Core) (h : Nat) : Bool :=
  let r := c.halfRec h
  let hd := r.header
  let len := hLe hd 20 4
  hd.length = 256 && hLe hd 0 4 = 0x59444C44 && hLe hd 5 1 = 1 && hLe hd 124 4 = (crc32 (hd.take 124)).toNat
    && sha256 (c.mem.cells.readN (halfBase h) len) = (hd.drop 40).take 32

/-- Whether an image's required table stands in its half (R114, R123). -/
def tableThere (c : Core) (im : Image) : Bool :=
  let a := halfBase im.half + tableOfs
  im.tableId = 0 || (!(c.halfRec im.half).tableBad && tableOk c.mem.cells a && c.mem.cells.le a 4 = im.tableId.toNat)

/-- The bank that the table of a half loads, whatever table the half's program requires; empty where the half holds no
valid table (R123). -/
def halfTable (c : Core) (h : Nat) : CpxBank :=
  if (c.halfRec h).tableBad then {} else loadTable c.mem.cells (halfBase h + tableOfs)

/-- The slots are assigned as an image's I/O map says; slots that no task has any more are cleared (Table 9.6). -/
def assignSlots (c : Core) (im : Image) (carried : List Nat) : Core :=
  let owner (n : Nat) : Option Nat :=
    ((im.io.filter fun r => r.typ = 4 && r.owner ≠ 0xFF).find? fun r => r.start ≤ n && n < r.start + r.len).map (·.owner)
  c.onDev fun d =>
    { d with slots := (List.range 4096).foldl (fun (l : List (Nat × Slot)) n =>
        let old := alGet n ({} : Slot) l
        let new : Slot := match owner n with
          | some t => if carried.contains n then { old with assigned := true, owner := t }
              else { assigned := true, owner := t, poison := old.poison }
          | none => { poison := old.poison }
        alSet ({} : Slot) n new l) d.slots }

end Core

end Sys2Proof.Machine
end

