-- ==== Sys2Proof/Machine/Loop.lean ====
section
/-! DEFINITION. LOOP (R285 to R298): the step in Q15 arithmetic, outputs, modes, cascades, plausibility supervision and
configuration checks. -/

namespace Sys2Proof.Machine

/-- A sum or shift in the 40-bit accumulator, with whether it saturated (R289). -/
def sat40 (x : Int) : Int × Bool :=
  let m : Int := 2 ^ 39 - 1
  if m < x then (m, true) else if x < -m then (-m, true) else (x, false)

/-- clamp15 of R289. -/
def clamp15 (x : Int) : Int := clampI (-32768) 32767 x

/-- A right shift by 15, toward −∞ (R289). -/
def shr15 (x : Int) : Int := x / 32768

/-- What a step reads of a loop's registers. -/
structure LoopIn where
  sp : Int
  pv : Int
  pvPrev : Int
  kp : Int
  ki : Int
  kd : Int
  a : Int
  ksh : Nat
  dir : Bool
  lo : Int
  hi : Int
  man : Int
  i : Int
  df : Int
  deriving DecidableEq, Repr

/-- What a step computes: OUT, I, DF and whether the accumulator saturated. -/
structure LoopOut where
  out : Int
  i : Int
  df : Int
  sat : Bool
  deriving DecidableEq, Repr

/-- p and DF of a step (R289). -/
def loopPD (x : LoopIn) : Int × Int × Int × Bool :=
  let e := if x.dir then clamp15 (x.pv - x.sp) else clamp15 (x.sp - x.pv)
  let p := sat40 (x.kp * e * 2 ^ x.ksh)
  let d := sat40 (x.kd * clamp15 (x.pvPrev - x.pv) * 2 ^ x.ksh)
  let dv := if x.dir then -d.1 else d.1
  let df := x.df + shr15 ((shr15 dv - x.df) * (32768 - x.a))
  (e, p.1, df, p.2 || d.2)

/-- A step in AUTO (R289). -/
def loopAuto (x : LoopIn) : LoopOut :=
  let r := loopPD x
  let kie := x.ki * r.1
  let ui := sat40 (x.i + kie)
  let s1 := sat40 (r.2.1 + ui.1)
  let s2 := sat40 (r.2.2.1 * 32768)
  let u := sat40 (s1.1 + s2.1)
  let uq := shr15 u.1
  let out := clampI x.lo x.hi uq
  let i := if out = uq then ui.1 else if out = x.hi && kie < 0 then ui.1 else if out = x.lo && 0 < kie then ui.1 else x.i
  ⟨out, clampI (x.lo * 32768) (x.hi * 32768) i, r.2.2.1, r.2.2.2 || ui.2 || s1.2 || s2.2 || u.2⟩

/-- A step that presets the integrator so that OUT equals `target` unless the preset is clamped (R292). -/
def loopPreset (x : LoopIn) (target : Int) : LoopOut :=
  let r := loopPD x
  let s1 := sat40 (target * 32768 - r.2.1)
  let s2 := sat40 (r.2.2.1 * 32768)
  let s3 := sat40 (s1.1 - s2.1)
  let i := clampI (x.lo * 32768) (x.hi * 32768) s3.1
  let u := sat40 (r.2.1 + i + s2.1)
  ⟨clampI x.lo x.hi (shr15 u.1), i, r.2.2.1, r.2.2.2 || s1.2 || s2.2 || s3.2 || u.2⟩

/-- A step in MANUAL (R289). -/
def loopManual (x : LoopIn) : LoopOut :=
  let r := loopPD x
  ⟨clampI x.lo x.hi x.man, x.i, r.2.2.1, r.2.2.2⟩

/-- The model of R294 over one step. -/
def loopModel (y mg ma outd : Int) : Int := y + shr15 ((shr15 (mg * outd) - y) * (32768 - ma))

/-- The code or duty of an output value (R290). -/
def loopCode (out : Int) : Nat := if out < 0 then 0 else (out * 2).toNat + (if out = 32767 then 1 else 0)

namespace Dev

/-- A signed 16-bit field. -/
def fsgn (d : Dev) (f : Fld) : Int := signed 16 (d.fget f)

/-- A signed 16-bit field written. -/
def fsetI (d : Dev) (f : Fld) (v : Int) : Dev := d.fset f (unsigned 16 v)

/-- A loop's store. -/
def loopSt (d : Dev) (n : Nat) : LoopSt := alGet n {} d.loops

/-- A loop's store changed. -/
def modLoop (d : Dev) (n : Nat) (f : LoopSt → LoopSt) : Dev := { d with loops := alSet {} n (f (d.loopSt n)) d.loops }

/-- The integrator, 40 bits. -/
def loopI (d : Dev) (n : Nat) : Int := signed 40 (d.rnat (A.LOP_INTL n) + d.fget (F.LOP_INTH_I n) * 2 ^ 32)

/-- The integrator written. -/
def setLoopI (d : Dev) (n : Nat) (v : Int) : Dev :=
  let u := unsigned 40 v
  (d.rsetN (A.LOP_INTL n) u).fset (F.LOP_INTH_I n) (u / 2 ^ 32)

/-- The period of a loop in ns. -/
def loopPeriod (d : Dev) (n : Nat) : Nat := 1000 * d.fget (F.LOP_PER_PERIOD n)

/-- A cold start of a loop's model (R295). -/
def loopCold (d : Dev) (n : Nat) : Dev :=
  (((d.modLoop n fun s => { s with cold := true, coldN := d.fget (F.LOP_SUP_DEAD n) + 1, hist := [] }).fput
    (F.LOP_STS_WARM n) false)).tally 0x804

/-- EN set, or entry to RUN with EN set (R292, R295). -/
def loopStart (d : Dev) (n : Nat) : Dev :=
  (d.loopCold n).modLoop n fun s => { s with first := true, preset := true, hold := false, lastDue := d.tb }

/-- Entry to RUN. -/
def loopsRun (d : Dev) : Dev :=
  let d := (List.range 64).foldl (fun d n =>
    let d := d.fset (F.LOP_DLY_MAX n) 0
    if d.fbit (F.LOP_CFG_EN n) then d.loopStart n else d) d
  d.rsetN A.LOP_QMAX 0

/-- A member that becomes HOLDER continues its loops with cold models (R285, R295). -/
def loopsHolder (d : Dev) : Dev :=
  (List.range 64).foldl (fun d n =>
    if d.fbit (F.LOP_CFG_EN n) then (d.loopCold n).modLoop n fun s => { s with lastDue := d.tb } else d) d

/-- The loops that take their setpoint from loop `n`. -/
def slavesOf (d : Dev) (n : Nat) : List Nat :=
  (List.range 64).filter fun k => d.fbit (F.LOP_CFG_SP_CAS k) && d.fget (F.LOP_CFG_SP_LOOP k) = n

/-- The slave whose PV a master tracks: the lowest one that is in MANUAL or not stepping (R293, DEDUCED, log entry
47). -/
def tracked (d : Dev) (n : Nat) : Option Nat :=
  (d.slavesOf n).find? fun k => !d.fbit (F.LOP_CFG_AUTO k) || !d.loopSteps k

/-- The mirror of PLAUSIBILITY in LOP_PLAUS_LO and LOP_PLAUS_HI. -/
def plausShow (d : Dev) (n : Nat) : Dev :=
  d.setBit (if n < 32 then ⟨A.LOP_PLAUS_LO, 31, 0⟩ else ⟨A.LOP_PLAUS_HI, 31, 0⟩) (n % 32)
    (d.fbit (F.LOP_STS_PLAUSIBILITY n))

/-- The output goes to its destination (R290). -/
def loopDispatch (d : Dev) (n : Nat) (out : Int) : Dev :=
  let ch := d.fget (F.LOP_CFG_DST_CH n)
  match d.fget (F.LOP_CFG_DST n) with
  | 1 =>
    if ch < 4 && d.aoLoop ch then
      (d.modField fun f => { f with loopAo := f.loopAo.setIfInBounds ch (loopCode out) }).fieldEvent
    else d
  | 2 =>
    if d.fget (F.FLD_DOCFG_MODE ch) = 2 then
      (d.modField fun f => { f with loopDo := f.loopDo.setIfInBounds ch (loopCode out) }).fieldEvent
    else d
  | _ => d

/-- PLAUSIBILITY and its reaction (R294, R296). -/
def loopPlaus (d : Dev) (n : Nat) (pv y : Int) : Dev :=
  let d := ((d.fput (F.LOP_STS_PLAUSIBILITY n) true).plausShow n).raise F.LOP_EVT_PLAUS
  let d := (d.alert 28).tally 0x802
  let d := d.occur 16 F.LOP_EVT_PLAUS.lo [BitVec.ofNat 32 n, BitVec.ofNat 32 (unsigned 16 pv),
      BitVec.ofNat 32 (unsigned 16 y)]
  match d.fget (F.LOP_CFG_PREACT n) with
  | 0 => (d.modLoop n fun s => { s with hold := true }).fput (F.LOP_STS_HELD n) true
  | 1 => (d.fput (F.LOP_CFG_AUTO n) false).fset (F.LOP_SP_MAN n) (d.fget (F.LOP_OUT_GOOD n))
  | 2 => (d.fput (F.LOP_CFG_AUTO n) false).fset (F.LOP_SP_MAN n) (d.fget (F.LOP_SAFE_SAFE n))
  | _ => d

/-- The supervision after a step (R294). -/
def loopCheck (d : Dev) (n : Nat) (pv out : Int) : Dev :=
  let s := d.loopSt n
  let hist := (BitVec.ofInt 16 out :: s.hist).take 256
  let d := d.modLoop n fun s => { s with hist := hist, cold := false }
  let y0 := if s.cold then pv else d.fsgn (F.LOP_PV_Y n)
  let y := match hist[d.fget (F.LOP_SUP_DEAD n)]? with
    | some o => loopModel y0 (d.fsgn (F.LOP_MOD_MG n)) (d.fsgn (F.LOP_MOD_MA n)) o.toInt
    | none => y0
  let y := clamp15 y
  let d := d.fsetI (F.LOP_PV_Y n) y
  if s.coldN ≠ 0 then
    let d := d.modLoop n fun s => { s with coldN := s.coldN - 1 }
    if s.coldN = 1 then d.fput (F.LOP_STS_WARM n) true else d
  else
    let thr := d.fget (F.LOP_SUP_THR n)
    if thr = 0 then d
    else if (pv - y).natAbs ≤ thr then (d.fset (F.LOP_STS_CNT n) 0).fsetI (F.LOP_OUT_GOOD n) out
    else
      let d := d.finc (F.LOP_STS_CNT n)
      if d.fget (F.LOP_SUP_NLIM n) ≤ d.fget (F.LOP_STS_CNT n) && !d.fbit (F.LOP_STS_PLAUSIBILITY n) then
        d.loopPlaus n pv y
      else d

/-- A lasting state fault of a loop (R297). -/
def loopFault (d : Dev) (n : Nat) : Dev :=
  let d := (d.fput (F.LOP_STS_FAULT n) true).fput (F.LOP_CFG_AUTO n) false
  let safe := d.fsgn (F.LOP_SAFE_SAFE n)
  let d := (d.fsetI (F.LOP_OUT_OUT n) safe).loopDispatch n safe
  let d := if d.fbit F.LOP_FLT_STATE then d else (d.fput F.LOP_FLT_STATE true).fset F.LOP_FLT_LOOP n
  d.raise F.LOP_EVT_FAULT

end Dev

namespace Core

open Dev (b2n)

/-- The measured value of a loop: an AI channel, or a word of the input image, whose group is checked as it is read
(R243, R288). -/
def loopPV (c : Core) (n : Nat) : Core × Int :=
  if c.dev.fget (F.LOP_CFG_PV_SRC n) = 0 then
    (c, (c.dev.fget (F.FLD_AIVAL_CODE (c.dev.fget (F.LOP_CFG_PV_CH n))) / 2 : Nat))
  else
    let x := c.checkedRead (c.dev.fget (F.LOP_IMG_PV_OFS n) % 0x8000) 2
    (x.1, signed 16 (leNat x.2))

/-- What the step of a loop reads beside the measured value `pv`; the first step of an AUTO loop starts from it
(R292). -/
def loopIn (c : Core) (n : Nat) (pv : Int) : LoopIn :=
  let d := c.dev
  let first := (d.loopSt n).first && d.fbit (F.LOP_CFG_AUTO n)
  { sp := if d.fbit (F.LOP_CFG_SP_CAS n) then d.fsgn (F.LOP_OUT_OUT (d.fget (F.LOP_CFG_SP_LOOP n)))
      else d.fsgn (F.LOP_SP_SP n),
    pv := pv, pvPrev := if first then pv else d.fsgn (F.LOP_PV_PV n),
    kp := d.fsgn (F.LOP_KP_KP n), ki := d.fsgn (F.LOP_KI_KI n), kd := d.fsgn (F.LOP_KP_KD n), a := d.fsgn (F.LOP_KI_A n),
    ksh := d.fget (F.LOP_CFG_KSH n), dir := d.fbit (F.LOP_CFG_DIR n),
    lo := d.fsgn (F.LOP_LIM_OUT_LO n), hi := d.fsgn (F.LOP_LIM_OUT_HI n), man := d.fsgn (F.LOP_SP_MAN n),
    i := d.loopI n, df := if first then 0 else d.fsgn (F.LOP_INTH_DF n) }

/-- The computation of a step: AUTO, MANUAL, a preset, tracking a slave, or HOLD (R289, R292, R293, R296). -/
def loopCompute (c : Core) (n : Nat) (x : LoopIn) : LoopOut :=
  let s := c.dev.loopSt n
  if s.hold then { loopManual x with out := c.dev.fsgn (F.LOP_OUT_OUT n) }
  else
    match c.dev.tracked n with
    | some k =>
      let pv := c.dev.fsgn (F.LOP_PV_PV k)
      { loopPreset x pv with out := clampI x.lo x.hi pv }
    | none =>
      if !c.dev.fbit (F.LOP_CFG_AUTO n) then loopManual x
      else if s.preset then loopPreset x x.man
      else loopAuto x

/-- The first of the two groups that hold a loop's state, by fold address (R297). -/
def loopGroup (n : Nat) : Nat := 0x1900000 + 2 * n

/-- The state of a loop read for a step; `e1` and `e2` are the wrong symbols of the read and of its re-read (R297).
Answers whether the step may go on. -/
def loopRead (c : Core) (n : Nat) (e1 e2 : List (Nat × Byte)) : Core × Bool :=
  match classify e1 with
  | .clean => (c, true)
  | .correctable _ _ => (c.noteCorr (loopGroup n), true)
  | _ =>
    let c := c.noteUncorr (loopGroup n)
    if (classify e2).bad then (c.onDev fun d => (d.lasting 2 8).loopFault n, false)
    else (c.onDev fun d => (d.transient 2).occurBlk 13 F.WKM_EVT_UNCORR.lo 5, true)

/-- The re-read of a watched group; one of a loop's state that fails twice is that loop's lasting fault (R245, R297). -/
def watchReread (c : Core) (g : Nat) (e1 e2 : List (Nat × Byte)) : Core :=
  let x := c.reread g e1 e2
  if loopGroup 0 ≤ g && g < loopGroup 64 && (c.readClass g e1).bad && (c.readClass g e2).bad then
    x.onDev fun d => d.loopFault ((g - loopGroup 0) / 2)
  else x

/-- The computed step takes effect (R289, R290, R294). The dispatch delay is a free value: the model leaves timing out
(DESIGN CHOICE, log entry 11). -/
def loopApply (c : Core) (n : Nat) (x : LoopIn) (o : LoopOut) : Core :=
  let s := c.dev.loopSt n
  let auto := c.dev.fbit (F.LOP_CFG_AUTO n)
  let trk := (c.dev.tracked n).isSome
  c.onDev fun d =>
    let d := if o.sat then
        (((d.fput (F.LOP_STS_SATF n) true).raise F.LOP_EVT_SAT).tally 0x803) else d
    let d := d.setLoopI n o.i
    let df := if -32768 ≤ o.df && o.df ≤ 32767 then unsigned 16 o.df else (Config.openWord d.free).toNat % 65536
    let d := ((d.fset (F.LOP_INTH_DF n) df).fsetI (F.LOP_OUT_OUT n) o.out).fsetI (F.LOP_PV_PV n) x.pv
    let d := d.fput (F.LOP_STS_HELD n) (s.hold || trk)
    let d := d.modLoop n fun s => { s with first := false, preset := if auto && !s.hold && !trk then false else s.preset }
    let d := if s.hold then d else d.loopDispatch n o.out
    let dly := (Config.openWord d.free).toNat % 65536
    let d := ((d.nextFree.fset (F.LOP_DLY_LAST n) dly).fmaxTo (F.LOP_DLY_MAX n) dly)
    let q := Config.openWord d.free
    let d := d.nextFree.rsetN A.LOP_QMAX (max (d.rnat A.LOP_QMAX) q.toNat)
    (d.loopCheck n x.pv o.out).tally 0x800

/-- A loop at its newest due instant (R285 to R287): due instants passed over count as dropped steps. -/
def loopStep (c : Core) (n : Nat) (e1 e2 : List (Nat × Byte)) : Core :=
  let d := c.dev
  let per := d.loopPeriod n
  let due := d.tb / per * per
  let s := d.loopSt n
  if !d.loopSteps n || per = 0 || due ≤ s.lastDue then c
  else
    let missed := (due / per) - (s.lastDue / per) - 1
    let c := c.onDev fun d =>
      let d := d.modLoop n fun s => { s with lastDue := due }
      if missed = 0 then d else ((d.finc (F.LOP_STS_LATE n) missed).raise F.LOP_EVT_LATE).tally 0x801 missed
    let r := c.loopRead n e1 e2
    if r.2 then
      let p := r.1.loopPV n
      let x := p.1.loopIn n p.2
      p.1.loopApply n x (p.1.loopCompute n x)
    else r.1

/-- The destination word of a loop, when it is a word of an output range that no task owns (R291). -/
def loopWord (c : Core) (n : Nat) : Option Nat :=
  let a := 0x8000 + c.dev.fget (F.LOP_IMG_OUT_OFS n)
  if a % 2 = 0 && (c.dev.ioRecs 2).any (fun r => r.owner = 0xFF && ioHas r a && ioHas r (a + 1)) then some a else none

/-- LOOP-owned output words are published at step 3 of a beat (R291). -/
def loopPublish (c : Core) : Core :=
  (List.range 64).foldl (fun c n =>
    if c.dev.fget (F.LOP_CFG_DST n) = 3 && (c.dev.fbit (F.LOP_CFG_EN n)) then
      match c.loopWord n with
      | some a =>
        let bs := leBytes 2 (c.dev.fget (F.LOP_OUT_OUT n))
        let c := c.put a bs
        c.onDev fun d =>
          let d := { d with lac := { d.lac with out := d.lac.out.writeN a bs } }
          { d with esc := { d.esc with pubOut := d.esc.pubOut.writeN a bs, pubNext := d.esc.pubNext.writeN a bs } }
      | none => c
    else c) c

/-- After a seam a destination outside an unowned output range is dropped (R291). -/
def loopSeam (c : Core) : Core :=
  (List.range 64).foldl (fun c n =>
    if c.dev.fget (F.LOP_CFG_DST n) = 3 && (c.loopWord n).isNone then
      c.onDev fun d => (d.fset (F.LOP_CFG_DST n) 0).raise F.LOP_EVT_CFG_LOST
    else c) c

/-- Whether the masters from loop `n` on lead back to it (R293). -/
def loopCycle (d : Dev) (n : Nat) : Nat → Nat → Bool
  | 0, _ => true
  | k + 1, m =>
    if !d.fbit (F.LOP_CFG_SP_CAS m) then false
    else
      let x := d.fget (F.LOP_CFG_SP_LOOP m)
      if x = n then true else loopCycle d n k x

/-- Whether the registers of a loop, as a write leaves them, break a rule of R289, R291, R293 or R298. -/
def loopBad (c : Core) (n : Nat) : Bool :=
  let d := c.dev
  decide (1 < d.fget (F.LOP_CFG_PV_SRC n)) || decide (d.fsgn (F.LOP_LIM_OUT_HI n) < d.fsgn (F.LOP_LIM_OUT_LO n))
    || decide (d.fget (F.LOP_PER_PERIOD n) < 50) || decide (10000000 < d.fget (F.LOP_PER_PERIOD n))
    || d.fget (F.LOP_SUP_NLIM n) = 0
    || (d.fget (F.LOP_CFG_DST n) = 3 && (c.loopWord n).isNone)
    || (d.fbit (F.LOP_CFG_SP_CAS n) && loopCycle d n 64 n)

/-- A mode write (R292): AUTO to MANUAL holds OUT, MANUAL to AUTO presets at the next step. -/
def loopMode (d : Dev) (n : Nat) (was : Bool) : Dev :=
  let now := d.fbit (F.LOP_CFG_AUTO n)
  if was && !now then d.fset (F.LOP_SP_MAN n) (d.fget (F.LOP_OUT_OUT n))
  else if !was && now then d.modLoop n fun s => { s with preset := true }
  else d

/-- An enable write (R292, R295, R297). -/
def loopEnable (d : Dev) (n : Nat) (was : Bool) : Dev :=
  let now := d.fbit (F.LOP_CFG_EN n)
  if !was && now then (d.fput (F.LOP_STS_FAULT n) false).loopStart n else d

/-- The consequences of a write `v` to a loop's block: a write that breaks a rule leaves the register unchanged.
`before` is the device before the write. -/
def loopCfg (before : Dev) (c : Core) (addr : Nat) (v : Word) : Core :=
  let n := (addr % 0x10000 - 0x100) / 0x40
  let off := (addr % 0x10000) % 0x40
  if [0x00, 0x04, 0x10, 0x18, 0x20].contains off && c.loopBad n then
      c.onDev fun d => (d.rset addr (before.rget addr)).fput F.LOP_STAT_CFG_REFUSED true
  else c.onDev fun d =>
    match off with
    | 0x00 =>
      let d := loopMode d n (before.fbit (F.LOP_CFG_AUTO n))
      loopEnable d n (before.fbit (F.LOP_CFG_EN n))
    | 0x04 => d.modLoop n fun s => { s with lastDue := d.tb }
    | 0x1C => if d.rget addr = before.rget addr then d else d.loopCold n
    | 0x20 =>
      if d.fget (F.LOP_SUP_DEAD n) = before.fget (F.LOP_SUP_DEAD n) then d else d.loopCold n
    | 0x38 =>
      if v.getLsbD 31 then
        ((d.fset (F.LOP_STS_CNT n) 0).modLoop n fun s => { s with hold := false }).plausShow n
      else d
    | _ => d

end Core

end Sys2Proof.Machine
end

