-- ==== Sys2Proof/Machine/Resole.lean ====
section
/-! DEFINITION. Resole (R225 to R237, Table 9.5): the mover's passes, arming, deferral and cancellation, and the
seam. -/

namespace Sys2Proof.Machine

/-- The distance from the retentive region to the carry staging area. -/
def stagingOfs : Nat := 0x1E_0000 - 0x1_0000

/-- What the conversion of a carry entry writes: bytes and bits by destination address, the saturated elements, and the
destination groups to be poisoned. -/
structure Carried where
  writes : List (Nat × List Byte) := []
  bits : List (Nat × Bool) := []         -- by destination bit address
  sat : Nat := 0
  poison : List Nat := []
  deriving DecidableEq, Repr

namespace Dev

/-- SERVICE's state changed. -/
def modSvc (d : Dev) (f : Svc → Svc) : Dev := { d with svc := f d.svc }

/-- Whether a resole is armed or ready. -/
def rslArmed (d : Dev) : Bool := d.fget F.SVC_RSL_STATE = 1 || d.fget F.SVC_RSL_STATE = 2

/-- TMO in ms, clamped to 1 to 60,000 (Table 9.8). -/
def rslTmo (d : Dev) : Nat := clampN 1 60000 (d.fget F.SVC_RSL_CFG_TMO)

/-- The number of the beat at which the time base stands. -/
def beatNo (d : Dev) : Nat := d.tb / d.esc.period

/-- The snapshot of a deferral: DEFERS, the last T_seam and the last ESC_RSV (R236). -/
def rslSnap (d : Dev) : List Word :=
  [BitVec.ofNat 32 (d.fget F.SVC_RSL_DEFERS), BitVec.ofNat 32 d.svc.rslT, d.rget A.ESC_RSV]

/-- The mover has stopped: nothing of its work is left to convert. -/
def moverStop (d : Dev) : Dev :=
  (d.modSvc fun s => { s with sats := [], poisons := [], frozen := false }).fset F.SVC_CARRY_DIRTY 0

/-- An armed resole is deferred (R236). -/
def rslDefer (d : Dev) : Dev :=
  if d.rslArmed then
    let snap := d.rslSnap
    (((d.fset F.SVC_RSL_STATE 4).raise F.SVC_EVT_RESOLE_DEFERRED).occurPair 4 0x0002 snap).moverStop
  else d

/-- An armed resole is cancelled by STOP, SAFE or a power-fail warning (R236). -/
def rslCancel (d : Dev) : Dev :=
  if d.rslArmed then ((d.fset F.SVC_RSL_STATE 5).occurBlk 4 0x0003 15).moverStop else d

/-- No seam within TMO (R236); on a SYNC pair the crown holder defers at a beat (R211). -/
def rslTimeout (d : Dev) : Dev :=
  if d.rslArmed && d.svc.rslAt + d.rslTmo * 1000000 ≤ d.tb && !(d.paired && d.wltState = 2)
      && !d.synced then d.rslDefer else d

/-- The resole registers once a carry has been worked: SAT over every entry's latest conversion. -/
def satShow (d : Dev) : Dev :=
  d.fset F.SVC_CARRY_SAT (min 65535 (d.svc.sats.map (·.2)).sum)

end Dev

namespace Core

/-- The verified image of the inactive half, as its header and body give it. -/
def stagedImage (c : Core) : Option Image :=
  let h := c.inactiveHalf
  let r := c.halfRec h
  if r.state = 3 then some (readImage c.mem.cells h r.header) else none

/-- The carry entries of the image being resoled. -/
def newCarry (c : Core) : List CarryEnt :=
  match c.stagedImage with
  | some im =>
    let es := carryEntries c.mem.cells im
    -- with no active half only FILL applies (R237)
    if c.dev.esc.image.isNone then es.filter fun e => e.srcT = 0x22 else es
  | none => []

/-- Whether the map of the image being resoled is the identity map (R229). -/
def carryIdentity (c : Core) : Bool :=
  match c.stagedImage with
  | some im => (carryEntries c.mem.cells im).isEmpty
  | none => true

/-- A bit of work memory. -/
def bitAt (c : Core) (b : Nat) : Bool := (c.mem.cells.read (b / 8)).getLsbD (b % 8)

/-- A carry entry converted from memory as it stands (R226, R230): elements that read unusable bytes are not converted,
and the groups they would write are named for poisoning; their bytes there are free values. -/
def convertEntry (c : Core) (half : Nat) (e : CarryEnt) : Carried :=
  let at' (a : Nat) : Nat := if a < 0x30000 then a + stagingOfs else a
  let idx := List.range e.count
  if e.srcT = 0x22 then
    { writes := [(at' e.new, c.mem.cells.readN (halfBase half + e.old) e.count)] }
  else if e.srcT = 0x11 then
    idx.foldl (fun (x : Carried) i =>
      let a := at' ((e.new + i) / 8)
      if c.mem.usable ((e.old + i) / 8) 1 then { x with bits := x.bits ++ [(8 * a + (e.new + i) % 8, c.bitAt (e.old + i))] }
      else { x with poison := x.poison ++ [a / 32] }) {}
  else if e.srcT = 0x20 || e.srcT = 0x21 then {}
  else
    idx.foldl (fun (x : Carried) i =>
      let ss := tySize e.srcT
      let ds := tySize e.dstT
      let a := at' (e.new + ds * i)
      if c.mem.usable (e.old + ss * i) ss then
        let r := convertElem e.srcT e.dstT (srcBe e.cnt) (dstBe e.cnt) (c.mem.cells.readN (e.old + ss * i) ss)
        { x with writes := x.writes ++ [(a, r.1)], sat := x.sat + (if r.2 then 1 else 0) }
      else
        { x with
          writes := x.writes ++ [(a, (List.range ds).map fun k => Config.poisonByte (c.dev.free + 16 * i + k))],
          poison := x.poison ++ [a / 32] }) {}

/-- The bits of an entry written into their bytes as these stand by then, so that entries may share a byte (R225,
R226). -/
def putBits (c : Core) (bits : List (Nat × Bool)) : Core :=
  let as := (bits.map fun (b : Nat × Bool) => b.1 / 8).eraseDups
  as.foldl (fun (c : Core) a =>
    let lay (x : Byte) (b : Nat × Bool) : Byte :=
      if b.1 / 8 ≠ a then x else if b.2 then x ||| (1#8 <<< (b.1 % 8)) else x &&& ~~~ (1#8 <<< (b.1 % 8))
    c.put a [bits.foldl lay (c.mem.cells.read a)]) c

/-- The entries with these indexes converted: every source is read before any write (R225). -/
def convertEntries (c : Core) (half : Nat) (ix : List Nat) : Core :=
  let es := c.newCarry
  let src := ix.foldl (fun (c : Core) i =>
    match es[i]? with
    | some e => match e.source with
      | some s => ((List.range ((s.2 + 31) / 32 - s.1 / 32)).map (s.1 / 32 + ·)).foldl (fun c g => (c.readGroup g).1) c
      | none => c
    | none => c) c
  let outs := ix.filterMap fun i => (es[i]?).map fun e => (i, src.convertEntry half e)
  outs.foldl (fun (c : Core) o =>
    let c := (o.2.writes.foldl (fun (c : Core) w => c.put w.1 w.2) c).putBits o.2.bits
    c.onDev fun d => ((d.modSvc fun s =>
      { s with
        sats := alPut o.1 o.2.sat s.sats,
        poisons := (s.poisons.filter fun p => p.1 ≠ o.1) ++ o.2.poison.map fun g => (o.1, g) }).nextFree).satShow) src

/-- The entries that a change has made dirty since the mover last looked (R230). -/
def dirtyEntries (c : Core) : List Nat :=
  let es := c.newCarry
  (List.range es.length).filter fun i =>
    match es[i]? with
    | some e =>
      e.toRet && e.srcT ≠ 0x22 && match e.source with
      | some s =>
        (c.dev.svc.frozen && decide (s.1 < 0x8000))
          || c.dev.moverDirty.any fun g => decide (s.1 / 32 ≤ g) && decide (g * 32 < s.2)
      | none => false
    | none => false

/-- The number of staging groups that entries write. -/
def groupsOf (es : List CarryEnt) : Nat :=
  let add (l : List Nat) (g : Nat) : List Nat := if l.contains g then l else g :: l
  (es.foldl (fun l e =>
    let a := e.dest.2.1 / 256
    let b := (e.dest.2.2 + 255) / 256
    ((List.range (b - a)).map (a + ·)).foldl add l) ([] : List Nat)).length

/-- T_seam in ns (R231). -/
def seamTime (c : Core) : Nat :=
  let es := c.newCarry
  let dirty := c.dirtyEntries.filterMap fun i => es[i]?
  let flags := es.filter fun e => e.dest.1 = 0 && e.dstT ≠ 0x21 && !e.toRet
  let g := groupsOf dirty + groupsOf flags
  let np := ((es.filter fun e => e.dstT = 0x21).map (·.count)).sum
  (1200 + 2 * g + 10 * np) * c.dev.fget F.SVC_PACE_PACE / 640

/-- One pass of the mover (R230, R237): it works only while no task is active. -/
def preCarry (c : Core) : Core :=
  if !c.dev.rslArmed || !c.dev.activeTasks.isEmpty then c
  else
    match c.stagedImage with
    | none => c
    | some im =>
      if c.carryIdentity then c
      else
        let es := c.newCarry
        let done (c : Core) : Core := c.onDev fun d =>
          { (d.modSvc fun s => { s with frozen := false }) with moverDirty := [] }
        if c.dev.fget F.SVC_RSL_STATE = 1 then
          let c := (List.range 4096).foldl (fun (c : Core) g => c.put (0x1E0000 + 32 * g) (List.replicate 32 0)) c
          let fills := (List.range es.length).filter fun i => (es[i]?).any fun e => e.srcT = 0x22 && e.toRet
          let conv := (List.range es.length).filter fun i =>
            (es[i]?).any fun e => e.srcT ≠ 0x22 && e.dstT ≠ 0x20 && e.dstT ≠ 0x21 && e.toRet
          let c := done ((c.convertEntries im.half fills).convertEntries im.half conv)
          c.onDev fun d => d.fset F.SVC_RSL_STATE 2
        else if c.dev.st = .stop then c
        else done (c.convertEntries im.half c.dirtyEntries)

/-- The checks of a RESOLE in their order; the refusal code. Those of BEAT and LAYOUT are made in RUN alone, the named
instant in STOP too (R230, Table 9.2). -/
def rslCheck (c : Core) (mode a n : Nat) : Option Nat :=
  let d := c.dev
  let run := d.st = .run
  let half := c.halfRec c.inactiveHalf
  let h := half.header
  if d.st = .boot || d.st = .safe || d.rslArmed || d.fbit F.SVC_MIGR_BUSY || (d.paired && d.wltState ≤ 1) then some 0x31
  else if half.state ≠ 3 then some 0x30
  else if run && hLe h 28 4 * 10 ≠ d.esc.period then some 0x0D
  else if run && (hLe h 32 4, hLe h 36 1, hLe h 38 2)
      ≠ (match d.esc.image with | some im => (im.tbTicks, im.rmulM1, im.layoutId) | none => (0, 0, 0)) then some 0x0E
  else if mode = 1 && (a ≤ d.beatNo || d.tb + d.rslTmo * 1000000 < a * d.esc.period) then some 0x32
  else if mode = 2 && !d.fbit (F.ESC_TCFG_EN n) then some 0x32
  else none

/-- An accepted RESOLE arms the resole; with the identity map it is READY at once (R229, R230). -/
def rslArm (c : Core) (mode a b : Nat) : Core :=
  let bank : CpxBank := match c.stagedImage with
    | some im => c.halfTable im.half
    | none => {}
  let ident := c.carryIdentity
  c.onDev fun d =>
    let d := d.modSvc fun s =>
      { s with
        rslMode := mode, rslA := a, rslB := b, rslAt := d.tb, rslT := 0, frozen := false, sats := [], poisons := [] }
    let d := { d with moverDirty := [], mov := { d.mov with staged := bank } }
    let d := (d.fset F.SVC_RSL_STATE (if ident then 2 else 1)).fset F.SVC_RSL_DEFERS 0
    (d.fset F.SVC_CARRY_SAT 0).rset A.MOV_CPX_STAGED bank.tableId

/-- Whether the named instant has come at beat `b` (R231). -/
def rslNamed (c : Core) (b : Nat) : Bool :=
  match c.dev.svc.rslMode with
  | 0 => true
  | 1 => decide (c.dev.svc.rslA ≤ b)
  | _ => decide (c.dev.svc.rslB ≤ c.dev.fget (F.ESC_TCYC_CYC (c.dev.svc.rslA % 16)))

/-- Whether the seam is taken at beat `b`: conditions (a) to (e) of R231, or (a) and (e) in STOP (R237). A beat at which
only (c), (d) or (e) fail counts as a deferral. -/
def seamCheck (c : Core) (b : Nat) : Core × Bool :=
  let d := c.dev
  if d.fget F.SVC_RSL_STATE ≠ 2 then (c, false)
  else if d.st = .stop then
    if d.fbit F.SVC_STAT_WARN then (c.onDev fun d => d.finc F.SVC_RSL_DEFERS, false) else (c, true)
  else if d.st ≠ .run || !c.rslNamed b then (c, false)
  else
    let t := c.seamTime
    let free := (List.range 16).all fun n => !(d.task n).active && !(d.task n).stretched
    let ok := free && t + d.fget F.SVC_RSL_CFG_MARGIN ≤ d.rnat A.ESC_RSV && !d.fbit F.SVC_STAT_WARN
    let c := c.onDev fun d => d.modSvc fun s => { s with rslT := t }
    if ok then (c, true) else (c.onDev fun d => d.finc F.SVC_RSL_DEFERS, false)

/-- The staging area and the retentive region exchange places: bytes, wrong symbols and poison (Table 9.5, step 6). -/
def exchange (c : Core) : Core :=
  let swap (a : Nat) : Nat :=
    if 0x10000 ≤ a && a < 0x30000 then a + stagingOfs else if 0x1E0000 ≤ a && a < 0x200000 then a - stagingOfs else a
  let cells := c.mem.cells.foldl (fun (m : Cells) x => m.write (swap x.1) x.2) []
  let sg (g : Nat) : Nat := swap (g * 32) / 32
  let errs := c.mem.errs.foldl (fun (l : List (Nat × List (Nat × Byte))) e => alPut (sg e.1) e.2 l) []
  let poison := c.mem.poison.map fun p => (p.1, sg p.2.1, p.2.2)
  let changed := (List.range 4096).filter fun n => c.retGroup n ≠ BitVec.ofNat 256 (c.mem.cells.le (0x1E0000 + 32 * n) 32)
  let c := Core.poisonShow { c with mem := { cells := cells, errs := errs, poison := poison } }
  let c := changed.foldl (fun (c : Core) n => c.noteChange (0x800 + n) none) c
  c.stageGroups ((changed ++ c.dev.keep.stage.map (·.1)).map (0x800 + ·))

/-- The seam (Table 9.5, steps 4 to 7) at beat `b`, the old program's outputs published and the inputs frozen. -/
def seam (c : Core) (b : Nat) : Core :=
  match c.stagedImage with
  | none => c
  | some im =>
    let es := c.newCarry
    let ident := c.carryIdentity
    let t := c.seamTime
    let oldVer := match c.dev.esc.image with | some o => o.imgVer | none => 0
    let oldOwn := match c.dev.esc.image with
      | some o => fun (n : Nat) => o.io.any fun r => r.typ = 4 && r.owner ≠ 0xFF && r.start ≤ n && n < r.start + r.len
      | none => fun _ => false
    let late := (List.range es.length).filter fun i => (es[i]?).any fun e => e.dest.1 = 0 && e.dstT ≠ 0x21 && !e.toRet
    let todo := c.dirtyEntries
    let c := if ident then c else c.convertEntries im.half (todo ++ late)
    let slots0 := c.dev.slots
    let primes := (es.filter fun e => e.dstT = 0x21).flatMap fun e => (List.range e.count).map (e.new + ·)
    let moves := (es.filter fun e => e.dstT = 0x20).flatMap fun e => (List.range e.count).map fun i => (e.old + i,
        e.new + i)
    let c := c.onDev fun d =>
      let put (l : List (Nat × Slot)) (mv : Nat × Nat) : List (Nat × Slot) :=
        let s := alGet mv.1 ({} : Slot) slots0
        let old := alGet mv.2 ({} : Slot) l
        alSet ({} : Slot) mv.2 { s with assigned := old.assigned, owner := old.owner, poison := s.poison } l
      { d with primes := primes, primeTasks := im.present, slots := moves.foldl put d.slots }
    let c := if ident then c else c.exchange
    let bad := c.dev.svc.poisons.map fun p => if 0xF000 ≤ p.2 then p.2 - stagingOfs / 32 else p.2
    let c := bad.foldl (fun (c : Core) g => c.poisonGroup g) c
    let carried := if ident then (List.range 4096).filter oldOwn else moves.map (·.2)
    let oldHalf := match c.dev.esc.image with | some o => some o.half | none => none
    let c := match oldHalf with
      | some h => c.setHalf h { c.halfRec h with state := 3 }
      | none => c
    let c := c.setHalf im.half { c.halfRec im.half with state := 4 }
    let c := ((c.assignSlots im carried).loadImage im).onDev loadEsc
    let c := c.onDev fun d =>
      let bank := d.mov.staged
      let d := { d with mov := { d.mov with bank := bank, staged := d.mov.bank, bankNo := 1 - d.mov.bankNo, dorm := [], predictor := [], heldSids := [] } }
      let d := ((d.rset A.MOV_CPX_ID bank.tableId).fset F.MOV_CPX_PRES_PRESENT bank.present.toNat).rset
        A.MOV_CPX_STAGED d.mov.staged.tableId
      let d := (List.range 16).foldl (fun d n =>
        let d := d.setTask n {}
        let d := (d.rset (A.ESC_TCYC n) 0).rreset (A.ESC_TSLK n)
        (((d.rreset (A.ESC_TSLKMIN n)).rset (A.ESC_TOVR n) 0).fset (F.ESC_TSTAT_COAL n) 0).fset (F.ESC_TSTAT_DORM n) 0) d
      let d := d.wdgExpect
      let d := d.fset F.WDG_MASK_CHK (d.fget F.WDG_MASK_CHK &&& d.fget F.WDG_MASK_EXP)
      let us := min 65535 t
      let d := (d.fset F.SVC_SEAM_T_LAST us).fmaxTo F.SVC_SEAM_T_MAX us
      let d := (d.rsetN A.SVC_SEAM_LO b).rsetN A.SVC_SEAM_HI (b / 2 ^ 32)
      let d := ((d.raise F.SVC_EVT_SEAM).raise F.ESC_EVT_SEAM).fset F.SVC_RSL_STATE 3
      let d := d.occurPair 4 0x0001
        [oldVer, im.imgVer, BitVec.ofNat 32 b, BitVec.ofNat 32 (b / 2 ^ 32), BitVec.ofNat 32 t]
      let d := d.modSvc fun s => { s with poisons := [], frozen := false }
      { d with keep := { d.keep with seamDue := true } }
    c.loopSeam

end Core

end Sys2Proof.Machine
end

