-- ==== Sys2Proof/Machine/Service.lean ====
section
/-! DEFINITION. The service port (R371 to R378, R417): sessions, image intake (R215 to R223), RESOLE, RUN, STOP and STEP
as commands, OTP burns, recorder reads and the health report (R26). -/

namespace Sys2Proof.Machine

/-- Statuses of Table 16.3. -/
def sOK : Nat := 0x00
def sSTATE : Nat := 0x01
def sBAD_ARG : Nat := 0x02
def sBAD_SEQ : Nat := 0x03
def sBUSY : Nat := 0x04
def sREFUSED : Nat := 0x05
def sEXHAUSTED : Nat := 0x06
def sBAD_RESPONSE : Nat := 0x40
def sNONCE_STALE : Nat := 0x41
def sLOCKED_OUT : Nat := 0x42

/-- An SSP message without its tag (Table 16.1). -/
def sspMsg (cmd seq : Nat) (session : BitVec 32) (status : Nat) (response : Bool) (payload : List Byte) : List Byte :=
  leBytes 1 1 ++ leBytes 1 cmd ++ leBytes 2 seq ++ leBytes 4 session.toNat ++ leBytes 2 payload.length
    ++ leBytes 1 status ++ leBytes 1 (if response then 1 else 0) ++ payload

/-- The tag of a message under a session key. -/
def sspTag (ks msg : List Byte) : List Byte := (hmacSha256 ks msg).take 16

/-- The Ethernet frame bytes that carry an SSP message of `n` bytes, header, padding and check sequence included. -/
def ethBytes (n : Nat) : Nat := max 64 (18 + n)

/-- Four ASCII letters. -/
def ascii4 (s : String) : List Byte := s.toList.map fun ch => BitVec.ofNat 8 ch.toNat

namespace Dev

/-- A message leaves the service port. -/
def sspSend (d : Dev) (bytes : List Byte) : Dev :=
  Dev.bytesOut { d with sent := .ssp bytes :: d.sent } 6 (ethBytes bytes.length)

/-- The device ID as 16 bytes, most significant first (R417). -/
def devIdBytes (d : Dev) : List Byte := beBytes 16 d.factory.deviceId.toNat

/-- A session changed. -/
def modSess (d : Dev) (f : Session → Session) : Dev := d.modSvc fun s => { s with sess := s.sess.map f }

/-- The pending request of the session is answered, and the answer is stored (R372). -/
def respond (d : Dev) (status : Nat) (payload : List Byte) : Dev :=
  match d.svc.sess with
  | none => d
  | some s =>
    match s.busy with
    | none => d
    | some cmd =>
      let m := sspMsg cmd s.seq s.id status true payload
      let bytes := m ++ sspTag s.ks m
      (d.sspSend bytes).modSess fun s => { s with busy := none, resp := bytes }

/-- The command that the session's pending request holds. -/
def pendingCmd (d : Dev) : Option Nat := d.svc.sess.bind (·.busy)

/-- A pending request is answered if its command is `cmd`. -/
def respondTo (d : Dev) (cmd status : Nat) (payload : List Byte) : Dev :=
  if d.pendingCmd = some cmd then d.respond status payload else d

/-- Whether the service port serves anything: from step 3 of start-up on (Table 16.2). -/
def svcUp (d : Dev) : Bool := d.st ≠ .off && !d.held

/-- An authentication failure: its entry, event and count (R372, R373). -/
def authFail (d : Dev) (code : Nat) : Dev := ((d.occurBlk 7 code 15).raise F.SVC_EVT_AUTH_FAIL).tally 0xF02

/-- A frame dropped and counted (R371, R372). -/
def frameDrop (d : Dev) : Dev := d.tally 0xF01

/-! ### IDENT and OPEN (R373, R417) -/

/-- IMG_VER of a half from its half record; 0 when EMPTY. -/
def halfVer (d : Dev) (h : Nat) : Nat :=
  let r := vget d.nv.halves h {}
  if r.state = 0 then 0 else hLe r.header 12 4

/-- An IDENT request, which carries no payload. -/
def ident (d : Dev) (seq : BitVec 16) : Dev :=
  if !d.svcUp then d
  else
    let nd := Config.nonce d.free
    let p := d.devIdBytes ++ leBytes 1 d.role ++ leBytes 1 (d.cfgByte 3) ++ leBytes 1 d.stateCode
      ++ leBytes 1 (d.fget F.SVC_OTP_GEN) ++ leBytes 4 (d.halfVer 0) ++ leBytes 4 (d.halfVer 1) ++ beBytes 16 nd.toNat
    let d := (d.bytesIn 6 (ethBytes 12)).tally 0xF00
    (d.nextFree.modSvc fun s => { s with nd := some (nd, d.tb) }).sspSend (sspMsg 0x01 seq.toNat 0 sOK true p)

/-- Whether an OPEN is refused LOCKED_OUT now. -/
def lockedOut (d : Dev) : Bool := match d.svc.lockUntil with | some t => decide (d.tb < t) | none => false

/-- The image in transfer is abandoned: its half is invalid, and nothing is being received (R221, R240). -/
def abandonIntake (d : Dev) : Dev :=
  match d.svc.intake with
  | none => d
  | some x =>
    let d := (d.fset F.SVC_INTK_STATE 0).modSvc fun s => { s with intake := none, staged := if x.kind = 3 then
        none else s.staged }
    if x.kind = 3 then d
    else
      let h := match d.esc.image with | some im => 1 - im.half | none => 0
      let bad (v : Nv) : Nv := { v with halves := v.halves.setIfInBounds h { vget v.halves h {} with state := 5 } }
      { d with nv := d.nv.sysWrite bad }

/-- A session closes, abandoning an image in transfer (R221, R372). -/
def closeSession (d : Dev) : Dev :=
  (d.abandonIntake.modSvc fun s => { s with sess := none }).fput F.SVC_STAT_SESSION false

/-- A failed OPEN: its status, entry and lockout (R373). -/
def openFail (d : Dev) (seq : BitVec 16) (code : Nat) : Dev :=
  let d := (d.finc F.SVC_SESS_FAILS).authFail code
  let secs := min 64 (2 ^ (d.fget F.SVC_SESS_FAILS - 1))
  (d.modSvc fun s => { s with lockUntil := some (d.tb + secs * 1000000000) }).sspSend
    (sspMsg 0x02 seq.toNat 0 code true [])

/-- An OPEN request: NC and RESP (Table 16.10). -/
def openSession (d : Dev) (otp : Otp) (seq : BitVec 16) (payload : List Byte) : Dev :=
  if !d.svcUp then d
  else
    let d := (d.bytesIn 6 (ethBytes (12 + payload.length))).tally 0xF00
    let nd := d.svc.nd
    let d := d.modSvc fun s => { s with nd := none }
    if d.lockedOut then d.sspSend (sspMsg 0x02 seq.toNat 0 sLOCKED_OUT true [])
    else if payload.length ≠ 48 then d.sspSend (sspMsg 0x02 seq.toNat 0 sBAD_ARG true [])
    else
      match nd with
      | none => d.openFail seq sNONCE_STALE
      | some (n, t) =>
        if t + 10000000000 < d.tb then d.openFail seq sNONCE_STALE
        else
          let key := leBytes 32 otp.serviceKey.toNat
          let ndB := beBytes 16 n.toNat
          let nc := payload.take 16
          if hmacSha256 key (ascii4 "OPEN" ++ ndB ++ nc ++ d.devIdBytes) ≠ payload.drop 16 then
            d.openFail seq sBAD_RESPONSE
          else
            let d := d.closeSession
            let id := Config.sessionId d.free
            let m := sspMsg 0x02 seq.toNat id sOK true (hmacSha256 key (ascii4 "PROV" ++ nc ++ ndB))
            let x : Session := { id := id, ks := hmacSha256 key (ascii4 "SESS" ++ ndB ++ nc), seq := seq.toNat,
                                 lastAt := d.tb, resp := m }
            let d := d.nextFree.modSvc fun s => { s with sess := some x, lockUntil := none }
            let d := ((d.fset F.SVC_SESS_FAILS 0).fset F.SVC_SESS_SEQ seq.toNat).fput F.SVC_STAT_SESSION true
            (d.raise F.SVC_EVT_SESSION).sspSend m

/-- The lockout runs out. -/
def lockoutEnd (d : Dev) : Dev :=
  if d.lockedOut then d else d.modSvc fun s => { s with lockUntil := none }

/-- 10 s without a valid request (R372). -/
def sessionTimeout (d : Dev) : Dev :=
  match d.svc.sess with
  | some s => if s.lastAt + 10000000000 ≤ d.tb then d.closeSession else d
  | none => d

end Dev

namespace Core

open Dev (b2n)

/-! ### A tagged request (R372, R374) -/

/-- A tagged request with command `cmd`: authentication, sequence and state; `f` executes it, answering at once or
leaving it pending. -/
def request (c : Core) (cmd : Nat) (r : SspReq) (states : List DevState) (f : Core → Core) : Core :=
  let d := c.dev
  if !d.svcUp then c
  else
    let msg := sspMsg cmd r.seq.toNat r.session 0 false r.payload
    let c := c.onDev fun d => d.bytesIn 6 (ethBytes (msg.length + 16))
    match d.svc.sess with
    | none => c.onDev fun d => d.frameDrop.authFail 0x43
    | some s =>
      if s.id ≠ r.session || sspTag s.ks msg ≠ r.tag then c.onDev fun d => d.frameDrop.authFail 0x43
      else
        let c := c.onDev fun d => d.modSess fun s => { s with lastAt := d.tb }
        if s.busy.isSome then c.onDev Dev.frameDrop
        else if r.seq.toNat = s.seq then c.onDev fun d => (d.tally 0xF04).sspSend s.resp
        else if r.seq.toNat ≠ (s.seq + 1) % 65536 then
          c.onDev fun d =>
            let m := sspMsg cmd r.seq.toNat s.id sBAD_SEQ true []
            d.sspSend (m ++ sspTag s.ks m)
        else
          let c := c.onDev fun d =>
            (d.modSess fun s => { s with seq := r.seq.toNat, busy := some cmd }).fset F.SVC_SESS_SEQ r.seq.toNat
              |>.tally 0xF00
          if c.dev.fbit F.SVC_STAT_TEST_EN || !states.contains c.dev.st then c.onDev fun d => d.respond sSTATE []
          else f c

/-- The answer of a command that ends at once. -/
def reply (c : Core) (status : Nat) (payload : List Byte := []) : Core := c.onDev fun d => d.respond status payload

/-- STOP, RUN and SAFE. -/
def upStates : List DevState := [.stop, .run, .safe]

/-- A command that an OTP burn holds off (R377). -/
def unlessBurning (c : Core) (f : Core → Core) : Core :=
  if c.dev.svc.burn.isSome then c.reply sBUSY else f c

/-- An image for a code half that a sealed KEEP cannot take: no MRAM write begins until it unseals (R254, DEDUCED, log
entry 37). -/
def unlessSealed (c : Core) (kind : Nat) (f : Core → Core) : Core :=
  if kind ≠ 3 && c.dev.fbit F.KEP_STAT_SEALED then c.reply sBUSY else f c

/-! ### Intake (R220 to R223) -/

/-- What a refusal leaves on record (R223, R377). -/
def refusal (c : Core) (code : Nat) : Core :=
  c.onDev fun d =>
    let d := (d.fset F.SVC_INTK_REFUSAL code).raise F.SVC_EVT_IMG_REFUSED
    if 6 ≤ code && code ≤ 9 then d.occurBlk 7 code 15
    else if code = 0x33 then d.occurBlk 5 0x0002 15
    else d.occurBlk 23 F.SVC_EVT_IMG_REFUSED.lo 15

/-- A refusal is reported (R223). -/
def refuse (c : Core) (code : Nat) : Core := (c.refusal code).onDev fun d => d.respond sREFUSED (leBytes 1 code)

/-- An image is refused: INTK says so, and a half or settings in transfer is lost (R221). -/
def refuseImage (c : Core) (code : Nat) : Core :=
  ((c.onDev Dev.abandonIntake).onDev fun d => d.fset F.SVC_INTK_STATE 2).refuse code

/-- IMAGE_BEGIN: the payload is the header. -/
def imageBegin (c : Core) (h : List Byte) : Core :=
  if h.length ≠ 256 then c.reply sBAD_ARG
  else c.unlessSealed (hLe h 5 1) fun c =>
    let c := c.onDev Dev.abandonIntake
    let d := c.dev
    let kind := hLe h 5 1
    let c := c.onDev fun d => d.fset F.SVC_INTK_KIND kind
    match beginCheck d h (d.st = .run) d.rslArmed d.esc.period d.esc.image (d.rnat A.KEP_VER) with
    | some code => c.refuseImage code
    | none =>
      let half := c.inactiveHalf
      let c :=
        if kind = 3 then c.onDev fun d => d.modSvc fun s => { s with staged := none }
        else c.setHalf half { c.halfRec half with header := h, state := 1, tableBad := (c.halfRec half).tableBad || kind = 2 }
      let id := hLe h 24 4
      let c :=
        if kind = 1 && id ≠ 0 && c.dev.mov.bank.tableId.toNat = id then
          match c.dev.esc.image with
          | some im =>
            let x := c.checkedRead (halfBase im.half + tableOfs) 8192
            let c := x.1.putMram (halfBase half + tableOfs) x.2
            c.setHalf half { c.halfRec half with tableBad := false }
          | none => c
        else c
      (c.onDev fun d =>
        ((d.modSvc fun s => { s with intake := some { hdr := h, kind := kind } }).fset F.SVC_INTK_STATE 1).fset
          F.SVC_INTK_RCVD_BYTES 0).reply sOK

/-- Bytes of a body written where its kind goes. -/
def writeBody (c : Core) (x : Intake) (ofs : Nat) (bs : List Byte) : Core :=
  if x.kind = 3 then c
  else
    let a := halfBase c.inactiveHalf + (if x.kind = 2 then tableOfs else 0) + ofs
    c.putMram a bs

/-- IMAGE_DATA: the body offset in bytes 0 to 3 of the payload, then the bytes (DEDUCED, log entry 34). -/
def imageData (c : Core) (p : List Byte) : Core :=
  match c.dev.svc.intake with
  | none => c.reply sSTATE
  | some x =>
    let ofs := hLe p 0 4
    let bs := p.drop 4
    if p.length < 5 || 1028 < p.length then c.reply sBAD_ARG
    else c.unlessSealed x.kind fun c =>
    if x.rcvd ≠ 0 && ofs = x.lastOff && bs = x.lastBytes then c.reply sOK
    else if ofs ≠ x.rcvd then c.refuseImage 0x10
    else if hLe x.hdr 20 4 < ofs + bs.length then c.refuseImage 0x11
    else
      let c := c.writeBody x ofs bs
      (c.onDev fun d =>
        let d := (d.fset F.SVC_INTK_RCVD_BYTES (x.rcvd + bs.length)).tally 0xF03 bs.length
        let upd (s : Svc) : Svc :=
          { s with
            intake := some { x with
              rcvd := x.rcvd + bs.length, lastOff := ofs, lastBytes := bs,
              buf := if x.kind = 3 then x.buf ++ bs else [] } }
        d.modSvc upd).reply sOK

/-- IMAGE_END (R222). -/
def imageEnd (c : Core) : Core :=
  match c.dev.svc.intake with
  | none => c.reply sSTATE
  | some x => c.unlessSealed x.kind fun c =>
    let d := c.dev
    let half := c.inactiveHalf
    let check : Option Nat :=
      if x.rcvd < hLe x.hdr 20 4 then some 0x20
      else if x.kind = 1 then
        programCheck c.mem.cells half x.hdr d.role d.secondMembers (d.rnat A.KEP_VER) (d.st = .run) d.esc.image (c.halfRec half).tableBad
      else if x.kind = 2 then tableCheck c.mem.cells half x.hdr
      else settingsCheck x.buf x.hdr
    match check with
    | some code => c.refuseImage code
    | none =>
      let c :=
        if x.kind = 3 then c.onDev fun d => d.modSvc fun s => { s with staged := some (x.buf, hLe x.hdr 8 1) }
        else c.setHalf half { c.halfRec half with
          header := x.hdr, state := if x.kind = 1 then 3 else 2, tableBad := x.kind = 1 && (c.halfRec half).tableBad }
      (c.onDev fun d =>
        ((d.modSvc fun s => { s with intake := none }).fset F.SVC_INTK_STATE 3).raise F.SVC_EVT_IMG_VERIFIED).reply sOK

/-! ### Commands (R374) -/

/-- RESOLE (R230, Table 16.11). -/
def resole (c : Core) (p : List Byte) : Core :=
  let mode := hLe p 0 1
  let a := hLe p 4 8
  let n := hLe p 12 4
  let bad := p.length ≠ 16 || 2 < mode || hLe p 1 3 ≠ 0
    || (mode = 0 && (a ≠ 0 || n ≠ 0)) || (mode = 1 && n ≠ 0) || (mode = 2 && 16 ≤ a)
  if bad then c.reply sBAD_ARG
  else
    match c.rslCheck mode a a with
    | some code => c.refuse code
    | none => (c.rslArm mode a n).reply sOK

/-- Whether a pair member refuses RUN, STOP and STEP (R210). -/
def notHolder (c : Core) : Bool := c.dev.paired && !c.dev.isHolder

/-- RUN: it takes effect at a base beat. -/
def runCmd (c : Core) : Core :=
  let live := match c.dev.esc.image with
    | some im => let s := (c.halfRec im.half).state; s = 3 || s = 4
    | none => false
  if c.notHolder || !live || c.dev.esc.stepReq || c.dev.esc.stepping || c.dev.esc.safeFault then c.reply sSTATE
  else c.onDev fun d => { d with esc := { d.esc with runReq := true } }

/-- STOP: from RUN at a base beat, from SAFE once the flag is cleared. -/
def stopCmd (c : Core) : Core :=
  if c.notHolder then c.reply sSTATE
  else if c.dev.st = .run then
    c.onDev fun d => { d with esc := { d.esc with stopReq := true } }
  else c.onDev fun d => d.modSvc fun s => { s with exitPend := true }

/-- STEP (R30). -/
def stepCmd (c : Core) : Core :=
  if c.notHolder || c.dev.esc.stepReq || c.dev.esc.stepping || c.dev.esc.runReq then c.reply sSTATE
  else c.onDev fun d => { d with esc := { d.esc with stepReq := true } }

/-- HEALTH: the 20 words of R26. -/
def health (c : Core) : Core :=
  let ws := (c.dev.rnat A.SVC_PACE :: (List.range 9).map fun n => c.dev.rnat (A.SVC_HLTH_T n))
    ++ ((List.range 9).map fun n => c.dev.rnat (A.SVC_HLTH_L n)) ++ [c.dev.rnat A.SVC_HLTH_MAP]
  c.reply sOK (ws.flatMap (leBytes 4))

/-- RECORDER_READ (R358). -/
def recorderRead (c : Core) (area : Area) (p : List Byte) : Core :=
  let ofs := hLe p 0 4
  let n := hLe p 4 1
  if p.length ≠ 8 || ofs % 64 ≠ 0 || n = 0 || 16 < n || hLe p 5 3 ≠ 0 || 5120 * 64 < ofs + 64 * n then c.reply sBAD_ARG
  else
    let x := c.windowRead area ofs (64 * n)
    x.1.reply sOK x.2

/-! ### OTP (R375 to R378) -/

/-- A settings generation as 512 bytes, and back. -/
def genBytes (g : Settings) : List Byte := leBytes 512 g.toNat

/-- The number of generations burned: one above the highest that holds a bit. -/
def gensUsed (o : Otp) : Nat :=
  (List.range 8).foldl (fun n g => if vget o.gens g 0 ≠ 0#4096 then g + 1 else n) 0

/-- OTP_BURN begins (R377, R378): WATCH is suspended for its time (R346). -/
def otpBurn (c : Core) (otp : Otp) : Core :=
  match c.dev.svc.staged with
  | none => c.refuse 0x34
  | some (bs, slot) =>
    let add := hLe bs 449 1
    let revoke := BitVec.ofNat 4 (hLe bs 448 1)
    if 8 ≤ gensUsed otp then (c.onDev fun d => d.occurBlk 5 0x0003 15).reply sEXHAUSTED
    else if revoke.getLsbD slot
        || (add ≤ 3 && (vget otp.keyHash add 0 ≠ 0#256 || otp.keyRevoked.getLsbD add)) then c.reply sBAD_ARG
    else c.onDev fun d =>
      let d := (d.modSvc fun s => { s with burn := some (d.tb, gensUsed otp), torn := false }).fput
        F.SVC_STAT_BURNING true
      if d.wdgState = 1 then d.fset F.WDG_STAT_STATE 3 else d

/-- One generation burned: a bit only goes from 0 to 1 (Table 16.4). -/
def burnGen (o : Otp) (g : Nat) (v : Settings) : Otp := { o with gens := o.gens.setIfInBounds g (vget o.gens g 0 ||| v) }

/-- The key slots as step 1 of a burn leaves them (R377, R378). -/
def burnKeys (o : Otp) (bs : List Byte) : Otp :=
  let add := hLe bs 449 1
  { o with
    keyRevoked := o.keyRevoked ||| BitVec.ofNat 4 (hLe bs 448 1),
    keyHash := if add ≤ 3 then
        o.keyHash.setIfInBounds add (vget o.keyHash add 0 ||| BitVec.ofNat 256 (leNat ((bs.drop 450).take 32)))
      else o.keyHash }

/-- The generation a burn without its CRC leaves: spent. -/
def spentGen (o : Otp) (g : Nat) (bs : List Byte) : Otp :=
  burnGen o g (BitVec.ofNat 4096 (leNat (bs.take 508)))

/-- The burning stops: BURNING reads 0 and WATCH runs again (R346). -/
def burnStops (d : Dev) : Dev :=
  let d := d.fput F.SVC_STAT_BURNING false
  if d.wdgState = 3 then (d.wdgRestart d.tb).fset F.WDG_STAT_STATE 1 else d

/-- The end of a burn. -/
def burnEnds (d : Dev) : Dev := burnStops (d.modSvc fun s => { s with burn := none, torn := false })

/-- A torn or failed burn is reported (R377, Table 16.9). -/
def burnTorn (d : Dev) : Dev := d.fsticky F.SVC_FLT_CAUSE 5

/-- A burn that failed is reported, and OTP_BURN answered if it still waits (R377). -/
def burnFailed (c : Core) : Core :=
  ((c.onDev burnTorn).refusal 0x33).onDev fun d => d.respondTo 0x40 sREFUSED (leBytes 1 0x33)

/-- The 48 ms of a burn are over; `ok` says that every word verified (R377). -/
def otpBurnDone (c : Core) (otp : Otp) (ok : Bool) : Otp × Core :=
  match c.dev.svc.burn, c.dev.svc.staged with
  | some (t, g), some (bs, _) =>
    if c.dev.tb < t + 48000000 || c.dev.svc.torn then (otp, c)
    else if ok then
      let o := burnGen (burnKeys otp bs) g (BitVec.ofNat 4096 (leNat bs))
      let c := c.onDev fun d =>
        let d := burnEnds (d.modSvc fun s => { s with staged := none })
        (((d.raise F.SVC_EVT_OTP_BURNED).occurBlk 5 0x0001 15).fset F.SVC_OTP_USED (gensUsed o)).respondTo 0x40 sOK []
      (o, c)
    else
      let o := spentGen (burnKeys otp bs) g bs
      (o, (c.onDev fun d => burnEnds (d.fset F.SVC_OTP_USED (gensUsed o))).burnFailed)
  | _, _ => (otp, c)

/-- A power-fail warning stops a burn before its CRC (R377). How far the key slots of step 1 had come is a free value.
-/
def burnWarning (c : Core) (otp : Otp) : Otp × Core :=
  match c.dev.svc.burn, c.dev.svc.staged with
  | some (_, g), some (bs, _) =>
    if c.dev.svc.torn then (otp, c)
    else
      let w := Config.openWord c.dev.free
      let mask : BitVec 256 := BitVec.ofNat 256
        ((List.range 8).foldl (fun n k => n * 2 ^ 32 + (Config.openWord (c.dev.free + 1 + k)).toNat) 0)
      let full := burnKeys otp bs
      let o : Otp :=
        { otp with
          keyRevoked := otp.keyRevoked ||| (full.keyRevoked &&& w.extractLsb' 0 4),
          keyHash := Vector.ofFn fun i =>
            let a := vget otp.keyHash i 0
            let b := vget full.keyHash i 0
            if w.getLsbD 8 then b else a ||| (b &&& mask) }
      let o := spentGen o g bs
      (o, c.onDev fun d =>
        burnStops { (d.fset F.SVC_OTP_USED (gensUsed o)).modSvc fun s => { s with torn := true } with free := d.free + 9 })
  | _, _ => (otp, c)

/-- KEEP unseals after a warning that stopped a burn: it is answered BURN_FAILED (R377). -/
def burnUnseal (c : Core) : Core :=
  if c.dev.svc.torn then (c.onDev burnEnds).burnFailed else c

end Core

end Sys2Proof.Machine
end

