-- ==== Sys2Proof/Machine/LaceMsgs.lean ====
section
/-! DEFINITION. LACE's acyclic traffic: bring-up and admission (R156, R157, R173, R179) and the mailbox (R180 to
R182). -/

namespace Sys2Proof.Machine

namespace Dev

/-! ### Bring-up and admission -/

/-- What this station appends to ENUM (R179). -/
def ownStation (d : Dev) : Station :=
  { devId := d.factory.deviceId, outLen := match d.inSlice 0 with | some r => r.len | none => 0,
    inLen := match d.outSlice 0 with | some r => r.len | none => 0, branch := d.cfgByte 3,
    partner := if d.paired then some (d.settings.extractLsb' 64 128) else none, pref := d.cfgBit 4 7 }

/-- A message of LACE leaves a port. -/
def sendMsg (d : Dev) (p : Nat) (m : LaceMsg) : Dev := if d.portUsable p then d.emit (.laceMsg p m) else d

/-- A message is passed on as frames are (R154, R174). -/
def passMsg (d : Dev) (p : Nat) (m : LaceMsg) : Dev :=
  if d.portUsable (otherPort p) then d.sendMsg (otherPort p) m else d.sendMsg p m

/-- A stranger is found (R157). -/
def stranger (d : Dev) : Dev := (d.finc F.LAC_CNT2_STRANGER).raise F.LAC_EVT_STRANGER

/-- The manager sends ENUM out of both ports of a ring (R179). -/
def sendEnum (d : Dev) (level0 : Bool) : Dev :=
  if d.lac.bringUp && d.manages level0 && d.leads then
    let p := cwPort level0
    (d.sendMsg p (.enum (d.cfgByte 3) [] false)).sendMsg (p + 1) (.enum (d.cfgByte 3) [] true)
  else d

/-- ENUM passes a member: it takes its position and appends itself (R156). One that comes back turned round finds the
member in it and only passes; one that runs counter-clockwise numbers only a member that can be reached through D
alone. -/
def enumMember (d : Dev) (p b : Nat) (ss : List Station) (rev : Bool) : Dev :=
  if ss.any fun s => s.devId = d.factory.deviceId then d.passMsg p (.enum b ss rev)
  else
    let n := if d.role = 1 then d.cfgByte 3 else if rev then 127 - ss.length else ss.length + 1
    let d :=
      if rev && d.lac.memb.posCw then d
      else if n = 0 || 127 < n || 127 ≤ ss.length then d.stranger
      else
        let d := d.modMemb fun m => { m with pos := n, posCw := !rev }
        if d.role = 1 then d else (d.fput F.LAC_ADDR_VALID true).fset F.LAC_ADDR_ADDR (b * 128 + n)
    d.passMsg p (.enum b (ss ++ [d.ownStation]) rev)

/-- A station that ENUM numbered on a branch ring takes its position in the table (R156): the clockwise number counts
where a station has both; a position already taken and one past the 127th are strangers'. -/
def numberStation (rev : Bool) (d : Dev) (x : Nat × Station) : Dev :=
  let ids := d.lac.branch.ids
  let n := if rev then 127 - x.1 else x.1 + 1
  if rev && ids.any (fun y => y.2 = x.2.devId) then d
  else if n = 0 || 127 < n || (rev && ids.any fun y => y.1 = n) then d.stranger
  else d.modRing false fun r => { r with ids := alPut n x.2.devId (r.ids.filter fun y => y.2 ≠ x.2.devId) }

/-- ENUM comes back to the manager of a branch ring. -/
def enumBranch (d : Dev) (ss : List Station) (rev : Bool) : Dev :=
  ((List.range ss.length).zip ss).foldl (numberStation rev) d

/-- Whether two level-0 stations are set as each other's partners (R157). -/
def partners (a b : Station) : Bool := a.partner = some b.devId && b.partner = some a.devId

/-- Branch indexes in ring order, from what ENUM collected in one direction and what is known from the other (R156). -/
def ringPlaces (known bs : List Nat) (rev : Bool) : List Nat :=
  if rev then known ++ bs.reverse.filter (!known.contains ·) else bs ++ known.filter (!bs.contains ·)

/-- ENUM comes back to the root: branches by their index, in ring order; two stations that are no partners and report
the same index are both refused (R157). -/
def enumLevel0 (d : Dev) (ss : List Station) (rev : Bool) : Dev :=
  let clashes (s : Station) : Bool := ss.any fun t => t.branch = s.branch && t.devId ≠ s.devId && !partners s t
  let bs := ((ss.filter fun s => !clashes s).map (·.branch)).eraseDups
  let d := d.modRing true fun r => { r with order := ringPlaces r.order bs rev }
  ss.foldl (fun (d : Dev) s =>
    if clashes s then
      (d.lacFlt 4 0 s.branch).modRing true fun r =>
        { r with refused := s.devId :: r.refused, ids := r.ids.filter fun x => x.1 ≠ s.branch }
    else if 1 ≤ s.branch && s.branch ≤ 127 then
      let d := d.modRing true fun r => { r with
        ids := alPut s.branch s.devId r.ids,
        pairIds := match ss.find? fun t => partners s t with
          | some t => alPut s.branch (if s.pref then (s.devId, t.devId) else (t.devId, s.devId)) r.pairIds
          | none =>
            match s.partner with
            | some q => alPut s.branch (s.devId, q) r.pairIds
            | none => r.pairIds }
      (((d.fput (F.LAC_BR_CFG s.branch) true).fset (F.LAC_BR_OUT_LEN s.branch) s.outLen).fset
        (F.LAC_BR_IN_LEN s.branch) s.inLen)
    else d) d

/-- The layout table of a managed ring. -/
def layoutRows (d : Dev) (level0 : Bool) : List RingRow :=
  (d.positions level0).filterMap fun n =>
    match d.sliceLens level0 n, (d.ring level0).ids.find? fun x => x.1 = n with
    | some l, some x => some ⟨n, x.2, l.1, l.2⟩
    | _, _ => none

/-- The manager sends LAYOUT on a ring (R179). -/
def sendLayout (d : Dev) (level0 : Bool) : Dev :=
  if d.manages level0 && d.leads then
    let m := LaceMsg.layout (d.layoutRows level0) (d.fget F.LAC_LAYOUT_LAYOUT_ID)
    let p := cwPort level0
    ((d.sendMsg p m).sendMsg (p + 1) m).modRing level0 fun r => { r with laidOut := true }
  else d

/-- ENUM arrives at a port. The member of a managing pair that does not lead learns the stations from it and passes it
on to its partner (R155). -/
def enumArrive (d : Dev) (p b : Nat) (ss : List Station) (rev : Bool) : Dev :=
  match d.ringOfPort p with
  | some l =>
    let d := if l then d.enumLevel0 ss rev else d.enumBranch ss rev
    if d.leads then d.sendLayout l else d.passMsg p (.enum b ss rev)
  | none => if p < 2 && d.isMember then d.enumMember p b ss rev else d.passMsg p (.enum b ss rev)

/-- LAYOUT_ID of a device that manages no ring comes from LAYOUT, a manager's from its image (Table 7.14). -/
def setLayoutId (d : Dev) (id : Nat) : Dev := if d.role = 0 then d.fset F.LAC_LAYOUT_LAYOUT_ID id else d

/-- LAYOUT arrives at a member: it stores the table; a member it does not list is a stranger (R157, R179). -/
def layoutArrive (d : Dev) (p : Nat) (rows : List RingRow) (id : Nat) : Dev :=
  match d.ringOfPort p with
  | some l =>
    if d.leads then d
    else
      (d.modRing l fun r => { r with ids := rows.foldl (fun ids x => alPut x.pos x.devId ids) r.ids, laidOut := true }).passMsg
        p (.layout rows id)
  | none =>
    let d :=
      if p < 2 && d.isMember then
        match rows.find? fun r => r.devId = d.factory.deviceId with
        | some r => (d.modMemb fun m => { m with layout := rows, pos := r.pos }).setLayoutId id
        | none => d.stranger
      else d
    d.passMsg p (.layout rows id)

/-- Whether an unadmitted member may send JOIN_REQ: on a usable link, in the acyclic window, 64 cycles after a refusal
(R173). -/
def mayJoinRing (d : Dev) : Bool :=
  d.isMember && decide (d.fget F.LAC_STAT_MEMBER < 2) && decide (d.lac.memb.joinAfter ≤ d.tb)
    && (d.portUsable 0 || d.portUsable 1) && d.betweenFrames d.memberNs

/-- An unadmitted member sends JOIN_REQ; its hops are counted on the line (R173). -/
def sendJoin (d : Dev) : Dev :=
  if d.mayJoinRing then
    let s := d.ownStation
    let r : JoinReq := ⟨s.devId, s.outLen, s.inLen, d.fget F.LAC_TB_TB, d.rmul, 0⟩
    (d.fset F.LAC_STAT_MEMBER 1).sendMsg (if d.portUsable 0 then 0 else 1) (.joinReq r)
  else d

/-- The SEQ of the next cyclic frame of a ring. -/
def nextCyclicSeq (d : Dev) (level0 : Bool) : Nat :=
  let tc := d.ringNs level0
  (d.tb / tc + (if 10 * d.fget F.LAC_CFG_TX_OFS ≤ d.tb % tc then 1 else 0)) % 65536

/-- The stations that a request from a position has passed when it arrives at a port, where all that are present and
before it in that direction pass it on; through its partner one more (R155, R157). -/
def hopsTo (d : Dev) (level0 : Bool) (p n : Nat) : Nat :=
  let rev := decide (p % 2 = 1)
  let before (k : Nat) : Bool :=
    if rev then decide (d.place level0 n < d.place level0 k) else decide (d.place level0 k < d.place level0 n)
  d.stations level0 ((d.ring level0).present.filter before) + b2n (d.paired && d.firstMember = rev)

/-- The position at which a manager admits a request that arrives at a port (R157): a known device at its position;
after bring-up an unknown one as the replacement at an absent position of equal slice lengths, between whose
neighbours it sits. A station refused for its index stays refused. -/
def joinPos (d : Dev) (level0 : Bool) (p : Nat) (r : JoinReq) : Option Nat :=
  let g := d.ring level0
  match g.ids.find? fun x => x.2 = r.devId with
  | some x => if d.sliceLens level0 x.1 = some (r.outLen, r.inLen) then some x.1 else none
  | none =>
    if d.lac.bringUp || g.refused.contains r.devId then none
    else
      (d.positions level0).find? fun n =>
        !g.present.contains n && d.hopsTo level0 p n = r.hops && d.sliceLens level0 n = some (r.outLen, r.inLen)

/-- A JOIN_ACK leaves (R173): at once during bring-up, else in the window of a later cycle than the request's. -/
def answerJoin (d : Dev) (level0 : Bool) (p : Nat) (a : JoinAck) : Dev :=
  if d.st = .boot then d.sendMsg p (.joinAck a)
  else { d with lac := { d.lac with acks := d.lac.acks ++ [(p, d.tb / d.ringNs level0, level0, a)] } }

/-- The JOIN_ACKs of earlier cycles leave in a ring's window: the first SEQ admitted is that of the next cyclic frame.
-/
def sendAcks (d : Dev) (level0 : Bool) : Dev :=
  let due (x : Nat × Nat × Bool × JoinAck) : Bool := x.2.2.1 = level0 && x.2.1 ≠ d.tb / d.ringNs level0
  if d.ringWindow level0 then
    let send := d.lac.acks.filter due
    let d := { d with lac := { d.lac with acks := d.lac.acks.filter fun x => !due x } }
    send.foldl (fun (d : Dev) x => d.sendMsg x.1 (.joinAck { x.2.2.2 with firstSeq := d.nextCyclicSeq level0 })) d
  else d

/-- JOIN_REQ arrives (R158, R173). -/
def joinReqArrive (d : Dev) (p : Nat) (r : JoinReq) : Dev :=
  match d.ringOfPort p with
  | none => d.passMsg p (.joinReq { r with hops := r.hops + 1 })
  | some l =>
    if !d.leads then d.passMsg p (.joinReq { r with hops := r.hops + 1 })
    else
      let refuse (d : Dev) : Dev := d.answerJoin l p ⟨r.devId, none, [], 0, 0⟩
      if r.tb ≠ d.fget F.LAC_TB_TB || r.rmul ≠ d.rmul then refuse (d.lacFlt 5 p r.hops)
      else
        match d.joinPos l p r with
        | none => refuse d.stranger
        | some n =>
          let known := (d.ring l).ids.any fun x => x.2 = r.devId
          let d := d.modRing l fun g =>
            { g with ids := alPut n r.devId g.ids, admitted := if g.admitted.contains n then g.admitted
                else g.admitted ++ [n] }
          let d := if known then d else d.nextFree.occurBlk 11 ((Config.openWord d.free).toNat % 256) 3
          d.answerJoin l p ⟨r.devId, some n, d.layoutRows l, d.fget F.LAC_LAYOUT_LAYOUT_ID, d.nextCyclicSeq l⟩

/-- JOIN_ACK arrives at its member: admitted from a SEQ on, or refused for 64 cycles (R173). One that was admitted
before rejoins (Table 7.6). -/
def joinAckArrive (d : Dev) (p : Nat) (a : JoinAck) : Dev :=
  if a.devId ≠ d.factory.deviceId || !d.isMember || 2 ≤ p then d.passMsg p (.joinAck a)
  else
    match a.pos with
    | none => (d.modMemb fun m => { m with joinAfter := d.tb + 64 * d.memberNs }).fset F.LAC_STAT_MEMBER 0
    | some n =>
      let upd (m : Member) : Member :=
        { m with
          layout := a.layout, pos := n, first := some a.firstSeq, opened := false, cand := none, frozen := none,
          rejoin := m.first.isSome }
      let d := (d.modMemb upd).setLayoutId a.layoutId
      let d := (d.fset F.LAC_STAT_MEMBER 2).fset F.LAC_STAT_HOLD_CNT 0
      if d.role = 1 then d
      else (d.fput F.LAC_ADDR_VALID true).fset F.LAC_ADDR_ADDR (d.fget F.LAC_ADDR_ADDR / 128 * 128 + n)

/-- Bring-up ends (R179): the positions admitted are present, the others absent. -/
def bringUpEnd (d : Dev) : Dev :=
  if d.lac.bringUp then
    let enter (l : Bool) (d : Dev) : Dev := (d.ring l).admitted.foldl (fun d n => d.markPresent l n) d
    let d := enter true (enter false d)
    ({ d with lac := { d.lac with bringUp := false } }).ringShow
  else d

/-- Whether bring-up holds BOOT up: a device with no ring whose ports were all dark at 2 ms skips it (R179). -/
def bringing (d : Dev) : Bool := d.lac.bringUp && (d.tbNs ≠ 0 || d.lac.lit)

/-! ### The mailbox (R180 to R182) -/

/-- The staging block of a requester: program, host, service. -/
def stagingOf : Requester → Nat
  | .program => 0
  | .host => 1
  | .service => 2
  | .ring => 2

/-- The state of an entry: 0 free, 1 queued, 2 active, 3 done. -/
def mbxState (d : Dev) (e : Nat) : Nat := d.fget (F.LAC_MBX_CTRL_STATE e)

/-- A GO write (R180, R181). -/
def mailboxPost (d : Dev) (q : Requester) : Dev :=
  let r := stagingOf q
  match (List.range 32).find? fun e => d.mbxState e = 0 with
  | none => (d.fput (F.LAC_STG_RESP_BUSY r) true).raise F.LAC_EVT_MBX_BUSY
  | some e =>
    let len := min 256 (d.fget (F.LAC_STG_CMD_LEN r))
    let data := ((List.range 64).flatMap fun k => leBytes 4 (d.rnat (A.LAC_STG_DATA r k))).take len
    let d := d.rsetN (A.LAC_MBX_CTRL e) (2 ^ 30 + r * 2 ^ 12 + d.fget (F.LAC_STG_CMD_KIND r) * 2 ^ 9 + len)
    let d := d.rset (A.LAC_MBX_DEST e) (d.rget (A.LAC_STG_DEST r))
    let d := d.fset F.LAC_MBX_FREE_FREE (d.fget F.LAC_MBX_FREE_FREE - 1)
    let d := (d.fput (F.LAC_STG_RESP_BUSY r) false).fset (F.LAC_STG_RESP_ENTRY r) e
    { d with lac := { d.lac with mbx := d.lac.mbx ++ [⟨e, d.rget (A.LAC_STG_ADDR r), data, 0, 0⟩] } }

/-- An entry completes with a result (R180). -/
def mailboxDone (d : Dev) (e result : Nat) (data : List Byte) : Dev :=
  let d := (d.fset (F.LAC_MBX_CTRL_STATE e) 3).fset (F.LAC_MBX_CTRL_RESULT e) result
  let d := (List.range ((data.length + 3) / 4)).foldl (fun d k =>
    d.rsetN (A.LAC_MBX_DATA e k) (bytesLe data (4 * k) 4)) d
  let d := { d with lac := { d.lac with mbx := d.lac.mbx.filter fun (w : MbxWait) => w.entry ≠ e } }
  let d := d.rset A.LAC_MBX_DONE (d.rget A.LAC_MBX_DONE ||| (1#32 <<< e))
  (d.raise F.LAC_EVT_MBX_DONE).alert 25

/-- The port towards an address, when it is admitted as far as this device knows. -/
def portTo (d : Dev) (dest : Nat) : Option Nat :=
  let b := dest / 128
  let own := d.cfgByte 3
  if d.role = 2 then
    if b = 0 then (if d.lac.branch.admitted.contains (dest % 128) then some 2 else none)
    else if d.lac.level0.admitted.contains b then some 0 else none
  else if d.role = 1 then
    if b = own && dest % 128 ≠ 0 then (if d.lac.branch.admitted.contains (dest % 128) then some 2 else none)
    else some 0
  else some 0

/-- Queued entries are sent in posting order, each in the window of its ring after the cyclic frame and any retry (R180,
R182). -/
def mailboxServe (d : Dev) : Dev :=
  if !d.acts then d
  else
    d.lac.mbx.foldl (fun (d : Dev) (w : MbxWait) =>
      let e := w.entry
      if d.mbxState e ≠ 1 then d
      else
        let dest := d.rnat (A.LAC_MBX_DEST e)
        match d.portTo dest with
        | none => d.mailboxDone e 1 []
        | some p =>
          if d.portWindow p then
            let m : MbxMsg := ⟨d.ownAddr, e, dest, d.fget (F.LAC_MBX_CTRL_KIND e), w.addr, d.fget (F.LAC_MBX_CTRL_LEN e),
              w.data, 0⟩
            let d := d.fset (F.LAC_MBX_CTRL_STATE e) 2
            let act (x : MbxWait) : MbxWait := if x.entry = e then { x with at_ := d.tb } else x
            ({ d with lac := { d.lac with mbx := d.lac.mbx.map act } }).sendMsg p (.mbxReq m)
          else d) d

/-- The cycle of the ring at a port. -/
def portCycle (d : Dev) (p : Nat) : Nat :=
  match d.ringOfPort p with
  | some l => d.ringNs l
  | none => d.memberNs

/-- The relay entries in use: one that has had no response within 8 cycles of the ring it went to is free again
(Table 7.9; DEDUCED, log entry 67). -/
def relays (d : Dev) : List (Nat × MbxMsg) :=
  d.lac.relay.filter fun x =>
    match d.portTo x.2.dest with
    | some p => decide (d.tb < x.1 + 8 * d.portCycle p)
    | none => false

/-- A mailbox frame from the ring for another station: a manager relays between its rings through 8 relay entries,
another station forwards it (R180). -/
def mailboxRelay (d : Dev) (p : Nat) (m : MbxMsg) : Dev :=
  if d.role = 0 then d.passMsg p (.mbxReq m)
  else
    match d.portTo m.dest with
    | none => d.sendMsg p (.mbxResp { m with result := 1, data := [] })
    | some q =>
      if q / 2 = p / 2 then d.passMsg p (.mbxReq m)
      else if 8 ≤ d.relays.length then d.sendMsg p (.mbxResp { m with result := 5, data := [] })
      else ({ d with lac := { d.lac with relay := d.relays ++ [(d.tb, m)] } }).sendMsg q (.mbxReq m)

/-- A MSG request at its target: into the inbox, or refused when it is full (R180). -/
def inboxPut (d : Dev) (m : MbxMsg) : Dev × Nat :=
  let n := d.fget F.LAC_INBOX_COUNT
  if 8 ≤ n then (d, 4)
  else
    let d := (List.range 64).foldl (fun d k => d.rsetN (A.LAC_INBOX_DATA n k) (bytesLe m.data (4 * k) 4)) d
    let d := d.rsetN (A.LAC_INBOX_INFO n) (m.len % 512 * 2 ^ 16 + m.src % 2 ^ 14)
    ((d.fset F.LAC_INBOX_COUNT (n + 1)).raise F.LAC_EVT_INBOX, 0)

/-- A response arrives (R177, R180): it completes its entry, passes a relay entry back, or is forwarded. A failed one
is asked for again in the next window, and a second failure is LINK_ERR. -/
def mailboxResponse (d : Dev) (p : Nat) (m : MbxMsg) (good : Bool) : Dev :=
  if m.src = d.ownAddr then
    if d.mbxState m.entry ≠ 2 || 32 ≤ m.entry then d
    else if good then d.mailboxDone m.entry m.result m.data
    else if d.lac.mbx.any fun (w : MbxWait) => w.entry = m.entry && w.tries = 0 then
      let again (x : MbxWait) : MbxWait := if x.entry = m.entry then { x with tries := 1 } else x
      ({ d with lac := { d.lac with mbx := d.lac.mbx.map again } }).fset (F.LAC_MBX_CTRL_STATE m.entry) 1
    else d.mailboxDone m.entry 3 []
  else
    let mine (x : Nat × MbxMsg) : Bool := x.2.src = m.src && x.2.entry = m.entry
    match d.relays.find? mine with
    | some _ =>
      let d := { d with lac := { d.lac with relay := d.relays.filter fun x => !mine x } }
      match d.portTo m.src with
      | some q => d.sendMsg q (.mbxResp m)
      | none => d
    | none => d.passMsg p (.mbxResp m)

/-- No response within 8 cycles of the ring (Table 7.9). -/
def mailboxTimeout (d : Dev) (e : Nat) : Dev :=
  match d.lac.mbx.find? fun (w : MbxWait) => w.entry = e with
  | some w =>
    let tc := match d.portTo (d.rnat (A.LAC_MBX_DEST e)) with
      | some p => d.portCycle p
      | none => d.tbNs
    if d.mbxState e = 2 && w.at_ + 8 * tc ≤ d.tb then d.mailboxDone e 2 [] else d
  | none => d

/-- Bits of LAC_MBX_DONE cleared: their entries are free (R180). -/
def mailboxFree (d : Dev) (mask : Word) : Dev :=
  (List.range 32).foldl (fun d e =>
    if mask.getLsbD e && d.mbxState e = 3 then
      let d := d.rset A.LAC_MBX_DONE (d.rget A.LAC_MBX_DONE &&& ~~~ (1#32 <<< e))
      (d.rset (A.LAC_MBX_CTRL e) 0).fset F.LAC_MBX_FREE_FREE (d.fget F.LAC_MBX_FREE_FREE + 1)
    else d) d

/-- POP discards the oldest inbox message (R183). -/
def inboxPop (d : Dev) : Dev :=
  let n := d.fget F.LAC_INBOX_COUNT
  if n = 0 then d
  else
    let word (i k : Nat) : Nat := if k < 64 then A.LAC_INBOX_DATA i k else A.LAC_INBOX_INFO i
    let d := (List.range 8).foldl (fun d i => (List.range 65).foldl (fun d k =>
      d.rset (word i k) (if i + 1 < n then d.rget (word (i + 1) k) else 0)) d) d
    d.fset F.LAC_INBOX_COUNT (n - 1)

end Dev

end Sys2Proof.Machine
end

