-- ==== Sys2Proof/Machine/WeltCrown.lean ====
section
/-! DEFINITION. The crown of a pair (R201 to R206): lease traffic as the holder, its partner and the keeper act on it,
and what becomes of the crown at a base beat. -/

namespace Sys2Proof.Machine

namespace Dev

/-- LEASE in lease beats (Table 8.9). -/
def leaseLen (d : Dev) : Nat := clampN 2 64 (d.fget F.WLT_CTL_LEASE)

/-- Lc (R203). -/
def leaseLc (d : Dev) : Nat := d.rnat A.WLT_LEASE_HI * 2 ^ 32 + d.rnat A.WLT_LEASE_LO

/-- Lc written. -/
def setLc (d : Dev) (l : Nat) : Dev := (d.rsetN A.WLT_LEASE_LO l).rsetN A.WLT_LEASE_HI (l / 2 ^ 32)

/-- A change of the pair's crown is seen: its epoch and the count (Table 8.13). -/
def crownChange (d : Dev) (epoch : Nat) : Dev := (d.rsetN A.WLT_EPOCH epoch).finc F.WLT_CNT1_HANDOVERS

/-! ### The holder and its partner -/

/-- RENEW, once per lease beat (R203). -/
def renew (d : Dev) : Dev :=
  if d.isHolder && d.acts && !d.fbit F.WLT_STAT_KEEPERLESS && !d.wlt.yield && d.wlt.renewed ≠ some d.leaseBeat then
    (d.mgmtSend (d.leaseSay 1)).modWlt fun w => { w with renewed := some d.leaseBeat }
  else d

/-- From lease beat Lc + LEASE − 1 without a later confirmation, the acts stop (R203). -/
def leaseActsStop (d : Dev) : Dev :=
  if d.isHolder && !d.fbit F.WLT_STAT_KEEPERLESS && decide (d.leaseLc + d.leaseLen ≤ d.leaseBeat + 1) then
    d.fput F.WLT_STAT_LEASE_OK false
  else d

/-- A write of WLT_CTL.HANDOVER as 1 (R205); in a keeperless pair the crown does not move (R206). -/
def handover (d : Dev) : Dev :=
  if d.isHolder && !d.fbit F.WLT_STAT_KEEPERLESS && d.fget F.WLT_STAT_PEER = 2 then d.yieldCrown 0 false else d

/-- A CONFIRM for this device's pair (R203, R207). -/
def confirmArrive (d : Dev) (l : Lease) : Dev :=
  if l.devId = d.factory.deviceId then
    if d.isHolder && decide (d.leaseLc < l.lbeat) then
      let ok := decide (d.leaseBeat < d.leaseLc + d.leaseLen) && !d.wlt.relinquished
      let d := d.setLc l.lbeat
      if ok then d.fput F.WLT_STAT_LEASE_OK true else d
    else d
  else if d.wltState = 3 && decide (d.wlt.soloBeat < l.lbeat) then d.becomeUnsync 8
  else d

/-- A GRANT for this device's pair (R204). -/
def grantArrive (d : Dev) (l : Lease) : Dev :=
  if l.devId = d.factory.deviceId then d.modWlt fun w => { w with grant := some l.lepoch }
  else if newerEpoch l.lepoch (d.rnat A.WLT_EPOCH) then
    let held := d.isHolder
    let d := (d.crownChange l.lepoch).becomeUnsync 0
    let d := d.modWlt fun w => { w with yield := false, relinquished := false, partnerGranted := true, grant := none }
    if held then d.raise F.WLT_EVT_CROWN_LOST else d
  else d

/-! ### The keeper -/

/-- Whether this device keeps a pair's lease now (R202). -/
def keeps (d : Dev) (pair : Nat) (altActs : Bool) : Bool :=
  d.acts && ((d.role = 2 && pair ≠ 0)
    || (d.role = 1 && pair = 0 && (d.cfgByte 3 = 1 || (d.cfgByte 3 = 2 && altActs))))

/-- The other member of a pair, as its keeper knows it. -/
def otherOf (d : Dev) (pair : Nat) (one : BitVec 128) : BitVec 128 :=
  let p := if pair = 0 then (Config.rootPair 0, Config.rootPair 1)
    else match d.lac.level0.pairIds.find? fun x => x.1 = pair / 128 with
      | some x => x.2
      | none => (one, one)
  if p.1 = one then p.2 else p.1

/-- The keeper's row of a pair. -/
def leaseRow (d : Dev) (pair : Nat) : Option Lease := (d.lac.pairs.find? fun x => x.1 = pair).map (·.2)

/-- The keeper's row of a pair written. -/
def setLeaseRow (d : Dev) (pair : Nat) (l : Lease) : Dev := { d with lac := { d.lac with pairs := alPut pair l d.lac.pairs } }

/-- A lease frame that the keeper sends in the window of a later lease beat (R203, R205). -/
def leaseLater (d : Dev) (at_ : Nat) (l : Lease) : Dev := { d with lac := { d.lac with leaseQ := d.lac.leaseQ ++ [(at_, l)] } }

/-- The lease frames whose lease beat has come leave, where this device acts (R201 to R205). -/
def leaseWindow (d : Dev) : Dev :=
  let due (x : Nat × Lease) : Bool := decide (x.1 ≤ d.leaseBeat)
  let send := (d.lac.leaseQ.filter due).map (·.2)
  let d := { d with lac := { d.lac with leaseQ := d.lac.leaseQ.filter fun x => !due x } }
  if d.acts then send.foldl mgmtSend d else d

/-- GRANT naming a member, at once or in the window of the next lease beat (R204, R205, R206). -/
def grantTo (d : Dev) (pair epoch : Nat) (who : BitVec 128) (later : Bool := false) : Dev :=
  let n := if later then d.leaseBeat + 1 else d.leaseBeat
  let l : Lease := { sub := 3, peer := 0, pair := pair, lepoch := epoch % 2 ^ 32, lbeat := n, devId := who }
  let d := (d.setLeaseRow pair l).modWlt fun w => { w with lapsed := w.lapsed.filter fun p => p ≠ pair }
  if later then d.leaseLater n l else d.mgmtSend l

/-- A lease lapses: the partner is granted the crown if the last RENEW reported it SYNC or SOLO, else the first member
that then renews (R204). A relinquished one is granted in the window of the next lease beat (R205). -/
def lapse (d : Dev) (r : Lease) (later : Bool := false) : Dev :=
  if r.peer = 2 || r.peer = 3 then d.grantTo r.pair (r.lepoch + 1) (d.otherOf r.pair r.devId) later
  else d.modWlt fun w => { w with lapsed := r.pair :: w.lapsed.filter fun p => p ≠ r.pair }

/-- A RENEW at the keeper: the expiry is set, and CONFIRM leaves in the window of the next lease beat (R203, R204,
R206). -/
def renewArrive (d : Dev) (l : Lease) : Dev :=
  let confirm (d : Dev) : Dev := (d.setLeaseRow l.pair l).leaseLater (d.leaseBeat + 1) { l with sub := 2, peer := 0 }
  match d.leaseRow l.pair with
  | none => confirm d
  | some r =>
    if d.wlt.lapsed.contains l.pair then d.grantTo l.pair (r.lepoch + 1) l.devId
    else if l.devId = r.devId && l.lepoch = r.lepoch then confirm d
    else d

/-- LEASE_LAPSE at the keeper: a pair's lease beat Lexp has come (R204). -/
def leaseLapse (d : Dev) (pair : Nat) (altActs : Bool) : Dev :=
  match d.leaseRow pair with
  | some r =>
    if d.keeps pair altActs && !d.wlt.lapsed.contains pair && decide (r.lbeat + d.leaseLen ≤ d.leaseBeat) then d.lapse r
    else d
  | none => d

/-- MANAGEMENT_FRAME: a frame with a stale EPOCH is discarded (R182); every other is acted on and, unless this keeper
answers for the pair or the frame is this device's own, passed on. -/
def managementFrame (d : Dev) (p epoch : Nat) (l : Lease) (altActs : Bool) : Dev :=
  if newerEpoch (d.rnat A.LAC_EPOCH) epoch then d
  else
    let d := if newerEpoch epoch (d.rnat A.LAC_EPOCH) then d.rsetN A.LAC_EPOCH epoch else d
    let mine := d.paired && l.pair = d.ownAddr
    let keeper := d.keeps l.pair altActs
    let own := if keeper then decide (2 ≤ l.sub ∧ l.sub ≤ 3)
      else mine && l.devId = d.factory.deviceId && (l.sub = 1 || l.sub = 4)
    if own then d
    else
      let d :=
        if keeper then
          if l.sub = 1 then d.renewArrive l
          else if l.sub = 4 then
            match d.leaseRow l.pair with
            | some r => if r.devId = l.devId then d.lapse { r with peer := l.peer } true else d
            | none => d
          else d
        else if mine then
          if l.sub = 2 then d.confirmArrive l else if l.sub = 3 then d.grantArrive l else d
        else d
      d.passMsg p (.mgmt epoch l)

/-! ### Bring-up and the base beat -/

/-- This member becomes HOLDER with a crown epoch (R204, R206). -/
def becomeHolder (d : Dev) (epoch : Nat) : Dev :=
  let d := (d.unfollow.fset F.WLT_STAT_STATE 4).fput F.WLT_STAT_LEASE_OK true
  let d := (d.crownChange epoch).setLc d.leaseBeat
  let d := d.modWlt fun w => { w with
    grant := none, yield := false, relinquished := false, partnerGranted := false, renewed := none, dropped := false }
  let d := (d.raise F.WLT_EVT_CROWN_GAINED).occurPair 2 0x0001 (d.snapOf 4)
  d.loopsHolder

/-- Whether the keeper of this device's pair is present at the end of bring-up. The root's member that does not lead
bring-up knows the stations from ENUM and LAYOUT as they pass it (DEDUCED, log entry 67). -/
def keeperPresent (d : Dev) : Bool :=
  if d.tbNs = 0 then false
  else if d.role = 1 then d.fget F.LAC_STAT_MEMBER = 2
  else (d.lac.level0.admitted.any (fun b => b = 1 || b = 2)
    || (!d.leads && d.lac.level0.ids.any fun x => x.1 = 1 || x.1 = 2))

/-- What the end of bring-up means for the crown (R206): the keeper's first grants, and a pair without a keeper. -/
def crownBringUp (d : Dev) : Dev :=
  let d :=
    if d.paired && d.wltState ≠ 4 && !d.keeperPresent then
      let d := d.fput F.WLT_STAT_KEEPERLESS true
      if d.cfgBit 4 7 then d.becomeHolder 1 else d
    else d
  let d :=
    if d.role = 2 && d.acts then
      (d.lac.level0.pairIds.filter fun x => d.lac.level0.present.contains x.1).foldl
        (fun (d : Dev) (x : Nat × BitVec 128 × BitVec 128) =>
          if (d.leaseRow (128 * x.1)).isSome then d else d.grantTo (128 * x.1) 1 x.2.1) d
    else d
  if d.role = 1 && d.keeps 0 false && d.fget F.LAC_STAT_MEMBER = 2 && (d.leaseRow 0).isNone && Config.rootPair 0 ≠ 0 then
    d.grantTo 0 1 (Config.rootPair 0)
  else d

/-- The crown at a base beat: lease frames whose window it is leave; a grant received makes this member HOLDER, and
one that has relinquished stops its acts and its frames (R204, R205). -/
def crownBeat (d : Dev) : Dev :=
  let d := d.leaseWindow
  let d := match d.wlt.grant with
    | some e => if d.isHolder && d.rnat A.WLT_EPOCH = e then d.modWlt fun w => { w with grant := none }
        else d.becomeHolder e
    | none => d
  if d.wlt.yield && !d.wlt.relinquished then
    (d.fput F.WLT_STAT_LEASE_OK false).modWlt fun w => { w with relinquished := true }
  else d

end Dev

end Sys2Proof.Machine
end

