-- ==== Sys2Proof/Machine/Pages.lean ====
section
/-! DEFINITION. The register pages (R10, R386 to R392): the write locks, the access codes, who may write what, the
latches of the low-word reads, and what a write does in its block. A register's address counts from 0x4000_0000. -/

namespace Sys2Proof.Machine

namespace Dev

/-! ### Locks (R388) -/

/-- Whether a requester's lock on a page is open. -/
def unlocked (d : Dev) (q : Requester) (blk : Nat) : Bool := d.locks.contains (q, blk)

/-- LOCKED_WR of a page is set. -/
def lockedWr (d : Dev) (blk : Nat) : Dev :=
  d.rset (0x10000 * blk + 0xC) (d.rget (0x10000 * blk + 0xC) ||| 0x80000000#32)

/-- A write of xxx_KEY (R387). -/
def keyWrite (d : Dev) (q : Requester) (blk : Nat) (v : Word) : Dev :=
  let rest := d.locks.filter fun x => x ≠ (q, blk)
  { d with locks := if v = 0x6A5A#32 then (q, blk) :: rest else rest }

/-- The one requester that may write a register, where its block names one (R316, R323, R342, R383). -/
def onlyWriter (addr : Nat) : Option Requester :=
  if addr = A.SAF_REQ || addr = A.WDG_SVC then some .program
  else if addr = A.SAF_CONFIRM || addr = A.SAF_RESET then some .service
  else if addr = A.HST_CTL || addr = A.HST_DOORBELL || (0xE1000 ≤ addr && addr < 0xE1200) then some .host
  else none

/-- Whether a pair member turns a write away: one of REG_CAL_WAKE by anyone but the program, on every member (R151), and
one of the LOOP and CAN pages by host or service, on one that is not HOLDER (R297, R337). -/
def pairRefuses (d : Dev) (q : Requester) (addr : Nat) : Bool :=
  d.paired && ((q ≠ .program && addr = A.REG_CAL_WAKE)
    || ((q = .host || q = .service) && !d.isHolder && (addr / 0x10000 = 8 || addr / 0x10000 = 10)))

/-- Whether a write is ignored because of who makes it. -/
def turnedAway (d : Dev) (q : Requester) (addr : Nat) : Bool :=
  d.pairRefuses q addr || (match onlyWriter addr with | some w => w ≠ q | none => false)

/-! ### The access codes (Table 0.7) -/

/-- The fields whose written values are clamped, with their ranges. -/
def clamped : List (Fld × Nat × Nat) :=
  [(F.WLT_CTL_LEASE, 2, 63), (F.SVC_RSL_CFG_TMO, 1, 60000), (F.REC_RPTWIN_MS, 1, 60000),
   (F.TAL_BWWIN_US, 1, 1000000), (F.KEP_INTERVAL_INTERVAL, 1000, 10000000), (F.KEP_WEAR_TARGET_YEARS, 1, 50)]

/-- The word of a register after a write under its access codes. -/
def coded (r : RegRow) (unlocked : Bool) (old v : Word) : Word :=
  let m := r.rw ||| (if unlocked then r.rwl else 0)
  ((old &&& ~~~ m) ||| (v &&& m)) &&& ~~~ (v &&& r.w1c)

/-- A register written under its access codes. -/
def codedWrite (d : Dev) (q : Requester) (r : RegRow) (addr : Nat) (v : Word) : Dev :=
  let blk := addr / 0x10000
  let ok := d.unlocked q blk
  let d := if r.rwl ≠ 0 && !ok then d.lockedWr blk else d
  let d := d.rset addr (coded r ok (d.rget addr) v)
  clamped.foldl (fun (d : Dev) (x : Fld × Nat × Nat) =>
    if x.1.addr = addr then d.fset x.1 (clampN x.2.1 x.2.2 (d.fget x.1)) else d) d

/-- HST_DOORBELL raises alert sources 8 to 15 (Table 2.2). -/
def doorbell (d : Dev) (v : Nat) : Dev :=
  (List.range 8).foldl (fun d k => if v / 2 ^ k % 2 = 1 then d.alert (8 + k) else d) d

/-- The index of a register among `n` registers of one kind. -/
def indexOf (f : Nat → Nat) (n addr : Nat) : Option Nat := (List.range n).find? fun k => f k = addr

/-! ### The latching pairs (R389) -/

/-- The high words that a read of a low word latches. -/
def highsOf (addr : Nat) : List Nat :=
  if addr = A.REG_CAL_BSEC_LO then [A.REG_CAL_BSEC_HI, A.REG_CAL_BSUB]
  else if addr = A.ESC_BNUM_LO then [A.ESC_BNUM_HI]
  else if addr = A.REG_TB_LO then [A.REG_TB_HI]
  else if addr = A.WLT_LEASE_LO then [A.WLT_LEASE_HI]
  else if addr = A.SVC_SEAM_LO then [A.SVC_SEAM_HI]
  else if addr = A.WDG_LSVC_LO then [A.WDG_LSVC_HI]
  else
    match indexOf A.TAL_PCNT_LO 8 addr with
    | some k => [A.TAL_PCNT_HI k]
    | none =>
      match indexOf (fun i => A.TAL_L_LO (i / 4) (i % 4)) 64 addr with
      | some i => [A.TAL_L_HI (i / 4) (i % 4)]
      | none => []

/-- Whether a register is the high word of a latching pair. -/
def isHigh (addr : Nat) : Bool :=
  [A.REG_CAL_BSEC_HI, A.REG_CAL_BSUB, A.ESC_BNUM_HI, A.REG_TB_HI, A.WLT_LEASE_HI, A.SVC_SEAM_HI, A.WDG_LSVC_HI].contains
      addr
    || (indexOf A.TAL_PCNT_HI 8 addr).isSome || (indexOf (fun i => A.TAL_L_HI (i / 4) (i % 4)) 64 addr).isSome

/-- A latched high word; 0 before any read of the low word. -/
def latched (d : Dev) (q : Requester) (addr : Nat) : Word :=
  match d.latches.find? fun (x : Requester × Nat × Word) => x.1 = q && x.2.1 = addr with
  | some x => x.2.2
  | none => 0

/-- A high word latched for a requester. -/
def latch (d : Dev) (q : Requester) (addr : Nat) (w : Word) : Dev :=
  { d with latches := (q, addr, w) :: d.latches.filter fun (x : Requester × Nat × Word) => !(x.1 = q && x.2.1 = addr) }

/-- The beat view that a reader sees (R149): a task its own, any other that of the most recent beat. -/
def viewFor (d : Dev) (task : Option Nat) : Nat × Nat × Bool :=
  match task with
  | some n => let v := beatView (d.task n).anchor (d.task n).relTime; (v.1, v.2, (d.task n).anchor.dst)
  | none => let v := beatView d.gt.anchor (d.esc.lastBeat.getD 0); (v.1, v.2, d.gt.anchor.dst)

/-- The time base that a reader sees: a task of a pair member its release-beat time (R129). -/
def tbFor (d : Dev) (task : Option Nat) : Nat :=
  match task with
  | some n => if d.paired then (d.task n).relTime else d.tb
  | none => d.tb

end Dev

namespace Core

/-- The registers that show a measured voltage, VIO and VFIELD: what the monitors measure is a free value (DESIGN
CHOICE, log entry 61). -/
def measured (addr : Nat) : Bool := addr = A.SVC_PWR || addr = A.FLD_VFIELD

/-- The word of a register as a reader sees it, latches apart. -/
def pageWord (c : Core) (q : Requester) (task : Option Nat) (addr : Nat) : Word :=
  let d := c.dev
  let v := d.viewFor task
  let w (n : Nat) : Word := BitVec.ofNat 32 n
  if addr % 0x10000 = 0x1C then w (Dev.b2n (d.unlocked q (addr / 0x10000)))
  else if addr = A.REG_TB_LO then w (d.tbFor task)
  else if addr = A.REG_TB_HI then w (d.tbFor task / 2 ^ 32)
  else if addr = A.REG_CAL_BSEC_LO then w v.1
  else if addr = A.REG_CAL_BSEC_HI then w (Dev.b2n v.2.2 * 2 ^ 31 + v.1 / 2 ^ 32)
  else if addr = A.REG_CAL_BSUB then w v.2.1
  else if addr = A.SVC_HALF then
    w (Dev.b2n ((c.halfRec 1).state = 4) * 256 + (c.halfRec 1).state * 16 + (c.halfRec 0).state)
  else if addr = A.SVC_ACT_VER then w (d.halfVer (1 - c.inactiveHalf))
  else if addr = A.SVC_STG_VER then w (d.halfVer c.inactiveHalf)
  else if addr = A.SVC_CARRY then
    w (setBits (d.rnat addr) 13 0 (if d.fget F.SVC_RSL_STATE = 2 then c.dirtyEntries.length else 0))
  else if 0x20064 ≤ addr && addr ≤ 0x20070 then
    match d.slotSnap.find? fun (x : Requester × List Word) => x.1 = q with
    | some x => x.2.getD ((addr - 0x20064) / 4) 0
    | none => 0
  else if measured addr then w (setBits (d.rnat addr) 15 0 ((Config.openWord d.free).toNat % 65536))
  else d.live addr

/-- A read of a register page (R386, R389): the word, and what the read latches. -/
def pageRead (c : Core) (q : Requester) (task : Option Nat) (addr : Nat) : Core × Word :=
  if Dev.isHigh addr then (c, c.dev.latched q addr)
  else
    ((Dev.highsOf addr).foldl (fun (k : Core) a => k.onDev fun d => d.latch q a (c.pageWord q task a))
        (if measured addr then c.onDev Dev.nextFree else c),
      c.pageWord q task addr)

/-- What a write does in its block once the access codes have been applied. `b` is the device before the write, `ok`
says whether the requester's lock is open, and a wake is armed at `a` (R151). -/
def pageHook (b : Dev) (ok : Bool) (c : Core) (q : Requester) (addr : Nat) (v : Word) (a : Nat) : Core :=
  let on (f : Dev → Dev) : Core := c.onDev f
  let off := addr % 0x10000
  match addr / 0x10000 with
  | 2 =>
    if addr = A.REG_CTL then on fun d => regCtl' d
    else if addr = A.REG_TRIM then on fun d => d.writeTrim v.toNat
    else if addr = A.REG_SLOT_SEL then on fun d => d.selectSlot q v.toNat
    else if addr = A.REG_CAL_CMD then on fun d => d.calCmd v.toNat
    else if addr = A.REG_CAL_WAKE then on fun d => d.writeWake v.toNat a
    else c
  | 3 =>
    if addr = A.LAC_MBX_DONE then on fun d => d.mailboxFree v
    else if addr = A.LAC_INBOX_POP then (if v.getLsbD 0 then on Dev.inboxPop else c)
    else
      match Dev.indexOf A.LAC_STG_CMD 3 addr with
      | some r => if v.getLsbD 31 then on fun d => d.mailboxPost (if r = 0 then .program else if r = 1 then
          .host else .service)
          else c
      | none => c
  | 4 => if addr = A.WLT_CTL && v.getLsbD 31 then on Dev.handover else c
  | 5 => if addr = A.WKM_PSEL then c.poisonShow else c
  | 6 =>
    match Dev.indexOf A.KEP_RCMD 3 addr with
    | some r =>
      let c := if v.getLsbD 31 then c.recordWrite r else c
      if v.getLsbD 30 then c.recordRead r else c
    | none => c
  | 7 =>
    if addr = A.FLD_DORESTART then on fun d => d.doRestart v.toNat
    else
      match Dev.indexOf A.FLD_AOSTAT 4 addr with
      | some n => if v.toNat &&& b.rnat addr &&& 2 ^ (F.FLD_AOSTAT_COMPLIANCE n).lo ≠ 0 then
          on fun d => d.complianceClear n else c
      | none =>
        let c := if ok && (addr = A.FLD_CTL || (0x40 ≤ off && off < 0x70) || (0x80 ≤ off && off < 0xD0)) then
            on fun d => Dev.fieldCfg b d addr else c
        match Dev.indexOf A.FLD_AOCFG 4 addr with
        | some n => if v.getLsbD 6 then c.trimReload n else c
        | none => c
  | 8 => if 0x100 ≤ off && off < 0x1100 then loopCfg b c addr v else c
  | 9 =>
    if addr = A.SAF_REQ then on Dev.safSettle
    else if addr = A.SAF_CONFIRM then on fun d => d.safConfirm v
    else if addr = A.SAF_RESET then (if v.getLsbD 0 then
        on fun d => d.modSafe fun s => { s with resetPend := true } else c)
    else c
  | 10 =>
    match Dev.indexOf A.CAN_CMD 2 addr with
    | some k =>
      let way := (Config.openWord c.dev.free).getLsbD 0
      on fun d => d.nextFree.canCommand k (bitsOf v.toNat 31 30) (bitsOf v.toNat 6 0) way
    | none => if 0x40 ≤ off && off < 0xC0 then on fun d => Dev.canCfg b d addr else c
  | 11 => if addr = A.WDG_SVC then on fun d => d.wdgService v else c
  | 13 =>
    if addr = A.TAL_CTL then (if v.getLsbD 1 then on Dev.snapshot else c)
    else if addr = A.TAL_SCTL then on Dev.sampleClear
    else
      match Dev.indexOf A.TAL_PSEL 8 addr with
      | some k => on fun d => d.progClear k
      | none => c
  | 14 =>
    if addr = A.HST_DOORBELL then on fun d => d.doorbell v.toNat
    else if 0xE1000 ≤ addr && addr < 0xE1200 then on Dev.msixFlush
    else c
  | _ => c
where
  regCtl' (d : Dev) : Dev := Dev.regCtl b d

/-- A write of a word of a CAN message object: control and data words of R327. -/
def objWrite (c : Core) (addr : Nat) (v : Word) : Core :=
  let k := addr - 0xA1000
  c.onDev fun d => d.canObjWrite (k / 0x3000) (k % 0x3000 / 0x60) (k % 0x60 / 4) v

/-- A write of CAN_CTL: INIT under the lock, RECOVER at once (R326, R333). -/
def canCtl (c : Core) (q : Requester) (v : Word) : Core :=
  c.onDev fun d =>
    let d := if d.unlocked q 10 then d.canInitWrite (v.toNat % 4) else d.lockedWr 10
    d.canRecover (v.toNat / 256 % 4)

/-- A write to a register page (R10, R386 to R392). -/
def pageWrite (c : Core) (q : Requester) (addr : Nat) (v : Word) (a : Nat) : Core :=
  let blk := addr / 0x10000
  if 16 ≤ blk || addr % 4 ≠ 0 then c
  else if c.dev.turnedAway q addr then c.onDev fun d => d.lockedWr blk
  else if addr % 0x10000 = 0x1C then c.onDev fun d => d.keyWrite q blk v
  else if 0xA1000 ≤ addr && addr < 0xA7000 then c.objWrite addr v
  else if addr = A.CAN_CTL then c.canCtl q v
  else
    match regRow addr with
    | none => c
    | some r =>
      let ok := c.dev.unlocked q blk
      let b := c.dev
      if r.rw ||| r.rwl ||| r.w1c ||| r.wo = 0 then c
      else if r.rw ||| r.w1c ||| r.wo = 0 && !ok then c.onDev fun d => d.lockedWr blk
      else
        let c := c.onDev fun d => d.codedWrite q r addr v
        let c := pageHook b ok c q addr v a
        if addr % 0x10000 = 0x10 || addr % 0x10000 = 0x14 then c.onDev fun d => Dev.msixEdge b d blk else c

end Core

end Sys2Proof.Machine
end

