-- ==== Sys2Proof/Machine/Exec.lean ====
section
/-! DEFINITION. How a command's effect reaches the state: on the core alone, and only while it has its supplies and is
not held in reset; and a register write by one of the four requesters. -/

namespace Sys2Proof.Machine

/-- The outcome of a command. -/
abbrev Outcome := Host.Outcome State Fault Refusal

/-- Whether the core has its supplies and is not held in reset (R5, R379). -/
def State.powered (s : State) : Bool := s.core.dev.st ≠ .off && !s.core.dev.held

/-- A command that acts on memory and device. -/
def State.onCore (s : State) (f : Core → Core) : Outcome := .next { s with core := f s.core }

/-- A command that acts on memory and device and finds nothing to act on while the core is OFF or held in reset. -/
def State.whenUp (s : State) (f : Core → Core) : Outcome := if s.powered then s.onCore f else .next s

/-- The instant a wake written by a requester is armed from (R151): a program's is its task's release beat. -/
def Dev.armInstant (d : Dev) (q : Requester) : Nat :=
  match q, d.flight.head? with
  | .program, some x => (d.task x.2.task).relTime
  | _, _ => d.tb

/-- A host's register write is a TLP received (R367, R385). -/
def Dev.hostSeen (q : Requester) (d : Dev) : Dev := if q = .host then (d.tally 0xE00).bytesIn 5 4 else d

/-- A write of a register by a requester (R386, R388); a host write is a TLP received (R385), and one that is not
aligned is discarded with HST_FLT.BUS (R367). -/
def Core.regWrite (c : Core) (q : Requester) (addr : Nat) (v : Word) : Core :=
  let c := c.onDev (Dev.hostSeen q)
  if q = .host && addr % 4 ≠ 0 then c.onDev fun d => d.fput F.HST_FLT_BUS true
  else c.pageWrite q addr v (c.dev.armInstant q)

/-- A write access of `n` bytes to the register pages: a register accepts one aligned 32-bit word (R10), and any other
access is a bus error, which the host port answers by discarding it with HST_FLT.BUS (R367). -/
def Core.wordWrite (c : Core) (q : Requester) (addr : Nat) (v : Word) (n : Nat) : Core :=
  if n = 4 then c.regWrite q addr v
  else if q = .host then c.onDev fun d => (Dev.hostSeen q d).fput F.HST_FLT_BUS true
  else c

/-- The task whose program makes an access: the one that the head belongs to (R64). -/
def Dev.headTask (d : Dev) (q : Requester) : Option Nat :=
  match q, d.flight.head? with
  | .program, some x => some x.2.task
  | _, _ => none

end Sys2Proof.Machine
end

