-- ==== Sys2Proof/Machine/ExecBit.lean ====
section
/-! DEFINITION. The bit and accumulator instructions (R83 to R87). -/

namespace Sys2Proof.Machine

/-- LD (R83). -/
def execLd (tr : Fin 4) (b : BitVec 24) (s : State) : Outcome := s.whenUp fun c => Sys2Proof.Machine.ldBit c tr b

/-- LDN (R83). -/
def execLdn (tr : Fin 4) (b : BitVec 24) (s : State) : Outcome := s.whenUp fun c => Sys2Proof.Machine.ldnBit c tr b

/-- AND (R83). -/
def execAndBit (tr : Fin 4) (b : BitVec 24) (s : State) : Outcome := s.whenUp fun c => Sys2Proof.Machine.andBit c tr b

/-- ANDN (R83). -/
def execAndnBit (tr : Fin 4) (b : BitVec 24) (s : State) : Outcome :=
  s.whenUp fun c => Sys2Proof.Machine.andnBit c tr b

/-- OR (R83). -/
def execOrBit (tr : Fin 4) (b : BitVec 24) (s : State) : Outcome := s.whenUp fun c => Sys2Proof.Machine.orBit c tr b

/-- ORN (R83). -/
def execOrnBit (tr : Fin 4) (b : BitVec 24) (s : State) : Outcome := s.whenUp fun c => Sys2Proof.Machine.ornBit c tr b

/-- XOR (R83). -/
def execXorBit (tr : Fin 4) (b : BitVec 24) (s : State) : Outcome := s.whenUp fun c => Sys2Proof.Machine.xorBit c tr b

/-- XORN (R83). -/
def execXornBit (tr : Fin 4) (b : BitVec 24) (s : State) : Outcome :=
  s.whenUp fun c => Sys2Proof.Machine.xornBit c tr b

/-- ST (R85). -/
def execSt (tr : Fin 4) (b : BitVec 24) (s : State) : Outcome := s.whenUp fun c => Sys2Proof.Machine.stBit c tr b

/-- STN (R85). -/
def execStn (tr : Fin 4) (b : BitVec 24) (s : State) : Outcome := s.whenUp fun c => Sys2Proof.Machine.stnBit c tr b

/-- SET (R85). -/
def execSetBit (tr : Fin 4) (b : BitVec 24) (s : State) : Outcome :=
  s.whenUp fun c => Sys2Proof.Machine.setBitI c tr b

/-- RST (R85). -/
def execRst (tr : Fin 4) (b : BitVec 24) (s : State) : Outcome := s.whenUp fun c => Sys2Proof.Machine.rstBit c tr b

/-- EDGP (R86). -/
def execEdgp (tr : Fin 4) (b : BitVec 24) (s : State) : Outcome := s.whenUp fun c => Sys2Proof.Machine.edgp c tr b

/-- EDGN (R86). -/
def execEdgn (tr : Fin 4) (b : BitVec 24) (s : State) : Outcome := s.whenUp fun c => Sys2Proof.Machine.edgn c tr b

/-- LDL (R83). -/
def execLdl (tr : Fin 4) (b : BitVec 24) (s : State) : Outcome := s.whenUp fun c => Sys2Proof.Machine.ldl c tr b

/-- ANDL (R83). -/
def execAndl (tr : Fin 4) (b : BitVec 24) (s : State) : Outcome := s.whenUp fun c => Sys2Proof.Machine.andl c tr b

/-- ORL (R83). -/
def execOrl (tr : Fin 4) (b : BitVec 24) (s : State) : Outcome := s.whenUp fun c => Sys2Proof.Machine.orl c tr b

/-- XORL (R83). -/
def execXorl (tr : Fin 4) (b : BitVec 24) (s : State) : Outcome := s.whenUp fun c => Sys2Proof.Machine.xorl c tr b

/-- NOTL (R83). -/
def execNotl (tr : Fin 4) (b : BitVec 24) (s : State) : Outcome := s.whenUp fun c => Sys2Proof.Machine.notl c tr b

/-- LCON (R83). -/
def execLcon (tr : Fin 4) (b : BitVec 24) (s : State) : Outcome := s.whenUp fun c => Sys2Proof.Machine.lcon c tr b

/-- LCC (R87). -/
def execLcc (tr : Fin 4) (b : BitVec 24) (s : State) : Outcome := s.whenUp fun c => Sys2Proof.Machine.lcc c tr b

/-- WTOL (R83). -/
def execWtol (tr : Fin 4) (b : BitVec 24) (s : State) : Outcome := s.whenUp fun c => Sys2Proof.Machine.wtol c tr b

end Sys2Proof.Machine
end

