-- ==== Sys2Proof/Machine/ExecCan.lean ====
section
/-! DEFINITION. Commands of CAN (R325 to R340). -/

namespace Sys2Proof.Machine

/-- CANCEL through CAN_CMD (R331). -/
def Core.cancelCommand (c : Core) (q : Requester) (k obj : Nat) (underWay : Bool) : Core :=
  if c.dev.turnedAway q (A.CAN_CMD k) then c.onDev fun d => d.lockedWr 10
  else c.onDev fun d => d.canCommand k 2 obj underWay

/-- CAN_FRAME_RECEIVED (R328). -/
def execCanFrameReceived (k : Fin 2) (f : CanFrame) (e1 e2 : List (Nat × Byte)) (s : State) : Outcome :=
  s.whenUp fun c => c.canFrame k f e1 e2

/-- CAN_TRANSMISSION_END (R332). -/
def execCanTransmissionEnd (k : Fin 2) (sof : Nat) (outcome : Fin 3) (e1 e2 : List (Nat × Byte)) (s : State) : Outcome :=
  s.whenUp fun c => c.canSent k sof outcome e1 e2

/-- CAN_BUS_ERROR (R333). -/
def execCanBusError (k : Fin 2) (kind : Nat) (tx : Bool) (inc : Nat) (s : State) : Outcome :=
  s.whenUp fun c => c.onDev fun d => d.canError k kind tx inc

/-- REQUEST (R331). -/
def execCanRequest (q : Requester) (k : Fin 2) (obj : Fin 128) (s : State) : Outcome :=
  s.whenUp fun c => c.regWrite q (A.CAN_CMD k) (BitVec.ofNat 32 (1 * 2 ^ 30 + obj.val))

/-- CANCEL (R331). `underWay`: the object's transmission has begun. -/
def execCanCancel (q : Requester) (k : Fin 2) (obj : Fin 128) (underWay : Bool) (s : State) : Outcome :=
  s.whenUp fun c => c.cancelCommand q k obj underWay

/-- FREE (R331). -/
def execCanFree (q : Requester) (k : Fin 2) (obj : Fin 128) (s : State) : Outcome :=
  s.whenUp fun c => c.regWrite q (A.CAN_CMD k) (BitVec.ofNat 32 (3 * 2 ^ 30 + obj.val))

/-- RECOVER (R333). -/
def execCanRecover (q : Requester) (v : Word) (s : State) : Outcome := s.whenUp fun c => c.regWrite q A.CAN_CTL v

/-- CAN_RECOVERY_DONE (R333). -/
def execCanRecoveryDone (k : Fin 2) (s : State) : Outcome := s.whenUp fun c => c.onDev fun d => d.canRecovered k

/-- CAN_INIT_WRITE (R326). -/
def execCanInitWrite (q : Requester) (v : Word) (s : State) : Outcome := s.whenUp fun c => c.regWrite q A.CAN_CTL v

/-- CAN_OBJECT_WRITE (R327). -/
def execCanObjectWrite (q : Requester) (addr : Nat) (v : Word) (s : State) : Outcome :=
  s.whenUp fun c => if 0xA1000 ≤ addr && addr < 0xA7000 then c.regWrite q addr v else c

/-- TT_CYCLE_START (R335). -/
def execTtCycleStart (k : Fin 2) (won : Bool) (s : State) : Outcome :=
  s.whenUp fun c => c.onDev fun d => d.ttStart k won

/-- TT_TIME_MARK (R336). -/
def execTtTimeMark (k : Fin 2) (obj : Fin 128) (s : State) : Outcome :=
  s.whenUp fun c => c.onDev fun d => d.ttMark k obj

/-- TT_REF_MISS (R335). -/
def execTtRefMiss (k : Fin 2) (s : State) : Outcome := s.whenUp fun c => c.onDev fun d => d.ttMiss k

/-- CAN_INTEGRATION (R326). -/
def execCanIntegration (k : Fin 2) (s : State) : Outcome := s.whenUp fun c => c.onDev fun d => d.canIntegrate k

end Sys2Proof.Machine
end

