-- ==== Sys2Proof/Machine/IntInstr.lean ====
section
/-! DEFINITION. The 32-bit and 64-bit integer instructions 0x30 to 0x6C (Table 4.4, R80, R82, R88 to R92). -/

namespace Sys2Proof.Machine

/-- Format WR is legal: bits [11:0] are 0. -/
def legalWR (b : Body) : Bool := fldB b 11 0 = 0
/-- Format WI is legal: bits [15:12] are 0. -/
def legalWI (b : Body) : Bool := fldB b 15 12 = 0

/-- The shape of a two-operand word instruction in both forms: Wd = Ws op Wt, or Ws op immediate, with the immediate
sign-extended, or zero-extended where `zx`. -/
def wordOp (c : Core) (t : Nat) (imm : Bool) (b : Body) (zx : Bool) (f : Nat → Nat → Res) : Core :=
  if imm then
    c.regInstr t (legalWI b) { w := [fS b] } fun v r =>
      r.putRes (fD b) (f (v.getW (fS b)) (if zx then fImm12 b else sext12 b))
  else c.regInstr t (legalWR b) { w := [fS b, fT b] } fun v r => r.putRes (fD b) (f (v.getW (fS b)) (v.getW (fT b)))

/-- ADD, ADDI. -/
def addI (c : Core) (t : Nat) (imm : Bool) (b : Body) : Core := wordOp c t imm b false (addRes 32)
/-- SUB, SUBI. -/
def subI (c : Core) (t : Nat) (imm : Bool) (b : Body) : Core := wordOp c t imm b false (subRes 32)
/-- MUL, MULI. -/
def mulI (c : Core) (t : Nat) (imm : Bool) (b : Body) : Core := wordOp c t imm b false (mulRes 32)
/-- DIV, DIVI (R88). -/
def divI (c : Core) (t : Nat) (imm : Bool) (b : Body) : Core := wordOp c t imm b false (divRes 32)
/-- DIVU, DIVUI. -/
def divuI (c : Core) (t : Nat) (imm : Bool) (b : Body) : Core := wordOp c t imm b true (divuRes 32)
/-- MOD, MODI. -/
def modI (c : Core) (t : Nat) (imm : Bool) (b : Body) : Core := wordOp c t imm b false (modRes 32)
/-- MODU, MODUI. -/
def moduI (c : Core) (t : Nat) (imm : Bool) (b : Body) : Core := wordOp c t imm b true (moduRes 32)
/-- AND, ANDI. -/
def andI (c : Core) (t : Nat) (imm : Bool) (b : Body) : Core := wordOp c t imm b true fun x y => logicRes 32 (x &&& y)
/-- OR, ORI. -/
def orI (c : Core) (t : Nat) (imm : Bool) (b : Body) : Core := wordOp c t imm b true fun x y => logicRes 32 (x ||| y)
/-- XOR, XORI. -/
def xorI (c : Core) (t : Nat) (imm : Bool) (b : Body) : Core := wordOp c t imm b true fun x y => logicRes 32 (x ^^^ y)

/-- The shape of a 32-bit shift: by Wt[4:0], or by an immediate that must not exceed 31 (R82). -/
def shiftOp (c : Core) (t : Nat) (imm : Bool) (b : Body) (f : Nat → Nat → Res) : Core :=
  if imm then
    c.regInstr t (legalWI b && decide (fImm12 b ≤ 31)) { w := [fS b] } fun v r =>
      r.putRes (fD b) (f (v.getW (fS b)) (fImm12 b))
  else c.regInstr t (legalWR b) { w := [fS b, fT b] } fun v r =>
    r.putRes (fD b) (f (v.getW (fS b)) (v.getW (fT b) % 32))

/-- SHL, SHLI. -/
def shlI (c : Core) (t : Nat) (imm : Bool) (b : Body) : Core := shiftOp c t imm b (shlRes 32)
/-- SHR, SHRI. -/
def shrI (c : Core) (t : Nat) (imm : Bool) (b : Body) : Core := shiftOp c t imm b (shrRes 32)
/-- SAR, SARI. -/
def sarI (c : Core) (t : Nat) (imm : Bool) (b : Body) : Core := shiftOp c t imm b (sarRes 32)
/-- ROL, ROLI. -/
def rolI (c : Core) (t : Nat) (imm : Bool) (b : Body) : Core := shiftOp c t imm b (rolRes 32)

/-- CMP, CMPI: the flags of the subtraction, no register; D is named by the format and not read or written (R89). -/
def cmpI (c : Core) (t : Nat) (imm : Bool) (b : Body) : Core :=
  if imm then
    c.regInstr t (legalWI b) { w := [fS b] } fun v r => r.putF (subRes 32 (v.getW (fS b)) (sext12 b)).2
  else c.regInstr t (legalWR b) { w := [fS b, fT b] } fun v r =>
    r.putF (subRes 32 (v.getW (fS b)) (v.getW (fT b))).2

/-- MOV, MOVI: S must be 0. -/
def movI (c : Core) (t : Nat) (imm : Bool) (b : Body) : Core :=
  if imm then c.regInstr t (legalWI b && fS b = 0) {} fun _ r => r.putRes (fD b) (logicRes 32 (sext12 b))
  else c.regInstr t (legalWR b && fS b = 0) { w := [fT b] } fun v r => r.putRes (fD b) (logicRes 32 (v.getW (fT b)))

/-- Format WK is legal: bits [19:16] are 0. -/
def legalWK (b : Body) : Bool := fldB b 19 16 = 0

/-- MOVL: Wd = IMM16. -/
def movl (c : Core) (t : Nat) (b : Body) : Core := c.regInstr t (legalWK b) {} fun _ r => r.putW (fD b) (fImm16 b)
/-- MOVH: Wd[31:16] = IMM16; Wd[15:0] unchanged. -/
def movh (c : Core) (t : Nat) (b : Body) : Core :=
  c.regInstr t (legalWK b) { w := [fD b] } fun v r => r.putW (fD b) (setBits (v.getW (fD b)) 31 16 (fImm16 b))

/-- POS and WM1 of format WB. -/
def fPos (b : Body) : Nat := fldB b 9 5
def fWm1 (b : Body) : Nat := fldB b 4 0
/-- Format WB is legal: bits [15:10] are 0 and the field fits (R82). -/
def legalWB (b : Body) : Bool := fldB b 15 10 = 0 && decide (fPos b + fWm1 b + 1 ≤ 32)

/-- BFX: the field, zero-extended (R90). -/
def bfx (c : Core) (t : Nat) (b : Body) : Core :=
  c.regInstr t (legalWB b) { w := [fS b] } fun v r =>
    r.putW (fD b) (bitsOf (v.getW (fS b)) (fPos b + fWm1 b) (fPos b))
/-- BFXS: the field, sign-extended. -/
def bfxs (c : Core) (t : Nat) (b : Body) : Core :=
  c.regInstr t (legalWB b) { w := [fS b] } fun v r =>
    r.putW (fD b) (unsigned 32 (signed (fWm1 b + 1) (bitsOf (v.getW (fS b)) (fPos b + fWm1 b) (fPos b))))
/-- BFI: the low bits of Ws into the field of Wd. -/
def bfi (c : Core) (t : Nat) (b : Body) : Core :=
  c.regInstr t (legalWB b) { w := [fS b, fD b] } fun v r =>
    r.putW (fD b) (setBits (v.getW (fD b)) (fPos b + fWm1 b) (fPos b) (v.getW (fS b)))

/-- The number of zero bits above the most significant 1 of a word; 32 for 0 (R91). -/
def clz32 (x : Nat) : Nat := if x = 0 then 32 else 31 - Nat.log2 x

/-- CLZ. -/
def clz (c : Core) (t : Nat) (b : Body) : Core :=
  c.regInstr t (legalWR b && fT b = 0) { w := [fS b] } fun v r => r.putW (fD b) (clz32 (v.getW (fS b)))

/-- The byte a selector nibble chooses of a 64-bit value (R92). -/
def prmByte (v sel : Nat) : Nat := if sel ≤ 7 then v / 2 ^ (8 * sel) % 256 else if sel = 9 then 0xFF else 0

/-- The word a 16-bit selector builds (R92). -/
def permute (v sel : Nat) : Nat :=
  prmByte v (bitsOf sel 3 0) + 256 * prmByte v (bitsOf sel 7 4) + 65536 * prmByte v (bitsOf sel 11 8)
    + 16777216 * prmByte v (bitsOf sel 15 12)

/-- Whether each nibble of a selector is at most 0x9 (R82). -/
def selOk (sel : Nat) : Bool := (List.range 4).all fun i => decide (bitsOf sel (4 * i + 3) (4 * i) ≤ 9)

/-- BPRM. -/
def bprm (c : Core) (t : Nat) (b : Body) : Core :=
  c.regInstr t (pairOk (fS b) && selOk (fImm16 b)) { w := [fS b, fS b + 1] } fun v r =>
    r.putW (fD b) (permute (v.getD (fS b)) (fImm16 b))

/-- LTOW: Wd = Ln as 0 or 1; bits [19:3] are 0. -/
def ltow (c : Core) (t : Nat) (b : Body) : Core :=
  c.regInstr t (fldB b 19 3 = 0) { l := [fldB b 2 0] } fun v r => r.putW (fD b) (if v.getL (fldB b 2 0) then 1 else 0)

/-- ADR: Wd = PC + 4 * sext(IMM16) (R98). -/
def adr (c : Core) (t : Nat) (b : Body) : Core :=
  c.regInstr t (legalWK b) {} fun _ r =>
    r.putW (fD b) (unsigned 32 ((r.pc.toNat : Int) + 4 * signed 16 (fImm16 b)))

/-! ### 64-bit forms -/

/-- Format WR with D, S and T naming pairs (R80). -/
def legalD3 (b : Body) : Bool := legalWR b && pairOk (fD b) && pairOk (fS b) && pairOk (fT b)

/-- The registers of a pair. -/
def pairW (i : Nat) : List Nat := [i, i + 1]

/-- The shape of a 64-bit two-operand instruction. -/
def dwordOp (c : Core) (t : Nat) (b : Body) (f : Nat → Nat → Res) : Core :=
  c.regInstr t (legalD3 b) { w := pairW (fS b) ++ pairW (fT b) } fun v r =>
    r.putResD (fD b) (f (v.getD (fS b)) (v.getD (fT b)))

/-- ADD.D. -/
def addD (c : Core) (t : Nat) (b : Body) : Core := dwordOp c t b (addRes 64)
/-- SUB.D. -/
def subD (c : Core) (t : Nat) (b : Body) : Core := dwordOp c t b (subRes 64)
/-- MUL.D. -/
def mulD (c : Core) (t : Nat) (b : Body) : Core := dwordOp c t b (mulRes 64)
/-- DIV.D. -/
def divD (c : Core) (t : Nat) (b : Body) : Core := dwordOp c t b (divRes 64)
/-- DIVU.D. -/
def divuD (c : Core) (t : Nat) (b : Body) : Core := dwordOp c t b (divuRes 64)
/-- MOD.D. -/
def modD (c : Core) (t : Nat) (b : Body) : Core := dwordOp c t b (modRes 64)
/-- MODU.D. -/
def moduD (c : Core) (t : Nat) (b : Body) : Core := dwordOp c t b (moduRes 64)

/-- CMP.D: D must be 0. -/
def cmpD (c : Core) (t : Nat) (b : Body) : Core :=
  c.regInstr t (legalD3 b && fD b = 0) { w := pairW (fS b) ++ pairW (fT b) } fun v r =>
    r.putF (subRes 64 (v.getD (fS b)) (v.getD (fT b))).2
/-- MOV.D: S must be 0. -/
def movD (c : Core) (t : Nat) (b : Body) : Core :=
  c.regInstr t (legalD3 b && fS b = 0) { w := pairW (fT b) } fun v r =>
    r.putResD (fD b) (logicRes 64 (v.getD (fT b)))
/-- SXT: Wd pair = Ws sign-extended; T must be 0. -/
def sxt (c : Core) (t : Nat) (b : Body) : Core :=
  c.regInstr t (legalWR b && pairOk (fD b) && fT b = 0) { w := [fS b] } fun v r =>
    r.putD (fD b) (unsigned 64 (signed 32 (v.getW (fS b))))

/-- The shape of a 64-bit shift by Wt[5:0]. -/
def shiftD (c : Core) (t : Nat) (b : Body) (f : Nat → Nat → Res) : Core :=
  c.regInstr t (legalWR b && pairOk (fD b) && pairOk (fS b)) { w := pairW (fS b) ++ [fT b] } fun v r =>
    r.putResD (fD b) (f (v.getD (fS b)) (v.getW (fT b) % 64))

/-- SHL.D. -/
def shlD (c : Core) (t : Nat) (b : Body) : Core := shiftD c t b (shlRes 64)
/-- SHR.D. -/
def shrD (c : Core) (t : Nat) (b : Body) : Core := shiftD c t b (shrRes 64)
/-- SAR.D. -/
def sarD (c : Core) (t : Nat) (b : Body) : Core := shiftD c t b (sarRes 64)

end Sys2Proof.Machine
end

