-- ==== Sys2Proof/Machine/SysInstr.lean ====
section
/-! DEFINITION. The system instructions 0x00 to 0x09 (Table 4.4, R54 to R56, R72, R105, R109 to R111). -/

namespace Sys2Proof.Machine

/-- NOP. -/
def nop (c : Core) (t : Nat) (b : Body) : Core := c.regInstr t (b = 0) {} fun _ r => r

/-! ### STRAND -/

/-- SID and SEALED of a STRAND instruction (Table 3.1). -/
def fSid (b : Body) : Nat := fldB b 23 12
def fSealed (b : Body) : Bool := fldB b 11 11 = 1

/-- Whether the instance that a STRAND closes was opened with SEALED = 1, when that is known yet (R56). -/
def prevSealed (c : Core) (r : Run) : Option Bool :=
  match r.prevSealed with
  | some b => some b
  | none =>
    match (c.dev.olderRuns r.age).head? with
    | some x => if x.opened then some x.sealed else none
    | none => some (c.dev.task r.task).prevSealed

/-- The NEXT offset of a footprint entry, in instruction words (Table 3.2). -/
def fpNext (c : Core) (a : Nat) : Nat := c.mem.cells.le a 2

/-- Whether every condition of R72 holds for the strand whose STRAND instruction stands at the instance's start, in a
cycle that is not a full scan (R49, R50); the NEXT offset. -/
def dormant (c : Core) (r : Run) (sid : Nat) (sealed : Bool) : Option Nat :=
  let t := c.dev.task r.task
  if c.dev.fbit F.ESC_CTL_DORMANT_EN && !t.fullScan && sealed then
    match c.fpEntry sid with
    | none => none
    | some a =>
      let rec? := c.dev.mov.dorm.find? fun x => x.sid = sid && x.task = r.task
      match rec? with
      | none => none
      | some x =>
        if c.fpDeclared a && x.addr = r.start && x.ok && !x.readChanged && !x.writeChanged && fpNext c a ≠ 0 then
          some (fpNext c a)
        else none
  else none

/-- A dormant strand is skipped: the task continues at the STRAND instruction at NEXT, which zeroes the registers. -/
def skipStrand (c : Core) (t : Nat) (r : Run) (sid next : Nat) : Core :=
  let a := r.start + BitVec.ofNat 32 (4 * next)
  c.setRun t (some { r with start := a, pc := a, prevSealed := some true, skips := r.skips ++ [sid], wait := none })

/-- The instance opens: its registers are zeroed where R56 says so. -/
def openRun (c : Core) (t : Nat) (r : Run) (sid : Nat) (sealed zero : Bool) : Core :=
  let r := { r with sid := sid, sealed := sealed, opened := true, via := none, delay := [] }
  let r := if zero then r.zeroed else r
  if c.inHalf r.advance.pc then c.retire t r.advance r.pc else c.trapOrWait t { r with opened := false } tACCESS none

/-- STRAND (R54 to R56, R72): on an instance that is open it is the end of that instance; on one not yet open it is
skipped when dormant, which is decided at the head, and otherwise opens the instance. -/
def strand (c : Core) (t : Nat) (b : Body) : Core :=
  match c.dev.run t with
  | none => c
  | some r =>
    if r.exit.isSome then c
    else if r.opened then c.endRun t r { next := r.pc, via := r.via }
    else if fldB b 10 0 ≠ 0 then c.trapOrWait t { r with sid := fSid b } tILLEGAL_ENC none
    else
      match dormant c r (fSid b) (fSealed b) with
      | some next => if c.isHead t then skipStrand c t r (fSid b) next else c
      | none =>
        if fSealed b then openRun c t r (fSid b) true true
        else
          match prevSealed c r with
          | some z => openRun c t r (fSid b) false z
          | none => c.setRun t (some { r with wait := some .register })

/-! ### The others -/

/-- An instruction that only the head performs: its effect joins the instance and takes place at commit (R64, R109). -/
def headInstr (c : Core) (t : Nat) (legal : Bool) (srcs : Srcs) (e : Regs → Effect) : Core :=
  c.instr t legal srcs fun c r v =>
    if c.isHead t then .next c { r with effects := r.effects ++ [e v], noDorm := true }.advance else .wait .head

/-- ALERT: number [2:0]. -/
def alertI (c : Core) (t : Nat) (b : Body) : Core :=
  headInstr c t (fldB b 23 3 = 0) {} fun _ => .alert (fldB b 2 0)

/-- CHKIN. -/
def chkin (c : Core) (t : Nat) (b : Body) : Core := headInstr c t (b = 0) {} fun _ => .chkin

/-- RECEV: CODE [15:0]; its snapshot words are W0 to W11 at the instruction. -/
def recev (c : Core) (t : Nat) (b : Body) : Core :=
  headInstr c t (fldB b 23 16 = 0) { w := List.range 12 } fun v => .recev (fImm16 b) (v.w.toList.take 12)

/-- Format of TIME and TSLIVE. -/
def legalTime (b : Body) : Bool := pairOk (fD b) && fldB b 19 0 = 0

/-- TIME: the release-beat time (R110). -/
def timeI (c : Core) (t : Nat) (b : Body) : Core :=
  c.instr t (legalTime b) {} fun c r _ =>
    .next c ({ r with noDorm := true }.putD (fD b) (c.dev.task r.task).relTime).advance

/-- TSLIVE: the live time, or on a pair member the release-beat time (R111). -/
def tslive (c : Core) (t : Nat) (b : Body) : Core :=
  c.instr t (legalTime b) {} fun c r _ =>
    let v := if c.dev.paired then (c.dev.task r.task).relTime else c.dev.tb
    .next c ({ r with noDorm := true }.putD (fD b) v).advance

/-- GETF: Wd = FLAGS. -/
def getf (c : Core) (t : Nat) (b : Body) : Core :=
  c.regInstr t (fldB b 19 0 = 0) { fl := flagsMask } fun v r => r.putW (fD b) v.flags.toNat

/-- PUTF: FLAGS = Ws, reserved bits ignored. -/
def putf (c : Core) (t : Nat) (b : Body) : Core :=
  c.regInstr t (fldB b 23 20 = 0 && fldB b 15 0 = 0) { w := [fS b] } fun v r =>
    r.putF { mask := flagsMask, val := BitVec.ofNat 32 (v.getW (fS b)) &&& flagsMask }

end Sys2Proof.Machine
end

