-- ==== Sys2Proof/Machine/Strands.lean ====
section
/-! DEFINITION. Strands as the dispatcher and the commit see them (R53, R59, R60, R66 to R69), the end of a task's cycle
(R42), and completion timeouts (R13, R23). -/

namespace Sys2Proof.Machine

namespace Core

/-! ### Dispatch (R59, R60) -/

/-- The SID of the STRAND instruction at a code address, when one stands there. -/
def strandAt (c : Core) (a : Word) : Option Nat :=
  let w := c.mem.cells.le a.toNat 4
  if w / 2 ^ 24 = 0x01 then some (w / 2 ^ 12 % 2 ^ 12) else none

/-- The predicted successor of the youngest instance: its start, and what a continuation carries over. -/
def successor (c : Core) (y : Run) : Option (Word × Option Exit) :=
  match y.exit with
  | some e => if e.top then none else some (e.next, some e)
  | none =>
    if !y.opened then none
    else
      match y.via with
      | some a =>
        if (c.strandAt y.pc).isSome then
          match c.dev.mov.predictor.find? fun (x : Nat × Word) => x.1 = predIndex a with
          | some x => some (x.2, none)
          | none => none
        else byNext
      | none => byNext
where
  byNext : Option (Word × Option Exit) :=
    match c.fpEntry y.sid with
    | some a => if fpNext c a = 0 then none else some (y.base.getD y.start + BitVec.ofNat 32 (4 * fpNext c a), none)
    | none => none

/-- Whether two lists of group ranges overlap. -/
def rangesMeet (xs ys : List (Nat × Nat)) : Bool :=
  xs.any fun x => ys.any fun y => decide (x.1 ≤ y.1 + y.2) && decide (y.1 ≤ x.1 + x.2)

/-- Whether PRED_HOLD holds a strand back (R60). -/
def held (c : Core) (sid : Nat) : Bool :=
  c.dev.fbit F.MOV_CTL_PRED_HOLD &&
    match c.fpEntry sid with
    | none => false
    | some a => c.fpDeclared a && c.dev.flight.any fun x =>
        match c.fpEntry x.2.sid with
        | none => false
        | some o => c.fpDeclared o && rangesMeet (c.fpReads a) (c.fpWrites o)

/-- A strand instance on a train, in program order after those in flight. -/
def place? (c : Core) (t : Nat) (r : Run) : Core :=
  c.onDev fun d =>
    let owed := d.mov.retries.contains (r.task, r.start)
    { d with mov := { d.mov with
        trains := d.mov.trains.setIfInBounds t (some { r with age := d.mov.nextAge, timedOut := owed }),
        nextAge := d.mov.nextAge + 1, retries := d.mov.retries.erase (r.task, r.start),
        heldSids := if r.cont then d.mov.heldSids else d.mov.heldSids.filter (· ≠ r.sid) } }

/-- STRAND_DISPATCH: a free train takes the served task's next strand or the predicted successor of the youngest
instance in flight (R53, R59, R60, R76). PRED_HOLD holds strands back and never a continuation (DESIGN CHOICE, log
entry 64). -/
def dispatch (c : Core) (t : Nat) : Core :=
  let d := c.dev
  match d.served with
  | none => c
  | some n =>
    let fl := d.flight
    if (d.run t).isSome || d.fget F.MOV_CTL_TRAINS < t || d.wlt.await && d.follows
        || fl.any (fun x => x.2.task ≠ n) || (d.fbit F.MOV_CTL_SPEC_OFF && !fl.isEmpty) then c
    else
      match fl.getLast? with
      | none =>
        let k := d.task n
        match k.cont with
        | some (sid, sealed, delay) =>
          c.place? t { task := n, sid := sid, cont := true, opened := true, sealed := sealed, start := k.pc, pc := k.pc,
                       base := some k.contBase, age := 0, delay := delay, delay0 := delay }
        | none => c.place? t { task := n, sid := (c.strandAt k.pc).getD 0, start := k.pc, pc := k.pc, age := 0,
                               prevSealed := some k.prevSealed }
      | some (_, y) =>
        match c.successor y with
        | none => c
        | some (a, e) =>
          match e.bind fun (e : Exit) => if e.cont then some e else none with
          | some e =>
            c.place? t { task := n, sid := y.sid, cont := true, opened := true, sealed := y.sealed, start := a, pc := a,
                         base := some (y.base.getD y.start), age := 0, delay := e.delay, delay0 := e.delay }
          | none =>
            match c.strandAt a with
            | some sid =>
              if c.held sid then
                if d.mov.heldSids.contains sid then c
                else c.onDev fun d => { d.tally 0x009 with mov := { d.mov with heldSids := sid :: d.mov.heldSids } }
              else
                c.place? t { task := n, sid := sid, start := a, pc := a, age := 0 }
            | none => c.place? t { task := n, start := a, pc := a, age := 0 }

/-! ### The end of a cycle (R42) -/

/-- A task's top-level return has committed: its cycle is complete. On a member that follows the crown holder it is so
once the verdict has been reached and the copy written (R42, R196). -/
def cycleComplete (c : Core) (n : Nat) : Core :=
  if c.dev.follows then c.cycleAwaits n 0 (c.dev.task n).pc
  else ((c.cycleCounts n).cycleEnds n 0).cycleReset n

/-! ### Commit (R68, R72) -/

/-- The dormancy record of an instance that has committed and ended at `e` (R72). -/
def dormRecord (c : Core) (r : Run) (e : Exit) : Core :=
  let ok := r.sealed && !r.cont && !e.cont && !e.top && !r.undeclared && !r.noDorm &&
    match c.fpEntry r.sid with
    | some a => fpNext c a ≠ 0 && decide (e.next = r.start + BitVec.ofNat 32 (4 * fpNext c a))
    | none => false
  let x : DormRec := { sid := r.sid, task := r.task, addr := r.start, ok := ok, readChanged := r.readChanged }
  c.onDev fun d => { d with mov := { d.mov with
    dorm := x :: d.mov.dorm.filter fun (y : DormRec) => !(y.sid = r.sid && y.task = r.task) } }

/-- The instances of a task other than its head leave their trains: pre-emption (R39, R66). -/
def preempt (c : Core) (n : Nat) : Core :=
  let head := c.dev.headTrain
  c.dev.flight.foldl (fun c x =>
    if x.2.task = n && head ≠ some x.1 then
      (c.vacate x.1 x.2).onDev fun d => ((d.tally 0x006).tally 0x002)
    else c) c

/-- Whether the head may commit: a member that follows the crown holder commits no further than it has been told
(R192). -/
def mayCommit (c : Core) (n : Nat) : Bool :=
  match commitLimit c.dev n with
  | none => true
  | some k => (c.dev.task n).commits < k

/-- Whether an opcode is reserved, so that no instruction stands behind it (R83, Tables 4.3 and 4.4). -/
def reservedOp (o : Nat) : Bool := (formOf o).isNone

/-- HEAD_COMMIT: a head that has reached its end commits, and the next instance becomes head (R68). A head whose next
instruction has a reserved opcode, which no command executes, traps (R83; DEDUCED, log entry 23). -/
def commitHead (c : Core) : Core :=
  match c.dev.flight.head? with
  | none => c
  | some (t, r) =>
    match r.exit with
    | none =>
      if r.opened && reservedOp (c.mem.cells.read (r.pc.toNat + 3)).toNat then c.takeTrap t r tILLEGAL_OP none else c
    | some e =>
      if !c.mayCommit r.task then (if marksWait c.dev r.task then c.waitFor t r .mark else c)
      else
        let c := c.commitState t r
        let r := (c.dev.run t).getD r
        let c := (c.setRun t none).dormRecord r e
        let c := c.onDev fun d =>
          let d := d.tally 0x001
          let d := if r.timedOut then (d.transient 0).occurBlk 8 F.MOV_EVT_TIMEOUT.lo 0 else d
          d.modTask r.task fun k => { k with
            pc := e.next, contBase := r.base.getD r.start, cont := if e.cont then some (r.sid, r.sealed,
                e.delay) else none }
        let c := c.countCommit r.task
        let c := if c.dev.wlt.displaced.any fun x => x.1 = r.task && x.2 ≤ (c.dev.task r.task).commits then
            (c.preempt r.task).onDev fun d => d.modWlt fun w => { w with
              displaced := w.displaced.filter fun x => x.1 ≠ r.task }
          else c
        if e.top then c.cycleComplete r.task else c

/-! ### Completion timeouts (R13, R66, R67) -/

/-- COMPLETION_TIMEOUT on a train: the instance and all younger ones are let down, and its next execution is the retry;
a timeout of the retry is lasting, and its let-down counts before the task fault policy clears the trains (R23, R66). -/
def timeout (c : Core) (t : Nat) : Core :=
  match c.dev.run t with
  | none => c
  | some r =>
    let c := c.onDev fun d => (d.raise F.MOV_EVT_TIMEOUT).tally 0x00D
    if r.timedOut then
      let c := c.onDev fun d =>
        let d := (d.raise F.MOV_EVT_LASTING).lasting 0 0
        if d.fget F.MOV_FLT_CAUSE = 0 then
          ((d.fset F.MOV_FLT_CAUSE 1).fset F.MOV_FLT_SID r.sid).fset F.MOV_FLT_TASK r.task else d
      (c.letDownFrom r.age).taskFault r.task 5 r.start
    else
      (c.setRun t (some { r with timedOut := true })).letDownFrom r.age

end Core

end Sys2Proof.Machine
end

