-- ==== Sys2Proof/Machine/Escapement.lean ====
section
/-! DEFINITION. ESCAPEMENT (R27 to R48): the changes of device state, publishing, releases, the overrun policies and
the limits, and the single-beat step. -/

namespace Sys2Proof.Machine

namespace Dev

/-- ESCAPEMENT changed. -/
def modEsc (d : Dev) (f : Esc → Esc) : Dev := { d with esc := f d.esc }

/-- The tasks of the image that are not halted, highest priority first. -/
def liveTasks (d : Dev) : List Nat :=
  d.byPrio ((List.range 16).filter fun n => d.fbit (F.ESC_TCFG_EN n) && !(d.task n).halted)

/-! ### Changes of device state (Table 0.6) -/

/-- No program executes any more: the trains are empty, no task is active or halted; pending alerts stay (R47, R48). -/
def idleTasks (d : Dev) : Dev :=
  let d := d.escMark
  let d := { d with mov := { d.mov with trains := Vector.replicate 4 none, heldSids := [], retries := [] } }
  (List.range 16).foldl (fun d n => d.modTask n fun t => { pendingAlert := t.pendingAlert }) d

/-- What leaving RUN means for every block: WATCH is suspended, an armed resole is cancelled, the safety requests are
cleared and the outputs take their stop values at the next beat (R29, R236, R316, R346). -/
def leaveRun (d : Dev) : Dev :=
  let d := (d.idleTasks.wdgSuspend).rslCancel
  (d.modEsc fun e => { e with outSafe := true, runStart := none, runReq := false, stopReq := false }).safState

/-- Entry to SAFE (R7, Table 0.5). A pair member that is not HOLDER no longer meets R186. A STEP still in progress is
answered STATE (DESIGN CHOICE, log entry 64). -/
def enterSafe (d : Dev) : Dev :=
  let d := ({ d with st := .safe }).leaveRun
  let d := d.modEsc fun e => { e with safeFault := false, stepReq := false, stepping := false }
  let d := d.modSvc fun s => { s with safeWrite := true }
  let d := d.modWlt fun w => { w with safeAfter := false, bothTrap := false }
  let d := ((d.respondTo 0x30 sSTATE []).respondTo 0x31 sSTATE []).respondTo 0x32 sSTATE []
  if d.paired && !d.isHolder && d.wltState ≠ 0 then d.becomeUnsync 6 else d

/-- Entry to STOP. -/
def enterStop (d : Dev) : Dev := (({ d with st := .stop }).leaveRun).respondTo 0x31 sOK []

/-- Entry to RUN at beat number `b` (R32, R37, R51, R138, R343, R346). -/
def enterRun (d : Dev) (b : Nat) : Dev :=
  let d := ({ d with st := .run }).idleTasks.ringRun
  let own (n : Nat) : Option Nat :=
    ((d.ioRecs 4).find? fun r => r.owner ≠ 0xFF && r.start ≤ n && n < r.start + r.len).map (·.owner)
  let slot (l : List (Nat × Slot)) (n : Nat) : List (Nat × Slot) :=
    let s := alGet n ({} : Slot) l
    alSet ({} : Slot) n { s with new := true, poison := false, assigned := (own n).isSome, owner := (own n).getD 0 } l
  let d := { d with slots := (List.range 4096).foldl slot d.slots }
  let d := ((d.countersRestart).wdgExpect).fset F.WLT_COPY_MAX 0
  let d := d.modField fun f => { f with published := false }
  let d := d.modEsc fun e => { e with runBeat := b, runStart := some d.tb, runReq := false, stopReq := false }
  (d.loopsRun.safState).respondTo 0x30 sOK []

/-- The changes of device state at a base beat (R8, R200): SAFE takes precedence over STOP and RUN. -/
def stateAtBeat (d : Dev) (b : Nat) : Dev :=
  if d.esc.safeFault then
    if d.canHandOver && !d.wlt.bothTrap then
      let d := (d.yieldCrown 7 true).modEsc fun e => { e with safeFault := false, stopReq := false, runReq := false }
      (d.respondTo 0x30 sSTATE []).respondTo 0x31 sSTATE []
    else d.enterSafe
  else if d.wlt.safeAfter && d.wlt.partnerGranted then d.enterSafe
  else if d.esc.stopReq && d.st = .run then d.enterStop
  else if d.esc.runReq && d.st = .stop then d.enterRun b
  else d

/-! ### The beat tick (R36 steps 1 and 2, R38, R48) -/

/-- Whether beats occur: in STOP, RUN and SAFE (R27, R29). -/
def beats (d : Dev) : Bool := !d.held && !d.tbStopped && (d.st = .stop || d.st = .run || d.st = .safe)

/-- Where each task in progress stops at its own beat: at its next strand boundary, past the instance in progress
(R192). -/
def boundaries (d : Dev) : List (Nat × Nat) :=
  d.activeTasks.map fun n => (n, (d.task n).commits + b2n (d.flight.any fun x => x.2.task = n))

/-- The time of the next beat: the first multiple of P that has had none. -/
def nextBeat (d : Dev) : Nat :=
  let p := d.esc.period
  if d.tb % p = 0 && d.esc.lastBeat ≠ some d.tb then d.tb else (d.tb / p + 1) * p

/-- The reserve of the interval that ends (R48). -/
def reserveEnd (d : Dev) : Dev :=
  let rsv := min (2 ^ 32 - 1) (d.tb - d.esc.lastBeat.getD d.esc.bootEnd - d.esc.busy)
  let d := (d.rsetN A.ESC_RSV rsv).fset F.ESC_PACE_PACE (d.fget F.SVC_PACE_PACE)
  let d := if d.st = .run then d.rsetN A.ESC_RSV_MIN (min rsv (d.rnat A.ESC_RSV_MIN)) else d
  let warn := d.rnat A.ESC_RSV_WARN
  let d := if warn ≠ 0 && decide (rsv < warn) then d.raise F.ESC_EVT_RESERVE_LOW else d
  d.modEsc fun e => { e with busy := 0, mark := d.tb, lastBeat := some d.tb }

/-- The host's view swaps to the buffer completed in the interval (R38), and every BEATDIV-th swap is signalled
(R370). -/
def hostSwap (d : Dev) : Dev :=
  let d := d.modEsc fun e => { e with pub := e.pubNext }
  let div := d.fget F.HST_CTL_BEATDIV
  if div = 0 then d
  else if div ≤ d.hst.swaps + 1 then ({ d with hst := { d.hst with swaps := 0 } }).msixSignal 16
  else { d with hst := { d.hst with swaps := d.hst.swaps + 1 } }

/-- Steps 1 and 2 of a beat: the time base stands at the beat, the interval's reserve is written, the view swaps, and
what the beat latches is latched. -/
def beatTick (d : Dev) : Dev :=
  let d := (Dev.escMark { d with tb := d.nextBeat }).reserveEnd
  let b := d.beatNo
  let d := ((d.rsetN A.ESC_BNUM_LO b).rsetN A.ESC_BNUM_HI (b / 2 ^ 32)).hostSwap
  let d := ((d.wakeLatch).anchorAtBeat).crownBeat
  let d := (d.countBeat).tally 0x100
  if d.fbit F.TAL_CTL_BEAT_SNAP then d.snapshot else d

/-! ### Release rules and overrun (R32, R40, R44 to R46) -/

/-- Whether beat `b` is a release beat of a cyclic task, or the beat at which an alert task publishes or may be released
(R32, R40). -/
def dueAt (d : Dev) (n b : Nat) : Bool :=
  let t := d.task n
  decide (d.esc.runBeat < b) &&
    (if d.fbit (F.ESC_TCFG_TRIG n) then t.pubBeat = some b || (t.pendingAlert && t.pubBeat.isNone && t.nextRelBeat ≤ b)
     else b % d.fget (F.ESC_TCFG_PERIOD n) = d.fget (F.ESC_TPH_PHASE n))

/-- The overrun grid of an alert task: the next beat that looks at it. -/
def alertGrid (d : Dev) (n b : Nat) (t : Task) : Task :=
  if d.fbit (F.ESC_TCFG_TRIG n) then { t with pubBeat := some (b + d.fget (F.ESC_TCFG_PERIOD n)) } else t

/-- The release of a task at beat `b` is held back (R45). -/
def stretch (d : Dev) (n b : Nat) : Dev :=
  if (d.task n).stretched then d
  else
    let d := d.modTask n fun t => { d.alertGrid n b t with stretched := true, dueTime := d.tb }
    (d.finc (F.ESC_TOVR_STRETCHES n)).tally 0x102

/-- The limit of a stretched release: OVR_LIM percent of the period after the release beat (R44, R45). -/
def stretchLimit (d : Dev) (n : Nat) : Nat :=
  (d.task n).dueTime + d.fget F.ESC_CTL_OVR_LIM * (d.fget (F.ESC_TCFG_PERIOD n) * d.esc.period) / 100

end Dev

namespace Core

open Dev (b2n)

/-! ### Publishing (R36 step 3, R29, R30, R47) -/

/-- The output ranges of a task. -/
def outRanges (c : Core) (n : Nat) : List IoRec := c.iomap.filter fun r => r.typ = 2 && r.owner = n

/-- Whether a task owns the field output range: the first output record of the I/O map (DEDUCED, log entry 13). -/
def ownsField (c : Core) (n : Nat) : Bool :=
  match (c.dev.ioRecs 2).head? with
  | some r => r.owner = n
  | none => false

/-- The output ranges of a task with their bytes, each group checked as it is read. -/
def outBytes (c : Core) (n : Nat) : Core × List (Nat × List Byte) :=
  (c.outRanges n).foldl (fun (s : Core × List (Nat × List Byte)) r =>
    let x := s.1.checkedRead r.start r.len
    (x.1, s.2 ++ [(r.start, x.2)])) (c, [])

/-- A task's completed cycle is published: its output ranges go to the published image and, unless a step publishes, to
the field-die and LACE buffers. The first one since power-on is the first output release (R37, Table 16.6). A publish
between two beats joins the buffer that the next beat shows the host (R38, DESIGN CHOICE, log entry 64). -/
def publish (c : Core) (n : Nat) (out : Bool) : Core :=
  let x := c.outBytes n
  let c := x.1
  let lay (m : Cells) : Cells := x.2.foldl (fun (m : Cells) (r : Nat × List Byte) => m.writeN r.1 r.2) m
  let field := c.ownsField n
  c.onDev fun d =>
    let d := d.modEsc fun e => { e with pubOut := lay e.pubOut, pubNext := lay e.pubNext }
    let d :=
      if out then
        let d := { d with lac := { d.lac with out := lay d.lac.out } }
        let d := if field then d.modField fun f => { f with published := true } else d
        if d.rnat A.SVC_FIRST_T = 0 then d.rsetN A.SVC_FIRST_T ((d.tb + 1000) / 1000) else d
      else d
    d.modTask n fun t => { t with unpublished := false, publishNext := false }

/-- A byte of the output image as R29 has it in STOP: the safe value of the range that holds it, or 0. -/
def stopByte (c : Core) (a : Nat) : Byte :=
  match (c.dev.ioRecs 2).find? fun r => ioHas r a with
  | some r => (c.safeBytes r).getD (a - r.start) 0
  | none => 0

/-- The whole output image takes its stop values, group by group where some byte may differ (R29, R27). -/
def stopValues (c : Core) : Core :=
  let add (l : List Nat) (g : Nat) : List Nat := if 0x400 ≤ g && g < 0x800 && !l.contains g then l ++ [g] else l
  let recs := (c.dev.ioRecs 2).flatMap fun r => (List.range (r.len / 32 + 2)).map (r.start / 32 + ·)
  let gs := ((c.mem.cells.map fun (x : Nat × Byte) => x.1 / 32) ++ recs ++ c.mem.errs.map (·.1) ++ c.mem.poison.map (·.2.1)
    ++ [c.dev.fget F.WKM_INJ_ADDR_GROUP]).foldl add []
  let c := gs.foldl (fun (c : Core) g => c.put (32 * g) ((List.range 32).map fun i => c.stopByte (32 * g + i))) c
  let image := (c.dev.ioRecs 2).foldl (fun (m : Cells) r => m.writeN r.start (c.safeBytes r)) []
  c.onDev fun d =>
    let d := d.modEsc fun e => { e with outSafe := false, pubOut := image }
    let d := { d with lac := { d.lac with out := image } }
    d.modField fun f => { f with published := false }

/-- The output ranges of a halted task take their safe values (R47). -/
def haltValues (c : Core) (n : Nat) : Core :=
  let rs := c.outRanges n
  let c := rs.foldl (fun (c : Core) r => c.put r.start (c.safeBytes r)) c
  let lay (m : Cells) : Cells := rs.foldl (fun (m : Cells) (r : IoRec) => m.writeN r.start (c.safeBytes r)) m
  let field := c.ownsField n
  c.onDev fun d =>
    let d := d.modEsc fun e => { e with pubOut := lay e.pubOut }
    let d := { d with lac := { d.lac with out := lay d.lac.out } }
    let d := if field then d.modField fun f => { f with published := false } else d
    d.modTask n fun t => { t with safeDue := false }

/-- What the output image takes at a beat before anything is published. -/
def outputsAtBeat (c : Core) : Core :=
  let c := if c.dev.esc.outSafe then c.stopValues else c
  (List.range 16).foldl (fun c n => if (c.dev.task n).safeDue then c.haltValues n else c) c

/-! ### Release (R34, R36 steps 7 and 8, R79) -/

/-- A task's input view is copied from an input image (R34): its own, or on a standby the holder's (R191). -/
def copyView (c : Core) (n : Nat) (src : Option Cells) : Core :=
  let base := c.dev.rnat (A.ESC_TVIEW n)
  let step (x : Core × Nat) (r : IoRec) : Core × Nat :=
    let y := match src with
      | some m => (x.1, m.readN r.start r.len)
      | none => x.1.checkedRead r.start r.len
    (y.1.put (base + x.2) y.2, x.2 + (r.len + 31) / 32 * 32)
  ((c.iomap.filter fun r => r.typ = 1 && r.owner = n).foldl step (c, 0)).1

/-- The entry address of a task. -/
def entryOf (c : Core) (n : Nat) : Word :=
  match c.dev.esc.image with
  | some im => BitVec.ofNat 32 (halfBase im.half + (im.tasks.getD n {}).entry)
  | none => 0

/-- The state with which a task begins a cycle (R35, R50, R79). -/
def freshTask (c : Core) (n relTime : Nat) : Task :=
  let d := c.dev
  let t := d.task n
  let alert := d.fbit (F.ESC_TCFG_TRIG n)
  let b := relTime / d.esc.period
  { pc := c.entryOf n, active := true, relTime := relTime, relBeat := b, released := true,
    pendingAlert := t.pendingAlert && !alert, stepped := d.esc.stepping,
    nextRelBeat := b + d.fget (F.ESC_TCFG_PERIOD n),
    pubBeat := if alert then some (b + d.fget (F.ESC_TCFG_PERIOD n)) else none,
    scanNext := false, fullScan := t.scanNext || d.rnat (A.ESC_TCYC n) % d.fget F.ESC_CTL_DORMANT_FULL = 0,
    anchor := d.gt.anchor, faultBase := d.checkN }

/-- A task is released with a release-beat time, its view built from an input image; the standby's limits for the cycle
before are over. The first release after entry to RUN starts WATCH (R346). -/
def release (c : Core) (n relTime : Nat) (src : Option Cells) : Core :=
  let c := c.copyView n src
  let t := c.freshTask n relTime
  c.onDev fun d =>
    let d := (d.escMark.setTask n t).tally 0x101
    let d := d.modWlt fun w => { w with
      limits := w.limits.filter fun x => x.1 ≠ n, ended := w.ended.filter fun x => x ≠ n,
      displaced := w.displaced.filter fun x => x.1 ≠ n }
    if d.st = .run && d.esc.runStart.isSome then
      (d.modEsc fun e => { e with runStart := none }).wdgStart relTime
    else d

/-- Lower tasks in flight make way for the task now served (R39). -/
def giveWay (c : Core) : Core :=
  match c.dev.flight.head?, c.dev.served with
  | some (_, r), some n => if r.task = n then c else c.preempt r.task
  | _, _ => c

/-- After releases the task served before makes way for a higher one: it is displaced, with the strand-commit count it
stops at, its instance in progress included (R39, R192). -/
def displace (c : Core) (before : Option Nat) : Core × List (Nat × Nat) :=
  match before with
  | some m =>
    if c.dev.served = some m then (c, [])
    else
      let inFlight := c.dev.flight.any fun x => x.2.task = m
      (c.giveWay, [(m, (c.dev.task m).commits + b2n inFlight)])
  | none => (c, [])

/-! ### The tasks at a beat (R36, R44 to R46) -/

/-- A task that has not completed its cycle at its release beat: STRETCH holds the release back; SKIP leaves it out, and
the second release beat after the one that overran is the limit (R45, R46). -/
def overrun (c : Core) (n b : Nat) : Core :=
  let d := c.dev
  if !d.fbit F.ESC_CTL_OVR_MODE then
    if (d.task n).stretched then c
    else c.onDev fun d => (d.stretch n b).raiseRec F.ESC_EVT_STRETCH
  else if 2 ≤ (d.task n).lateBeats then c.taskFault n 2 (d.faultPc n)
  else c.onDev fun d =>
    let d := d.modTask n fun t => { d.alertGrid n b t with late := true, lateBeats := t.lateBeats + 1 }
    ((d.finc (F.ESC_TOVR_SKIPS n)).raiseRec F.ESC_EVT_SKIP).tally 0x103

/-- A release that waits for WELT's acknowledgement (R44). -/
def ackStretch (c : Core) (n b : Nat) : Core :=
  c.onDev fun d =>
    let d := (d.stretch n b).raise F.ESC_EVT_STRETCH
    (d.raise F.WLT_EVT_STRETCH).tally 0x402

/-- One task at beat `b` in RUN: what it publishes, and whether it is released at this beat. -/
def taskAtBeat (b : Nat) (x : Core × List Nat) (n : Nat) : Core × List Nat :=
  let c := x.1
  let c :=
    if (c.dev.task n).publishNext then
      (c.publish n true).onDev fun d => d.modTask n fun t => { t with pubBeat := none }
    else c
  let t := c.dev.task n
  if !c.dev.dueAt n b then (c, x.2)
  else if t.active then (c.overrun n b, x.2)
  else if t.stretched then (c, x.2)
  else if t.waitAck then (c.ackStretch n b, x.2)
  else
    let c := if t.unpublished then c.publish n true else c
    if c.dev.fbit (F.ESC_TCFG_TRIG n) && !t.pendingAlert then
      (c.onDev fun d => d.modTask n fun t => { t with pubBeat := none }, x.2)
    else (c, x.2 ++ [n])

/-- The overrun check and the publish of a beat, by priority; the tasks to be released. -/
def tasksAtBeat (c : Core) (b : Nat) : Core × List Nat := c.dev.liveTasks.foldl (taskAtBeat b) (c, [])

/-! ### STEP (R30) -/

/-- The tasks that a stepped beat releases: those whose cyclic release rule selects it (R30, R32). -/
def stepSet (c : Core) (b : Nat) : List Nat :=
  c.dev.liveTasks.filter fun n =>
    !c.dev.fbit (F.ESC_TCFG_TRIG n) && b % c.dev.fget (F.ESC_TCFG_PERIOD n) = c.dev.fget (F.ESC_TPH_PHASE n)

/-- The completed cycles of a step are published to the output image and the published image, and STEP is answered. -/
def stepEnd (c : Core) : Core :=
  let c := (List.range 16).foldl (fun c n => if (c.dev.task n).unpublished then c.publish n false else c) c
  c.onDev fun d => (d.modEsc fun e => { e with stepping := false }).respondTo 0x32 sOK []

/-- STEP at a beat in STOP: the tasks to be released. -/
def stepAtBeat (c : Core) (b : Nat) : Core × List Nat :=
  if c.dev.esc.stepReq then
    let ns := c.stepSet b
    let c := c.onDev fun d => d.modEsc fun e => { e with stepReq := false, stepping := !ns.isEmpty }
    (if ns.isEmpty then c.onDev fun d => d.respondTo 0x32 sOK [] else c, ns)
  else if c.dev.esc.stepping && c.dev.noneInProgress then (c.stepEnd, [])
  else (c, [])

/-! ### Between beats (R44, R45) -/

/-- STRETCHED_RELEASE: a stretched task has completed its cycle, and on a pair its copy is acknowledged: it publishes at
once and is released with the most recent beat's time. -/
def stretchedRelease (c : Core) (n : Nat) : Core :=
  let t := c.dev.task n
  if c.dev.st ≠ .run || !t.stretched || t.active || t.waitAck || t.halted || c.dev.follows then c
  else
    let late := t.unpublished
    let c := if late then c.publish n true else c
    let c := if late && c.ownsField n then c.onDev Dev.fieldEvent else c
    let c := c.onDev fun d => d.modTask n fun t => { t with stretched := false }
    if c.dev.fbit (F.ESC_TCFG_TRIG n) && !t.pendingAlert then
      c.onDev fun d => d.modTask n fun t => { t with pubBeat := none }
    else
      let t0 := c.dev.esc.lastBeat.getD 0
      let had := c.dev.task n
      let x := (c.release n t0 none).displace c.dev.served
      x.1.onDev fun d =>
        let alerts := if had.pendingAlert && d.fbit (F.ESC_TCFG_TRIG n) then [d.fget (F.ESC_TCFG_ALERT n)] else []
        let s : WSched :=
          { beat := t0 / d.esc.period, releases := [(n, t0)], stretched := [n], alerts := alerts, displaced := x.2 }
        if d.followed then d.wsend (.sched s) else d

/-- OVERRUN_LIMIT: a stretched cycle has not completed OVR_LIM percent of the period after its release beat (R45). -/
def overrunLimit (c : Core) (n : Nat) : Core :=
  let t := c.dev.task n
  if c.dev.st = .run && t.stretched && t.active && c.dev.stretchLimit n ≤ c.dev.tb then c.taskFault n 1 (c.dev.faultPc n)
  else c

/-- ACK_WAIT_LIMIT: the copy is still unacknowledged at the limit: the holder treats the standby as UNSYNC and makes the
stretched release at once (R44). -/
def ackWaitLimit (c : Core) (n : Nat) : Core :=
  let t := c.dev.task n
  if c.dev.st = .run && t.stretched && !t.active && t.waitAck && c.dev.stretchLimit n ≤ c.dev.tb then
    ((c.onDev fun d =>
      let d := d.partnerUnsync 9
      if d.fget F.ESC_FLT_CAUSE = 0 then (d.fset F.ESC_FLT_CAUSE 3).fset F.ESC_FLT_TASK n
          else d).settleCycles).stretchedRelease n
  else c

end Core

end Sys2Proof.Machine
end

