-- ==== Sys2Proof/Machine/WeltSend.lean ====
section
/-! DEFINITION. What a pair member sends at a base beat (R186, R189, R191, R192, R208, R209, R211): STATUS, INPUT,
SCHED, SEAM and the blocks of a resync. -/

namespace Sys2Proof.Machine

namespace Core

open Dev (b2n)

/-- STATUS (R186, DESIGN CHOICE, log entry 40). -/
def statusBlock (c : Core) : WStatus :=
  let d := c.dev
  { state := d.wltState, hash := match d.esc.image with | some im => im.hash | none => [],
    tableId := d.mov.bank.tableId, period := d.esc.period, tb := d.tbNs, rmul := d.rmul,
    layoutId := d.fget F.LAC_LAYOUT_LAYOUT_ID, dev := d.st, beat := d.beatNo, time := d.tb,
    lepoch := d.rnat A.WLT_EPOCH, lc := d.leaseLc, culpritless := d.fget F.WLT_CNT0_CULPRITLESS,
    peer := d.fget F.WLT_STAT_PEER, role := d.role, branch := d.cfgByte 3, pref := d.cfgBit 4 7,
    armed := if d.fget F.SVC_RSL_STATE = 2 then c.stagedImage.map (·.hash) else none,
    seamNs := if d.fget F.SVC_RSL_STATE = 2 then c.seamTime else 0, rsv := d.rnat A.ESC_RSV }

/-- The input image as cells. -/
def inputCells (c : Core) : Cells := c.mem.cells.filter fun (x : Nat × Byte) => x.1 < 0x8000

/-- The groups of the input image that store wrong symbols or are poisoned. -/
def inputDoubts (c : Core) : List Nat :=
  (c.mem.errs.map (·.1) ++ c.mem.poison.map (·.2.1)).filter (· < 0x400)

/-- The input image as it is read for the published image, every group checked: the bytes of one that cannot be used are
free (R243, DESIGN CHOICE, log entry 64). -/
def inputImage (c : Core) : Core × Cells :=
  let x := c.inputDoubts.foldl (fun (s : Core × List (Nat × List Byte)) g =>
    let y := s.1.checkedRead (32 * g) 32
    (y.1, s.2 ++ [(32 * g, y.2)])) (c, [])
  (x.1, x.2.foldl (fun (m : Cells) p => m.writeN p.1 p.2) x.1.inputCells)

/-- INPUT: the input-image groups that differ from the previous beat's, up to eight a block (R191); a poisoned one is
never copied (R247). -/
def sendInput (c : Core) : Core :=
  let now := c.inputCells
  let old := c.dev.wlt.lastIn
  let grp (m : Cells) (g : Nat) : BitVec 256 := BitVec.ofNat 256 (m.le (32 * g) 32)
  let gs := ((List.range 1024).filter fun g => grp now g ≠ grp old g && (c.mem.poisonOf g).isNone).map fun g => (g,
      grp now g)
  c.onDev fun d =>
    let d := (chunks8 128 gs).foldl (fun d b => d.wsend (.input b)) d
    d.modWlt fun w => { w with lastIn := now }

/-! ### Resync (R208, R209) -/

/-- The items of a full pass by position: WORKMEM groups from the first after the input image, timer-slot, loop and CAN
groups, records in force, and the 64 control groups. -/
def rsTotal (c : Core) : Nat := 64512 + 2048 + 128 + 768 + c.dev.keep.idx.length + 64

/-- The item at a position; none for a task view, nor for a poisoned group, which is never copied (R247). -/
def rsItem (c : Core) (p : Nat) : Option WItem :=
  if p < 64512 then (if c.copyFree (p + 0x400) || (c.mem.poisonOf (p + 0x400)).isSome then none
      else some (.grp 0 (p + 0x400) (c.grpData 0 (p + 0x400))))
  else if p < 66560 then some (.grp 1 (p - 64512) (c.grpData 1 (p - 64512)))
  else if p < 66688 then some (.grp 2 (p - 66560) (c.grpData 2 (p - 66560)))
  else if p < 67456 then some (.grp 3 (p - 66688) (c.grpData 3 (p - 66688)))
  else
    match c.dev.keep.idx[p - 67456]? with
    | some r => some (c.recItem r)
    | none => c.ctlItems[p - 67456 - c.dev.keep.idx.length]?

/-- The positions from `p` on whose items fit in `room` group entries, and their items; `fuel` bounds the positions. -/
def rsTake (c : Core) : Nat → Nat → Nat → List (Nat × WItem) → List (Nat × WItem) × Nat
  | 0, p, _, acc => (acc, p)
  | fuel + 1, p, room, acc =>
    if c.rsTotal ≤ p then (acc, p)
    else
      match c.rsItem p with
      | none => rsTake c fuel (p + 1) room acc
      | some x =>
        if WItem.entries x ≤ room then rsTake c fuel (p + 1) (room - WItem.entries x) (acc ++ [(p, x)]) else (acc, p)

/-- The positions sent whose items have changed since. -/
def rsChanged (c : Core) : List (Nat × WItem) :=
  c.dev.wlt.rsSent.filterMap fun s =>
    match c.rsItem s.1 with
    | some x => if x = s.2 then none else some (s.1, x)
    | none => none

/-- The first of a list of items that fit in `room` group entries. -/
def rsFit : List (Nat × WItem) → Nat → List (Nat × WItem)
  | [], _ => []
  | x :: xs, room => if WItem.entries x.2 ≤ room then x :: rsFit xs (room - WItem.entries x.2) else []

/-- Resync blocks leave, the last one naming the join beat where there is one. -/
def sendResync (c : Core) (xs : List (Nat × WItem)) (join : Option Nat) : Core :=
  let bs := packItems (xs.map (·.2)) []
  c.onDev fun d =>
    let d := (bs.dropLast).foldl (fun d b => d.wsend (.resync b none)) d
    let d := if bs.isEmpty && join.isNone then d else d.wsend (.resync (bs.getLastD []) join)
    d.modWlt fun w => { w with
      rsSent := xs.foldl (fun (l : List (Nat × WItem)) (x : Nat × WItem) => alPut x.1 x.2 l) w.rsSent }

/-- Group entries still to send in the current pass (WLT_RESYNC.LEFT). -/
def rsLeft (c : Core) (p : Nat) : Nat :=
  (((List.range (c.rsTotal - p)).filterMap fun i => c.rsItem (p + i)).map WItem.entries).sum

/-- The resync chunk of a base beat at beat number `b`. -/
def resyncBeat (c : Core) (b : Nat) : Core :=
  match c.dev.wlt.rsPos with
  | none => c
  | some p =>
    let room := clampN 64 4095 (c.dev.fget F.WLT_CTL_RESYNC_CHUNK)
    if p < c.rsTotal then
      let x := c.rsTake (c.rsTotal + 1) p room []
      let c := (c.sendResync x.1 none).onDev fun d => d.modWlt fun w => { w with rsPos := some x.2 }
      let left := c.rsLeft x.2
      c.onDev fun d => d.fset F.WLT_RESYNC_LEFT left
    else
      let ch := c.rsChanged
      let n := (ch.map fun x => WItem.entries x.2).sum
      if n ≤ room then
        let c := (c.sendResync ch (some (b + 1))).copySnap
        c.onDev fun d => (d.fset F.WLT_RESYNC_LEFT 0).modWlt fun w => { w with
          rsPos := none, rsSent := [], joinBeat := some (b + 1), lastIn := [] }
      else (c.sendResync (rsFit ch room) none).onDev fun d => d.fset F.WLT_RESYNC_LEFT (n - room)

/-- The holder begins a resync of its partner (R208). -/
def resyncStart (c : Core) : Core :=
  let c := c.onDev fun d => (d.finc F.WLT_CNT1_RESYNCS).modWlt fun w => { w with rsPos := some 0, rsSent := [] }
  let left := c.rsLeft 0
  c.onDev fun d => d.fset F.WLT_RESYNC_LEFT left

/-! ### The pair's seam (R211) -/

/-- Whether the partner is armed with the same image and has finished its pre-carry. -/
def peerArmed (c : Core) : Bool :=
  match c.dev.wlt.peer, c.stagedImage with
  | some s, some im => s.armed = some im.hash
  | _, _ => false

/-- The holder names the seam beat, at least 16 base beats ahead and not before the instant RESOLE named. -/
def sendSeam (c : Core) (b : Nat) : Core :=
  if c.dev.synced && c.dev.fget F.SVC_RSL_STATE = 2 && c.dev.wlt.seamAt.isNone && c.peerArmed
      && (c.dev.st = .stop || c.dev.svc.rslMode ≠ 2 || c.rslNamed b) then
    match c.stagedImage with
    | some im =>
      let s := if c.dev.st = .run && c.dev.svc.rslMode = 1 then max (b + 16) c.dev.svc.rslA else b + 16
      c.onDev fun d => (d.wsend (.seam im.hash s)).modWlt fun w => { w with seamAt := some s }
    | none => c
  else c

/-- Whether the pair takes the seam at beat `b`: from the named beat on, at the larger seam time and the smaller reserve
of the two (R231). -/
def pairSeam (c : Core) (b : Nat) : Core × Bool :=
  match c.dev.wlt.seamAt, c.dev.wlt.peer with
  | some s, some peer =>
    if b < s || c.dev.fget F.SVC_RSL_STATE ≠ 2 || !c.peerArmed then (c, false)
    else if c.dev.st = .stop then
      if c.dev.fbit F.SVC_STAT_WARN then (c.onDev fun d => d.finc F.SVC_RSL_DEFERS, false) else (c, true)
    else if c.dev.st ≠ .run then (c, false)
    else
      let own := c.seamTime
      let d := c.dev
      let free := d.noneInProgress && (List.range 16).all fun n => !(d.task n).stretched
      let ok := free && max own peer.seamNs + d.fget F.SVC_RSL_CFG_MARGIN ≤ min (d.rnat A.ESC_RSV) peer.rsv
        && !d.fbit F.SVC_STAT_WARN
      let c := c.onDev fun d => d.modSvc fun s => { s with rslT := own }
      if ok then (c, true) else (c.onDev fun d => d.finc F.SVC_RSL_DEFERS, false)
  | _, _ => (c, false)

/-- Whether a seam is taken at beat `b` by this member's own decision. -/
def seamNow (c : Core) (b : Nat) : Core × Bool :=
  if c.dev.synced then c.pairSeam b
  else if c.dev.paired && c.dev.wltState < 3 then (c, false)
  else c.seamCheck b

/-- The seam at beat `b`, its publish done and the inputs frozen: in RUN the new program's tasks may be released at this
beat, in STOP the stop values are those of the new image (R233, R237). -/
def takeSeam (c : Core) (b : Nat) : Core :=
  (c.seam b).onDev fun d =>
    let d := d.modEsc fun e => if d.st = .run then { e with runBeat := b - 1 } else { e with outSafe := true }
    if d.paired && (d.synced || d.follows) then
      (d.raise F.WLT_EVT_SEAM).modWlt fun w => { w with seamAt := none }
    else d

/-- Every completed cycle not yet published is published (Table 9.5, step 2). -/
def seamPublish (c : Core) : Core :=
  c.dev.liveTasks.foldl (fun c n => if (c.dev.task n).unpublished then c.publish n (c.dev.st = .run) else c) c

end Core

end Sys2Proof.Machine
end

