-- ==== Sys2Proof/Machine/Beat.lean ====
section
/-! DEFINITION. The beat (R29, R36): the steps of Table 2.1 in their order. -/

namespace Sys2Proof.Machine

namespace Core

open Dev (b2n)

/-- The host input image is frozen (R36 step 4, R369): the host range is the second input record of the I/O map
(DEDUCED, log entry 13). -/
def hostFreeze (c : Core) : Core :=
  if c.dev.fbit F.HST_CTL_HOLD then
    c.onDev fun d => ((d.fput F.HST_STAT_HELD true).fincWrap F.HST_HELD_BEATS).tally 0xE03
  else
    let c := c.onDev fun d => d.fput F.HST_STAT_HELD false
    match (c.dev.ioRecs 1)[1]? with
    | some r => c.put r.start (c.dev.hst.inBuf.readN 0 r.len)
    | none => c

/-- Every input range is frozen into the input image, and the published image of the interval that begins is composed of
it and of the published output ranges (R36 steps 4 and 5, R38). -/
def freeze (c : Core) : Core :=
  let c := ((c.lacFreeze).hostFreeze).fieldFreeze
  let x := c.inputImage
  x.1.onDev fun d =>
    (d.modSvc fun s => { s with frozen := true }).modEsc fun e => { e with pubNext := e.pubOut.overlay x.2 }

/-- A migration begins at the first beat after its switch has become persistent (R239). -/
def migrationStart (c : Core) : Core :=
  if c.dev.keep.migrStart then
    let c := c.modKeep fun k => { k with migrStart := false }
    if c.migDue then c.onDev fun d => d.fput F.SVC_MIGR_BUSY true else c
  else c

/-- A resole that has waited out TMO on a synchronised pair is deferred at a beat that SCHED marks (R211). -/
def pairDefer (c : Core) : Core × Bool :=
  let d := c.dev
  if d.synced && d.rslArmed && d.svc.rslAt + d.rslTmo * 1000000 ≤ d.tb then
    (c.onDev fun d => d.rslDefer.modWlt fun w => { w with seamAt := none }, true)
  else (c, false)

/-- What a beat does for the tasks before the freeze: those to be released at it. A member that follows the crown
holder, and one that executes no program, decides nothing here (R192, Table 8.1). -/
def tasksBefore (c : Core) (b : Nat) (seam : Bool) : Core × List Nat :=
  if seam then (c.seamPublish, [])
  else if c.dev.paired && c.dev.wltState < 3 then (c, [])
  else if c.dev.st = .run then c.tasksAtBeat b
  else if c.dev.st = .stop then c.stepAtBeat b
  else (c, [])

/-- The releases of a beat, highest priority first, and the tasks they displace, each with the strand-commit count it
stops at (R36 steps 7 and 8, R39, R192). -/
def releases (c : Core) (ns : List Nat) : Core × List (Nat × Nat) :=
  let t0 := c.dev.tb
  let before := c.dev.served
  let c := (c.dev.byPrio ns).foldl (fun c n => c.release n t0 none) c
  c.displace before

/-- The blocks a pair member sends at a beat, in the order of Table 8.2. -/
def weltBeat (c : Core) (b : Nat) (s : WSched) : Core :=
  if !c.dev.paired then c
  else
    let c := c.onDev fun d => d.wsend (.status c.statusBlock)
    if !c.dev.isHolder then c
    else
      let c := if c.dev.followed then (c.sendInput).onDev fun d => d.wsend (.sched s) else c
      (c.sendSeam b).resyncBeat b

/-- The alerts that releases consume. -/
def alertsOf (c : Core) (ns : List Nat) : List Nat :=
  (ns.filter fun n => c.dev.fbit (F.ESC_TCFG_TRIG n)).map fun n => c.dev.fget (F.ESC_TCFG_ALERT n)

/-- Steps 3 to 9 of Table 2.1, at the time of the beat. -/
def beatSteps (c : Core) : Core :=
  let b := c.dev.beatNo
  let st0 := c.dev.st
  let stepReq := c.dev.esc.stepReq
  let c := (c.changeState fun d => d.stateAtBeat b).outputsAtBeat
  let df := c.pairDefer
  let sm := df.1.seamNow b
  let x := sm.1.tasksBefore b sm.2
  let c := if x.1.dev.st = .run then x.1.loopPublish else x.1
  let c := ((c.keepAtBeat b).migrationStart).freeze
  let c := if sm.2 then c.takeSeam b else c
  let rel := if sm.2 && c.dev.st = .run then c.dev.liveTasks.filter fun n => c.dev.dueAt n b else x.2
  let alerts := c.alertsOf rel
  let r := c.releases rel
  let t0 := r.1.dev.tb
  let c := r.1.onDev fun d =>
    let d := d.beatFrame t0 d.field.resOut
    (d.modField fun f => { f with resOut := 0 }).modWlt fun w => { w with
      await := d.follows, boundary := if d.follows then d.boundaries else [], ownBeat := t0 }
  let st1 := c.dev.st
  c.weltBeat b
    { beat := b, releases := rel.map fun n => (n, t0), stretched := [], alerts := alerts, displaced := r.2,
      seam := sm.2, deferred := df.2, run := st0 ≠ .run && st1 = .run, stop := st0 = .run && st1 = .stop,
      step := stepReq && !c.dev.esc.stepReq }

/-- BEAT: the steps of Table 2.1 at the next time-base value that is a multiple of P. -/
def beat (c : Core) : Core := if !c.dev.beats then c else ((c.onDev Dev.beatTick).settleCycles).beatSteps

/-- HOLD_EXPIRED: the missed-beat count of a member has reached HOLD (R172). -/
def holdExpired (c : Core) : Core := if c.holdDue then c.holdExpire else c

end Core

end Sys2Proof.Machine
end

