-- ==== Sys2Proof/Machine/Boot.lean ====
section
/-! DEFINITION. Power and start-up (R379 to R382, R395, R396, R5 to R7, R376): what a reset keeps, BOOT and its end, the
power-fail warning, the SAFE flag and the pace of the interior (R14). -/

namespace Sys2Proof.Machine

namespace Dev

/-! ### What a reset keeps -/

/-- The fields that only a power-on clears: sticky causes and what counts since power-on (Table 0.7, R26). -/
def sticky : List Fld :=
  ((List.range 16).map fun p => (⟨p * 0x10000 + 0x18, 31, 0⟩ : Fld))
    ++ ((List.range 9).map F.SVC_HLTH_T_TRANSIENT) ++ ((List.range 9).map F.SVC_HLTH_L_LASTING)
    ++ ((List.range 64).map F.REC_LOST_LOST)
    ++ [F.SVC_HLTH_MAP_POISONED, F.SVC_PACE_PACE_MAX, F.SVC_PWR_WARNINGS, F.ESC_KEEPS_KEEPS, F.REG_GT_SAMPLES_COUNT,
        F.WLT_CNT0_MISMATCH, F.SVC_SEAM_T_MAX, F.SVC_MIGR_DONE, F.WKM_SCRUB_PASSES, F.WDG_RATIO_FAULTS]

/-- A half whose image was in transfer is INVALID: the session ended before IMAGE_END (R221). -/
def dropTransfer (x : HalfRec) : HalfRec := if x.state = 1 then { x with state := 5 } else x

/-- The core without its volatile state: MRAM, the battery island, the recorder's persistent registers (R356) and the
field die's supply remain. -/
def lose (d : Dev) : Dev :=
  let x : Dev := { nv := { d.nv with halves := d.nv.halves.map dropTransfer }, isl := d.isl, tb := d.tb, free := d.free, sent := d.sent, field := { power := d.field.power } }
  ((x.rset A.REC_HEAD (d.rget A.REC_HEAD)).rset A.REC_LOST_ORD (d.rget A.REC_LOST_ORD))

/-- The latched calendar registers keep their values until the next CAL_LATCH (R152). -/
def calLatched : List Nat :=
  [A.REG_CAL_LSEC_LO, A.REG_CAL_LSEC_HI, A.REG_CAL_LSUB, A.REG_CAL_LTIME, A.REG_CAL_LDATE, A.REG_CAL_LINFO]

/-- The core held in reset by RESET_N (R379): besides, what only a power-on clears remains. -/
def hold (d : Dev) : Dev :=
  let x := sticky.foldl (fun (x : Dev) f => if d.fget f = 0 then x else x.fset f (d.fget f)) d.lose
  let x := calLatched.foldl (fun (x : Dev) a => x.rset a (d.rget a)) x
  { x with
    st := .boot, held := true, locks := d.locks, beatCnt := d.beatCnt, checkN := d.checkN,
    can := Vector.ofFn fun i => ({ faulted := (d.can.get i).faulted } : CanSt) }

/-! ### The settings in force (R376) -/

/-- The defaults of Table 16.5. -/
def defaults : Settings :=
  BitVec.ofNat 4096 (0x10 * 2 ^ 32 + 100000 * 2 ^ 192 + 50000 * 2 ^ 224 + 10000 * 2 ^ 256 + 20 * 2 ^ 288 + 20 * 2 ^ 296
    + 0x6DB6DB * 2 ^ 432 + 0x6DB6DB * 2 ^ 456)

/-- The generation in force: the highest-numbered valid one that could be read. -/
def genInForce (o : Otp) (lost : List Nat) : Option Nat :=
  (List.range 8).foldl (fun r g =>
    if settingsOk (Core.genBytes (vget o.gens g 0)) && !lost.contains g then some g else r) none

/-- Whether the newest generation burned is torn: its CRC was never burned (R377). -/
def tornGen (o : Otp) (lost : List Nat) : Bool :=
  let n := Core.gensUsed o
  n ≠ 0 && !lost.contains (n - 1) && hLe (Core.genBytes (vget o.gens (n - 1) 0)) 508 4 = 0

/-- The factory values as BOOT reads them; what is lastingly unreadable is a free value. -/
def readFactory (o : Otp) (lost : Bool) (n : Nat) : Factory :=
  if lost then
    let w (k : Nat) : Word := Config.openWord (n + k)
    { trim := (w 0).extractLsb' 0 16, vendorId := (w 0).extractLsb' 16 16, deviceId := w 1 ++ w 2 ++ w 3 ++ w 4,
      aoTrim := Vector.ofFn fun i => w (5 + i), aiTrim := Vector.ofFn fun i => w (9 + i) }
  else o.factory

/-- The registers that take the settings and the factory values. A factory trim beyond ±20,000 is clamped as a written
one is, with no event (R128, DESIGN CHOICE, log entry 66). -/
def takeSettings (d : Dev) : Dev :=
  let d := d.fset F.REG_TRIM_TRIM (unsigned 16 (clampI (-20000) 20000 (signed 16 d.factory.trim.toNat)))
  let d := d.fset F.HST_IDS_VENDOR d.factory.vendorId.toNat
  let d := (List.range 4).foldl (fun (d : Dev) k => d.rset (A.SVC_DEVID k) (d.factory.deviceId.extractLsb' (32 * k) 32)) d
  let iv := clampN 1000 10000000 (d.cfgLe 32 4)
  let d := (d.fset F.KEP_INTERVAL_INTERVAL iv).fset F.KEP_INTERVAL_ACT_ACT iv
  let d := d.fset F.KEP_WEAR_TARGET_YEARS (clampN 1 50 (d.cfgByte 36))
  let d := (d.fset (F.FLD_DIFLT_FLT 0) (d.cfgLe 54 3)).fset (F.FLD_DIFLT_FLT 1) (d.cfgLe 57 3)
  let d := (List.range 8).foldl (fun (d : Dev) n => d.fput (F.FLD_DOCFG_LATCH n) (d.cfgBit 39 n)) d
  let d := (List.range 4).foldl (fun (d : Dev) n => d.fput (F.FLD_AOCFG_ALM_HI n) (d.cfgBit 52 n)) d
  let d := d.fset F.FLD_SILENCE_MS (d.cfgByte 37)
  let d := (d.fput F.WDG_CTL_SRC_RC (d.cfgBit 4 2)).fput F.WDG_CTL_CHKIN_EN (d.cfgBit 4 3)
  let d := (d.fset F.WDG_PERIOD_PERIOD (d.cfgLe 24 4)).fset F.WDG_OPEN_OPEN (d.cfgLe 28 4)
  let d := { d with wdg := { d.wdg with period := d.fget F.WDG_PERIOD_PERIOD, opn := d.fget F.WDG_OPEN_OPEN } }
  let d := d.fput F.WLT_STAT_PAIRED d.paired
  if d.role = 0 then d
  else (d.fput F.LAC_ADDR_VALID true).fset F.LAC_ADDR_ADDR (if d.role = 2 then 0 else 128 * d.cfgByte 3)

/-- OTP and the system records read in BOOT (step 3 of Table 16.6, R249, R382). -/
def readOtp (d : Dev) (o : Otp) (x : BootIn) : Dev :=
  let d := if x.sysLost then { d.lasting 4 6 with nv := d.nv.sysBack } else d
  let g := genInForce o x.gensLost
  let s : Settings := match g with | some i => vget o.gens i 0 | none => defaults
  let f := readFactory o x.coreLost d.free
  let d := { d with factory := f, settings := s, keyHash := o.keyHash, keyRevoked := o.keyRevoked, free := if x.coreLost then d.free + 13 else d.free }
  let keys := (List.range 4).foldl (fun n k =>
    n + (if vget o.keyHash k 0 ≠ 0#256 then 2 ^ k else 0)) (o.keyRevoked.toNat * 16)
  let d := (d.fset F.SVC_OTP_USED (Core.gensUsed o)).fset F.SVC_OTP_GEN (g.getD 0xF)
  let d := (d.fset F.SVC_OTP_FMT (if g.isSome then d.cfgByte 0 else 0)).rsetN A.SVC_KEYS keys
  let d := (d.fput F.SVC_STAT_DEFAULTS g.isNone).fput F.SVC_STAT_TEST_EN x.testEn
  let d := (List.range x.otpRetries).foldl (fun (d : Dev) _ => (d.transient 7).raiseRec F.SVC_EVT_OTP_RETRY) d
  let d := x.gensLost.foldl (fun (d : Dev) _ => d.lasting 7 15) d
  let d := if x.coreLost then ((d.lasting 7 15).fsticky F.SVC_FLT_CAUSE 1).modSvc fun s => { s with coreLost := true } else d
  let d := if tornGen o x.gensLost then (d.fsticky F.SVC_FLT_CAUSE 5).occurBlk 5 0x0002 15 else d
  d.takeSettings

/-- The rows mapped in earlier power-on periods (R246, R26). -/
def showSpares (d : Dev) : Dev :=
  let wm := d.nv.spareRows.filter fun (r : Nat × Nat) => r.1 = 0
  let d := (List.range 16).foldl (fun (d : Dev) b =>
    d.fset (F.WKM_SPARE_USED b) (wm.filter fun (r : Nat × Nat) => r.2 / 64 = b).length) d
  let d := (d.fset F.WKM_STAT_SPARES wm.length).fset F.SVC_HLTH_MAP_SPARES_USED wm.length
  let count (k : Nat) : Nat := (d.nv.spareRows.filter fun (r : Nat × Nat) => r.1 = k).length
  (d.fset F.KEP_SPARES_USED (count 2)).fset F.REG_STAT_SLOT_SPARES (count 1)

/-! ### The pace (R14) -/

/-- A window of 1,024 ticks ends with a pace. -/
def paceWindow (d : Dev) (pace : Nat) : Dev :=
  if d.st = .off || d.held then d
  else
    let d := (d.fset F.SVC_PACE_PACE pace).fset F.SVC_PACE_PACE_MAX (max (d.fget F.SVC_PACE_PACE_MAX) (min 0x7FFF pace))
    if d.fget F.SVC_PACE_LIM_PACE_LIM < pace then (d.fput F.SVC_PACE_SLOW true).raiseRec F.SVC_EVT_PACE else d

/-! ### The SAFE flag (R7) -/

/-- A copy of the system records with the flag set is written. -/
def safeFlagWritten (d : Dev) : Dev :=
  if d.svc.safeWrite && !d.fbit F.KEP_STAT_SEALED then
    ({ d with nv := d.nv.sysWrite fun v => { v with safeFlag := true } }).modSvc fun s => { s with safeWrite := false }
  else d

/-- A copy with the flag clear is written, and STOP takes effect and is answered. -/
def safeFlagClear (d : Dev) : Dev :=
  if d.st = .safe && d.svc.exitPend && !d.fbit F.KEP_STAT_SEALED then
    ({ d with nv := d.nv.sysWrite fun v => { v with safeFlag := false } }.modSvc fun s => { s with exitPend := false, safeWrite := false }).enterStop
  else d

/-- The journal slots whose read fails at this BOOT: those that the retry clears count as transient, the others read
UNCORRECTABLE from now on (Table 1.8, R23, R253). -/
def journalReads (d : Dev) (retries : Nat) (lost : List Nat) : Dev :=
  let d := (List.range retries).foldl (fun (d : Dev) _ =>
    ((d.transient 4).raiseRec F.KEP_EVT_UNCORR).tally 0x605) d
  { d with nv := { d.nv with badSlots := d.nv.badSlots ++ (lost.filter fun s => !d.nv.badSlots.contains s).eraseDups } }

end Dev

namespace Core

/-! ### BOOT (R380, Table 16.6) -/

/-- Memory after the self-test: MRAM stands, work memory is empty and holds no error (step 4). -/
def bootMem (m : Mem) : Mem :=
  { cells := m.cells.filter fun (x : Nat × Byte) => decide (0x1000_0000 ≤ x.1),
    errs := m.errs.filter fun (x : Nat × List (Nat × Byte)) => isMram x.1, poison := [] }

/-- The self-test's findings: a group that fails both attempts maps its row (R246). -/
def selfTest (c : Core) (bad : List Nat) : Core :=
  bad.foldl (fun (c : Core) g => if c.dev.nv.spareRows.contains (rowOf g) then c else c.mapRow g) c

/-- BOOT goes on with no verified program image; where no keep record names a half there is no half record to set
INVALID (R217, R123, DEDUCED, log entry 68). -/
def noImage (c : Core) (half : Option Nat) : Core :=
  let c := match half with
    | some h => c.setHalf h { c.halfRec h with state := 5 }
    | none => c
  c.onDev fun d => (d.fsticky F.SVC_FLT_CAUSE 2).occurBlk 6 (15 * 256 + 0x82) 15

/-- The active half is verified and its decode table loaded (R217, R123): steps 6 and 7. -/
def bootImage (c : Core) : Core :=
  match c.dev.keep.namedHalf with
  | none => c.noImage none
  | some h =>
    if 2 ≤ h || !c.halfSound h then c.noImage (some h)
    else
      let im := readImage c.mem.cells h (c.halfRec h).header
      if !c.tableThere im then c.noImage (some h)
      else
        let o := c.halfRec (1 - h)
        let c := c.setHalf h { c.halfRec h with state := 4 }
        let c := if o.state = 4 then c.setHalf (1 - h) { o with state := 3 } else c
        let bank := c.halfTable h
        let c := c.onDev fun d =>
          let d := { d with mov := { d.mov with bank := bank } }
          (d.rset A.MOV_CPX_ID bank.tableId).fset F.MOV_CPX_PRES_PRESENT bank.present.toNat
        (c.loadImage im).assignSlots im []

/-- BOOT up to bring-up: the time base starts at 0 (R127) and the steps 1 to 7 of Table 16.6 are taken. -/
def boot (c : Core) (o : Otp) (x : BootIn) : Core :=
  let c : Core := { mem := bootMem c.mem, dev := { c.dev.setTb 0 with st := .boot, held := false } }
  let c := c.onDev fun d => (d.readOtp o x).showSpares
  let c := (c.selfTest x.badGroups).onDev fun d => d.safBoot.calShow.journalReads x.slotRetries x.slotsLost
  let c := c.recoverKeep.onDev fun d =>
    (d.fset F.KEP_BOOT_T_RECOV (min 20000 (Config.openWord d.free).toNat)).nextFree
  c.bootImage.onDev fun d => { d with lac := { d.lac with bringUp := true, bringStart := d.tb } }

/-- SUPPLIES_VALID (R380). -/
def suppliesValid (c : Core) (o : Otp) (x : BootIn) : Core := if c.dev.st = .off then c.boot o x else c

/-- RESET_N_RISE (R379). -/
def resetRise (c : Core) (o : Otp) (x : BootIn) : Core := if c.dev.held then c.boot o x else c

/-- BRING_UP_END (R179, R206): step 8. -/
def endBringUp (c : Core) : Core :=
  if c.dev.lac.bringUp then c.onDev fun d => (d.bringUpEnd.crownBringUp).safState else c

/-- A device that skips the rest of bring-up has ended it (R179). -/
def skipBringUp (c : Core) : Core := if c.dev.bringing then c else c.endBringUp

/-- Whether BOOT ends in SAFE (R6, R382): the cause of this BOOT among those of Table 16.7, 0 none. The sticky
SVC_FLT.CAUSE may hold an earlier one. -/
def bootSafe (d : Dev) : Nat :=
  if d.svc.coreLost then 1
  else if d.fbit F.SVC_STAT_TEST_EN then 4
  else if d.nv.safeFlag && !d.cfgBit 4 1 then 3
  else 0

/-- The end of BOOT (R380): steps 9 and 10, with the result of the cut-off test. -/
def bootEnd (c : Core) (cut : Bool) : Core :=
  if c.dev.st ≠ .boot || c.dev.held || c.dev.bringing then c
  else
    let c := c.skipBringUp
    let k := bootSafe c.dev
    let run := c.dev.esc.image.isSome && c.dev.cfgBit 4 0
    c.onDev fun d =>
      let d := loadEsc d
      let d := if d.nv.safeFlag && d.cfgBit 4 1 then
          { d with nv := d.nv.sysWrite fun v => { v with safeFlag := false } } else d
      let b := d.nextBeat / d.esc.period - 1
      let d := d.modEsc fun e => { e with bootEnd := d.tb, lastKeep := d.tb, mark := d.tb, outSafe := true }
      let d :=
        if k ≠ 0 then ({ d.fsticky F.SVC_FLT_CAUSE k with st := .safe }).modSvc fun s => { s with safeWrite := k ≠ 4 }
        else if run then d.enterRun b
        else { d with st := .stop }
      let d := (d.fieldRelease.safBootEnd (if cut then 0 else 2)).safState
      let d := (d.rsetN A.SVC_BOOT_T (d.tb / 1000)).raise F.SVC_EVT_BOOT_DONE
      let d := (d.occurBlk 0 0x0002 15).fput F.KEP_STAT_SCAN_BUSY true
      { d with keep := { d.keep with scanStart := d.tb } }

end Core

/-! ### Warnings, resets and losses of supply (R379, R396) -/

/-- The entry of a power-fail warning: merged headers first, then the entry, and what is still queued is lost (R357). -/
def State.powerEntry (e : RecEntry) (s : State) : State :=
  let r := writeHeaders s.area s.core.dev
  let w := if r.2.rcd.scanning then r else writeRecord r.1 r.2 e
  { s with area := w.1, core := { s.core with dev := { w.2 with rcd := { w.2.rcd with queue := [] } } } }

/-- Steps 5 and 6 of Table 10.6, once no final record is in progress: KEEP seals and the power entry is written. -/
def State.finishWarning (s : State) : State :=
  match s.core.dev.keep.power, s.core.dev.keep.pend with
  | some e, none => ({ s with core := (s.core.modKeep fun k => { k with power := none }).keepSeal }).powerEntry e
  | _, _ => s

/-- The commit slot of a record in progress, and what waits for that of a final record (R251, R254). -/
def State.recordCommit (s : State) : State := ({ s with core := s.core.commitRecord }).finishWarning

/-- A power-fail warning: the sequence of Table 10.6 begins, and a burn stops before its CRC (R377). -/
def State.warning (s : State) : State :=
  let d := s.core.dev
  if d.st = .off || d.held || d.fbit F.SVC_STAT_WARN then s
  else
    let c := s.core.onDev fun d =>
      ((d.fput F.SVC_STAT_WARN true).raise F.SVC_EVT_PFAIL).finc F.SVC_PWR_WARNINGS
    let c := c.onDev Dev.rslCancel
    let c := (c.onDev Dev.safeFlagWritten).finalKeep (c.dev.tb / c.dev.esc.period)
    let b := c.burnWarning s.otp
    let e : RecEntry := ⟨0, 1, d.tsNow, 0, 0, c.dev.snapOf 15⟩
    let c := b.2.modKeep fun k => { k with power := some e }
    ({ s with otp := b.1, core := c }).finishWarning

/-- KEEP unseals 10 ms after a warning that has passed; its final record is long complete by then (R254, R255). -/
def State.unseal (s : State) : State :=
  if s.core.dev.fbit F.SVC_STAT_WARN then
    let s := s.recordCommit
    let c := s.core.keepUnseal.onDev fun d => (d.fput F.SVC_STAT_WARN false).occurBlk 0 0x0003 15
    { s with core := c.burnUnseal }
  else s

/-- What a loss of the core supplies leaves in MRAM and OTP (R249, R377, R396). -/
def State.cut (s : State) : State :=
  let b := s.core.burnWarning s.otp
  { s with otp := b.1, core := b.2.powerLossJournal.powerLossPage }

/-- SUPPLY_INVALID (R396): the device resets at once and is OFF. -/
def State.supplyInvalid (s : State) : State :=
  if s.core.dev.st = .off then s
  else
    let s := if s.core.dev.held then s else s.cut
    { s with core := { mem := Core.bootMem s.core.mem, dev := s.core.dev.lose } }

/-- RESET_N_FALL (R379): past BOOT it is a warning, and the reset takes hold 60 µs later. -/
def State.resetFall (s : State) : State :=
  let d := s.core.dev
  if d.st = .off || d.held then s
  else
    let s := if d.st = .boot then s.cut else s.warning.recordCommit
    { s with core := { mem := Core.bootMem s.core.mem, dev := s.core.dev.hold } }

end Sys2Proof.Machine
end

