-- ==== Sys2Proof/Machine/ExecCycle.lean ====
section
/-! DEFINITION. Commands of ESCAPEMENT and of MOVEMENT as a whole (R13, R27 to R77, R172). -/

namespace Sys2Proof.Machine

/-- COMPLETION_TIMEOUT (R13). -/
def execCompletionTimeout (tr : Fin 4) (s : State) : Outcome := s.whenUp fun c => c.timeout tr

/-- BEAT (R36). -/
def execBeat (s : State) : Outcome := s.whenUp fun c => c.beat

/-- HOLD_EXPIRED (R172). -/
def execHoldExpired (s : State) : Outcome := s.whenUp fun c => c.holdExpired

/-- OVERRUN_LIMIT (R45). -/
def execOverrunLimit (n : Fin 16) (s : State) : Outcome := s.whenUp fun c => c.overrunLimit n

/-- STRETCHED_RELEASE (R45). -/
def execStretchedRelease (n : Fin 16) (s : State) : Outcome := s.whenUp fun c => c.stretchedRelease n

/-- ACK_WAIT_LIMIT (R44). -/
def execAckWaitLimit (n : Fin 16) (s : State) : Outcome := s.whenUp fun c => c.ackWaitLimit n

/-- STRAND_DISPATCH (R59). -/
def execStrandDispatch (tr : Fin 4) (s : State) : Outcome := s.whenUp fun c => c.dispatch tr

/-- HEAD_COMMIT (R68). -/
def execHeadCommit (s : State) : Outcome := s.whenUp fun c => c.commitHead

/-- MOV_CTL_WRITE (R76). -/
def execMovCtlWrite (q : Requester) (v : Word) (s : State) : Outcome := s.whenUp fun c => c.regWrite q A.MOV_CTL v

end Sys2Proof.Machine
end

