-- ==== Sys2Proof/Machine/ExecField.lean ====
section
/-! DEFINITION. Commands of FIELD (R263 to R284). -/

namespace Sys2Proof.Machine

/-- What became of the frames of the next beat (R264, R265). A field die that answers has its supply (R395). -/
def Dev.fieldResults (d : Dev) (resIn resOut : Nat) : Dev :=
  d.modField fun f => { f with resIn := some resIn, resOut := resOut, power := f.power || resIn < 2 }

/-- FIELD_INPUT_FRAME (R264). The outcome of the frames of the next beat: 0 good, 1 resent, 2 failed twice. -/
def execFieldInputFrame (resIn resOut : Fin 3) (s : State) : Outcome :=
  s.whenUp fun c => c.onDev fun d => d.fieldResults resIn resOut

/-- OUTPUT_FRAME_BETWEEN_BEATS (R266). -/
def execOutputFrameBetweenBeats (res : Fin 3) (s : State) : Outcome :=
  s.whenUp fun c => c.onDev fun d => d.sendPend res

/-- FIELD_KEEP_ALIVE (R266). -/
def execFieldKeepAlive (s : State) : Outcome := s.whenUp fun c => c.onDev Dev.keepAlive

/-- OUTPUT_FRAME_APPLY (R266). -/
def execOutputFrameApply (s : State) : Outcome := s.whenUp fun c => c.onDev Dev.applyFrames

/-- SILENCE_EXPIRY (R267). -/
def execSilenceExpiry (s : State) : Outcome := s.whenUp fun c => c.onDev Dev.silenceExpire

/-- FIELD_DIE_DOWN (R269). -/
def execFieldDieDown (s : State) : Outcome := s.whenUp fun c => c.onDev Dev.dieDown

/-- DI_FILTER_ACCEPT (R272). -/
def execDiFilterAccept (n : Fin 16) (level : Bool) (s : State) : Outcome :=
  s.whenUp fun c => c.onDev fun d => d.diAccept n level

/-- DO_OVERLOAD (R273). -/
def execDoOverload (n : Fin 8) (s : State) : Outcome := s.whenUp fun c => c.onDev fun d => d.overload n

/-- DO_OVERLOAD_CLEAR (R273). -/
def execDoOverloadClear (n : Fin 8) (s : State) : Outcome := s.whenUp fun c => c.onDev fun d => d.overloadClear n

/-- DO_THERMAL_SHUTDOWN (R273). -/
def execDoThermalShutdown (n : Fin 8) (s : State) : Outcome := s.whenUp fun c => c.onDev fun d => d.thermalShutdown n

/-- DO_THERMAL_RESTART (R273). -/
def execDoThermalRestart (n : Fin 8) (s : State) : Outcome := s.whenUp fun c => c.onDev fun d => d.thermalRestart n

/-- FLD_DORESTART_WRITE (R273). -/
def execFldDorestartWrite (q : Requester) (v : Word) (s : State) : Outcome :=
  s.whenUp fun c => c.regWrite q A.FLD_DORESTART v

/-- AO_EVALUATION (R278). -/
def execAoEvaluation (n : Fin 4) (readback headroom : Nat) (s : State) : Outcome :=
  s.whenUp fun c => c.onDev fun d => d.aoEvaluate n readback headroom

/-- COMPLIANCE_CLEAR (R278). -/
def execComplianceClear (q : Requester) (n : Fin 4) (s : State) : Outcome :=
  s.whenUp fun c => c.regWrite q (A.FLD_AOSTAT n) (BitVec.ofNat 32 (2 ^ (F.FLD_AOSTAT_COMPLIANCE n).lo))

/-- AO_TRIM_RELOAD (R276). -/
def execAoTrimReload (q : Requester) (n : Fin 4) (s : State) : Outcome :=
  s.whenUp fun c => c.regWrite q (A.FLD_AOCFG n) (c.dev.rget (A.FLD_AOCFG n) ||| BitVec.ofNat 32 (2 ^ (F.FLD_AOCFG_RELOAD n).lo))

/-- AI_CONVERSION (R280). -/
def execAiConversion (n : Fin 4) (code : BitVec 16) (s : State) : Outcome :=
  s.whenUp fun c => c.onDev fun d => d.aiConvert n code.toNat

/-- VF_UV (R282). -/
def execVfUv (s : State) : Outcome := s.whenUp fun c => c.onDev fun d => d.vfUv.safUv

/-- VF_UV_RECOVERY (R282). The field die has its own supply. -/
def execVfUvRecovery (s : State) : Outcome := s.onCore fun c => c.onDev Dev.vfUvRecover

end Sys2Proof.Machine
end

