-- ==== Sys2Proof/Machine/FloatInstr.lean ====
section
/-! DEFINITION. The floating-point instructions 0x70 to 0x8C (Table 4.4, R93 to R95). -/

namespace Sys2Proof.Machine

/-- The sticky bits of a floating-point result (Table 4.1). -/
def stickyOnly (s : Word) : FlagWrite := { sticky := s }

/-- FADD, FSUB, FMUL, FDIV. -/
def singleArith (c : Core) (t : Nat) (op : FOp) (b : Body) : Core :=
  c.regInstr t (legalWR b) { w := [fS b, fT b], fl := rmMask } fun v r =>
    let x := Fmt.single.arith op (rmOf v.flags) (v.getW (fS b)) (v.getW (fT b))
    (r.putW (fD b) x.bits).putF (stickyOnly x.sticky)

/-- DADD, DSUB, DMUL, DDIV. -/
def doubleArith (c : Core) (t : Nat) (op : FOp) (b : Body) : Core :=
  c.regInstr t (legalD3 b) { w := pairW (fS b) ++ pairW (fT b), fl := rmMask } fun v r =>
    let x := Fmt.double.arith op (rmOf v.flags) (v.getD (fS b)) (v.getD (fT b))
    (r.putD (fD b) x.bits).putF (stickyOnly x.sticky)

/-- The flags of a compare of two data (R94). -/
def cmpFlags (a b : FVal) : FlagWrite := fcmpFlags (a.cmp b) (a.isSNaN || b.isSNaN)

/-- FCMP: D must be 0. -/
def fcmp (c : Core) (t : Nat) (b : Body) : Core :=
  c.regInstr t (legalWR b && fD b = 0) { w := [fS b, fT b] } fun v r =>
    r.putF (cmpFlags (Fmt.single.unpack (v.getW (fS b))) (Fmt.single.unpack (v.getW (fT b))))
/-- DCMP: D must be 0. -/
def dcmp (c : Core) (t : Nat) (b : Body) : Core :=
  c.regInstr t (legalD3 b && fD b = 0) { w := pairW (fS b) ++ pairW (fT b) } fun v r =>
    r.putF (cmpFlags (Fmt.double.unpack (v.getD (fS b))) (Fmt.double.unpack (v.getD (fT b))))

/-- The sign bit at `n` cleared, or inverted where `neg` (R93). -/
def signOp (neg : Bool) (n x : Nat) : Nat :=
  if neg then (if x / 2 ^ n % 2 = 1 then x - 2 ^ n else x + 2 ^ n) else x % 2 ^ n

/-- FABS, FNEG. -/
def fabsFneg (c : Core) (t : Nat) (neg : Bool) (b : Body) : Core :=
  c.regInstr t (legalWR b && fT b = 0) { w := [fS b] } fun v r => r.putW (fD b) (signOp neg 31 (v.getW (fS b)))
/-- DABS, DNEG. -/
def dabsDneg (c : Core) (t : Nat) (neg : Bool) (b : Body) : Core :=
  c.regInstr t (legalWR b && fT b = 0 && pairOk (fD b) && pairOk (fS b)) { w := pairW (fS b) } fun v r =>
    r.putD (fD b) (signOp neg 63 (v.getD (fS b)))

/-- ITOF, UTOF (R95). -/
def itofUtof (c : Core) (t : Nat) (uns : Bool) (b : Body) : Core :=
  c.regInstr t (legalWR b && fT b = 0) { w := [fS b], fl := rmMask } fun v r =>
    let i : Int := if uns then v.getW (fS b) else signed 32 (v.getW (fS b))
    let x := Fmt.single.ofInt (rmOf v.flags) i
    (r.putW (fD b) x.bits).putF (stickyOnly x.sticky)

/-- FTOI, FTOU (R95). -/
def ftoiFtou (c : Core) (t : Nat) (uns : Bool) (b : Body) : Core :=
  c.regInstr t (legalWR b && fT b = 0) { w := [fS b], fl := rmMask } fun v r =>
    let x := if uns then Fmt.single.toInt (rmOf v.flags) (v.getW (fS b)) 0 (2 ^ 32 - 1)
      else Fmt.single.toInt (rmOf v.flags) (v.getW (fS b)) (-2 ^ 31) (2 ^ 31 - 1)
    (r.putW (fD b) (unsigned 32 x.1)).putF (stickyOnly x.2)

/-- ITOD: exact. -/
def itod (c : Core) (t : Nat) (b : Body) : Core :=
  c.regInstr t (legalWR b && fT b = 0 && pairOk (fD b)) { w := [fS b] } fun v r =>
    r.putD (fD b) (Fmt.double.ofInt 0 (signed 32 (v.getW (fS b)))).bits
/-- LTOD. -/
def ltod (c : Core) (t : Nat) (b : Body) : Core :=
  c.regInstr t (legalWR b && fT b = 0 && pairOk (fD b) && pairOk (fS b)) { w := pairW (fS b), fl := rmMask } fun v r =>
    let x := Fmt.double.ofInt (rmOf v.flags) (signed 64 (v.getD (fS b)))
    (r.putD (fD b) x.bits).putF (stickyOnly x.sticky)
/-- DTOI. -/
def dtoi (c : Core) (t : Nat) (b : Body) : Core :=
  c.regInstr t (legalWR b && fT b = 0 && pairOk (fS b)) { w := pairW (fS b), fl := rmMask } fun v r =>
    let x := Fmt.double.toInt (rmOf v.flags) (v.getD (fS b)) (-2 ^ 31) (2 ^ 31 - 1)
    (r.putW (fD b) (unsigned 32 x.1)).putF (stickyOnly x.2)
/-- DTOL. -/
def dtol (c : Core) (t : Nat) (b : Body) : Core :=
  c.regInstr t (legalWR b && fT b = 0 && pairOk (fD b) && pairOk (fS b)) { w := pairW (fS b), fl := rmMask } fun v r =>
    let x := Fmt.double.toInt (rmOf v.flags) (v.getD (fS b)) (-2 ^ 63) (2 ^ 63 - 1)
    (r.putD (fD b) (unsigned 64 x.1)).putF (stickyOnly x.2)
/-- STOD: exact; a signalling NaN sets NV. -/
def stod (c : Core) (t : Nat) (b : Body) : Core :=
  c.regInstr t (legalWR b && fT b = 0 && pairOk (fD b)) { w := [fS b] } fun v r =>
    let x := Fmt.convert .single .double 0 (v.getW (fS b))
    (r.putD (fD b) x.bits).putF (stickyOnly x.sticky)
/-- DTOS. -/
def dtos (c : Core) (t : Nat) (b : Body) : Core :=
  c.regInstr t (legalWR b && fT b = 0 && pairOk (fS b)) { w := pairW (fS b), fl := rmMask } fun v r =>
    let x := Fmt.convert .double .single (rmOf v.flags) (v.getD (fS b))
    (r.putW (fD b) x.bits).putF (stickyOnly x.sticky)

end Sys2Proof.Machine
end

