-- ==== Sys2Proof/Machine/ExecFloat.lean ====
section
/-! DEFINITION. The floating-point instructions (R93 to R95). -/

namespace Sys2Proof.Machine

/-- SINGLE_ARITHMETIC (R93). -/
def execSingleArithmetic (tr : Fin 4) (op : FOp) (b : BitVec 24) (s : State) : Outcome :=
  s.whenUp fun c => Sys2Proof.Machine.singleArith c tr op b

/-- FCMP (R94). -/
def execFcmp (tr : Fin 4) (b : BitVec 24) (s : State) : Outcome := s.whenUp fun c => Sys2Proof.Machine.fcmp c tr b

/-- FABS_FNEG (R93). -/
def execFabsFneg (tr : Fin 4) (neg : Bool) (b : BitVec 24) (s : State) : Outcome :=
  s.whenUp fun c => Sys2Proof.Machine.fabsFneg c tr neg b

/-- ITOF_UTOF (R95). -/
def execItofUtof (tr : Fin 4) (uns : Bool) (b : BitVec 24) (s : State) : Outcome :=
  s.whenUp fun c => Sys2Proof.Machine.itofUtof c tr uns b

/-- FTOI_FTOU (R95). -/
def execFtoiFtou (tr : Fin 4) (uns : Bool) (b : BitVec 24) (s : State) : Outcome :=
  s.whenUp fun c => Sys2Proof.Machine.ftoiFtou c tr uns b

/-- DOUBLE_ARITHMETIC (R93). -/
def execDoubleArithmetic (tr : Fin 4) (op : FOp) (b : BitVec 24) (s : State) : Outcome :=
  s.whenUp fun c => Sys2Proof.Machine.doubleArith c tr op b

/-- DCMP (R94). -/
def execDcmp (tr : Fin 4) (b : BitVec 24) (s : State) : Outcome := s.whenUp fun c => Sys2Proof.Machine.dcmp c tr b

/-- DABS_DNEG (R93). -/
def execDabsDneg (tr : Fin 4) (neg : Bool) (b : BitVec 24) (s : State) : Outcome :=
  s.whenUp fun c => Sys2Proof.Machine.dabsDneg c tr neg b

/-- ITOD (R95). -/
def execItod (tr : Fin 4) (b : BitVec 24) (s : State) : Outcome := s.whenUp fun c => Sys2Proof.Machine.itod c tr b

/-- LTOD (R95). -/
def execLtod (tr : Fin 4) (b : BitVec 24) (s : State) : Outcome := s.whenUp fun c => Sys2Proof.Machine.ltod c tr b

/-- DTOI (R95). -/
def execDtoi (tr : Fin 4) (b : BitVec 24) (s : State) : Outcome := s.whenUp fun c => Sys2Proof.Machine.dtoi c tr b

/-- DTOL (R95). -/
def execDtol (tr : Fin 4) (b : BitVec 24) (s : State) : Outcome := s.whenUp fun c => Sys2Proof.Machine.dtol c tr b

/-- STOD (R95). -/
def execStod (tr : Fin 4) (b : BitVec 24) (s : State) : Outcome := s.whenUp fun c => Sys2Proof.Machine.stod c tr b

/-- DTOS (R93). -/
def execDtos (tr : Fin 4) (b : BitVec 24) (s : State) : Outcome := s.whenUp fun c => Sys2Proof.Machine.dtos c tr b

end Sys2Proof.Machine
end

