-- ==== Sys2Proof/Machine/MemInstr.lean ====
section
/-! DEFINITION. Loads and stores (R96, R97), with the head-only accesses to register pages and KEEP windows (R64) and
the load log of a pair (R193). -/

namespace Sys2Proof.Machine

/-- The bytes a load accesses. -/
def loadSize : LoadKind → Nat
  | .ldb | .ldbu => 1
  | .ldh | .ldhu => 2
  | .ldw => 4
  | .ldd => 8

/-- The value a load gives from its bytes: a word, or for LDD a pair. -/
def loadValue : LoadKind → Nat → Nat
  | .ldb, v => unsigned 32 (signed 8 v)
  | .ldh, v => unsigned 32 (signed 16 v)
  | _, v => v

/-- The bytes a store accesses. -/
def storeSize : StoreKind → Nat
  | .stb => 1
  | .sth => 2
  | .stw => 4
  | .std => 8

/-- The effective address Wb + OFF × size (R96). -/
def effAddr (v : Regs) (b : Body) (size : Nat) : Nat :=
  unsigned 32 ((v.getW (fS b) : Int) + signed 16 (fImm16 b) * size)

namespace Core

/-- Bytes of the MRAM as a window or the code store gives them: each group is checked as it is read; where one cannot be
corrected the word is a free value. -/
def mramRead (c : Core) (a n : Nat) : Core × Nat :=
  let x := c.readGroup (a / 32)
  if x.2 then (x.1, x.1.mem.cells.le a n)
  else (x.1.soundIdx.onDev Dev.nextFree, (Config.openWord x.1.dev.free).toNat % 2 ^ (8 * n))

/-- What a load from a page or a KEEP window gives where it is performed (R64). -/
def deviceRead (c : Core) (area : Area) (n : Nat) (p : Place) (size : Nat) : Core × Nat :=
  match p with
  | .page a => let x := c.pageRead .program (some n) (a - 0x40000000); (x.1, x.2.toNat)
  | .keepWin a => c.mramRead a size
  | .recWin a => let x := c.windowRead area (a - 0x20040000) size; (x.1, leNat x.2)
  | _ => (c, 0)

/-- A page or window load of the head: performed once, logged on a followed crown holder, and taken from the load log on
a member that follows (R193). -/
def headLoad (c : Core) (t : Nat) (r : Run) (area : Area) (p : Place) (size : Nat) (k : Core → Run → Nat → IRes) : IRes :=
  if !c.isHead t then .wait .head
  else
    let r := { r with noDorm := true }
    match (r.pageLog.drop r.pagePos).head? with
    | some w => k c { r with pagePos := r.pagePos + 1 } w.toNat
    | none =>
      let i := (c.dev.task r.task).loads
      let done (c : Core) (v : Nat) : IRes :=
        let c := c.onDev fun d => d.modTask r.task fun x => { x with loads := i + 1 }
        k c { r with pageLog := r.pageLog ++ [BitVec.ofNat 64 v], pagePos := r.pagePos + 1 } v
      if c.dev.follows then
        match c.dev.wlt.loads.find? fun (x : Nat × Nat × Nat) => x.1 = r.task && x.2.1 = i with
        | some x => done c x.2.2
        | none => .wait .log
      else
        let x := c.deviceRead area r.task p size
        let c := if c.dev.followed then x.1.onDev fun d => d.wsend (.loadlog [(r.task, i, x.2)]) else x.1
        done c x.2

/-- The destination of a load takes its value, with the load delay of R97. -/
def loaded (r : Run) (k : LoadKind) (dst v : Nat) : Run :=
  let old (i : Nat) : Nat × Bool × Word :=
    if r.owned.w.getLsbD i then (i, true, r.regs.w.toList.getD i 0) else (i, false, 0)
  let r' := if k = .ldd then r.putD dst v else r.putW dst (loadValue k v)
  { r' with delay := if k = .ldd then [old dst, old (dst + 1)] else [old dst] }

/-- Where an access goes, or its trap (R18, R96). -/
def access (c : Core) (n : Nat) (store : Bool) (a size : Nat) : Except Nat Place :=
  let p := c.place n store a size
  match accessTrap p a size with
  | some code => .error code
  | none => .ok p

/-- LDB to LDD (R96, R97). A load that an automatic split follows needs the old value of its destination. -/
def load (c : Core) (area : Area) (t : Nat) (k : LoadKind) (b : Body) : Core :=
  let size := loadSize k
  let dst := fD b
  let last := match c.dev.run t with | some r => decide (r.retired = 511) | none => false
  let srcs : Srcs := { w := fS b :: (if last then (if k = .ldd then pairW dst else [dst]) else []) }
  c.instr t (k ≠ .ldd || pairOk dst) srcs fun c r v =>
    let a := effAddr v b size
    match c.access r.task false a size with
    | .error code => .trap code none
    | .ok (.mem as) =>
      match c.readMem t r as ((List.range size).map (a + ·)) with
      | .ok c r bs => .next c (loaded r k dst (leNat bs)).advance
      | .wait w => .wait w
      | .poison c => .poison c none
    | .ok (.code a) => let x := c.mramRead a size; .next x.1 (loaded r k dst x.2).advance
    | .ok p => c.headLoad t r area p size fun c r v => .next c (loaded r k dst v).advance

/-- A store of the head to a register page, performed once; a service of WATCH waits for the commit (R64, R342). -/
def headStore (c : Core) (t : Nat) (r : Run) (a : Nat) (v : Word) : IRes :=
  if !c.isHead t then .wait .head
  else
    let r := { r with noDorm := true }
    if a - 0x40000000 = A.WDG_SVC then .next c ({ r with effects := r.effects ++ [Effect.service v] }).advance
    else if r.pagePos < r.pageLog.length then .next c ({ r with pagePos := r.pagePos + 1 }).advance
    else
      let c := c.pageWrite .program (a - 0x40000000) v (c.dev.task r.task).relTime
      .next c ({ r with pageLog := r.pageLog ++ [0], pagePos := r.pagePos + 1 }).advance

/-- STB to STD (R96). -/
def store (c : Core) (t : Nat) (k : StoreKind) (b : Body) : Core :=
  let size := storeSize k
  let src := fD b
  c.instr t (k ≠ .std || pairOk src) { w := fS b :: (if k = .std then pairW src else [src]) } fun c r v =>
    let a := effAddr v b size
    let x := if k = .std then v.getD src else v.getW src
    match c.access r.task true a size with
    | .error code => .trap code none
    | .ok (.mem as) =>
      if needsSplit r (as.map (· / 32)) then .split
      else
        let y := c.storeMem r (as.zip (leBytes size x)) ((List.range size).map (a + ·))
        .next y.1 y.2.advance
    | .ok (.page a) => c.headStore t r a (BitVec.ofNat 32 x)
    | .ok _ => .trap tACCESS none

end Core

end Sys2Proof.Machine
end

