-- ==== Sys2Proof/Machine/Access.lean ====
section
/-! DEFINITION. How requesters other than the program reach the address space: READ and WRITE of the service port
(R374), and the mailbox requests that arrive over the ring (R180). -/

namespace Sys2Proof.Machine

namespace Core

/-- Whether an address lies in the map (Table 1.6). -/
def mapped (a : Nat) : Bool :=
  a < 0x200000 || (0x10000000 ≤ a && a < 0x10400000) || (0x20000000 ≤ a && a < 0x20090000)
    || (0x40000000 ≤ a && a < 0x40100000)

/-- Whether an address is a register page's. -/
def paged (a : Nat) : Bool := 0x40000000 ≤ a && a < 0x40100000

/-- Words of register pages read in ascending order. -/
def pagesRead (c : Core) (q : Requester) (a n : Nat) : Core × List Byte :=
  (List.range (n / 4)).foldl (fun (s : Core × List Byte) k =>
    let x := s.1.pageRead q none (a - 0x40000000 + 4 * k)
    (x.1, s.2 ++ leBytes 4 x.2.toNat)) (c, [])

/-- READ (Tables 16.2 and 16.11). -/
def serviceRead (c : Core) (area : Area) (p : List Byte) : Core :=
  let a := hLe p 0 4
  let n := hLe p 4 2
  let touches := paged a || paged (a + n - 1)
  if p.length ≠ 6 || n < 4 || 1024 < n || !(mapped a && mapped (a + n - 1)) || (touches && !(a % 4 = 0 && n % 4 = 0)) then
    c.reply sBAD_ARG
  else if touches then
    let x := c.pagesRead .service a n
    x.1.reply sOK x.2
  else if 0x20040000 ≤ a then
    let x := c.windowRead area (a - 0x20040000) n
    x.1.reply sOK x.2
  else
    let m := if 0x20000000 ≤ a && 0x20040000 < a + n then 0x20040000 - a else n
    let x := c.checkedRead a m
    let y := x.1.windowRead area 0 (n - m)
    y.1.reply sOK (x.2 ++ y.2)

/-- WRITE (Tables 16.2 and 16.11). -/
def serviceWrite (c : Core) (p : List Byte) : Core :=
  let a := hLe p 0 4
  let data := p.drop 4
  let n := data.length
  if p.length < 5 || 1024 < n then c.reply sBAD_ARG
  else if paged a && paged (a + n - 1) then
    if a % 4 ≠ 0 || n % 4 ≠ 0 then c.reply sBAD_ARG
    else
      let c := (List.range (n / 4)).foldl (fun (c : Core) k =>
        c.pageWrite .service (a - 0x40000000 + 4 * k) (BitVec.ofNat 32 (hLe data (4 * k) 4)) c.dev.tb) c
      c.reply sOK
  else if 0x8000 ≤ a && a + n ≤ 0x1E0000 then
    if c.dev.st = .stop then (c.put a data).reply sOK else c.reply sSTATE
  else c.reply sBAD_ARG

/-! ### Host reads (R21, R22, R247, R367) -/

/-- The program address behind a BAR0 offset of the live range, the code halves or the records window (Table 1.7). -/
def barAddr (x : Nat) : Option Nat :=
  if 0x10000 ≤ x && x < 0x200000 then some x
  else if 0x400000 ≤ x && x < 0x800000 then some (x - 0x400000 + 0x10000000)
  else if 0x800000 ≤ x && x < 0x840000 then some (x - 0x800000 + 0x20000000)
  else none

/-- One byte of a memory window as the host reads it: the published images, live memory and the write buffer; `rec`
holds the bytes read of the recorder window, from offset `lo` on; any other offset reads 0 (R21). -/
def hostByte (c : Core) (rec : List Byte) (lo x : Nat) : Byte :=
  match barAddr x with
  | some a => c.mem.cells.read a
  | none =>
    if x < 0x10000 then c.dev.esc.pub.read x
    else if 0x200000 ≤ x && x < 0x201000 then c.dev.hst.inBuf.read (x - 0x200000)
    else if 0x840000 ≤ x && x < 0x890000 then rec.getD (x - lo) 0
    else 0

/-- The groups that a host read of `n` bytes covers, each read and checked once, whole (R22); those that failed. -/
def hostGroups (c : Core) (off n : Nat) : Core × List Nat :=
  let gs := ((List.range (n / 32 + 2)).map fun k => (off / 32 + k) * 32).filter fun x => x < off + n
  let x := (gs.filterMap barAddr).foldl (fun (s : Core × List Nat) a =>
    let y := s.1.readGroup (a / 32)
    (y.1, if y.2 then s.2 else a / 32 :: s.2)) (c, [])
  if x.2 = [] then x else (x.1.soundIdx, x.2)

/-- The part of a host read of `n` bytes that falls into the recorder window, as its bytes from the window's start or
from the read's (R352). -/
def hostWindow (c : Core) (area : Area) (off n : Nat) : Core × List Byte :=
  let lo := max off 0x840000
  let hi := min (off + n) 0x890000
  if lo < hi then c.windowRead area (lo - 0x840000) (hi - lo) else (c, [])

/-- Whether the word at a BAR0 offset is poisoned: not wholly in the mask of a poisoned group, or of a group that
failed (R247). -/
def hostPoisoned (c : Core) (bad : List Nat) (x : Nat) : Bool :=
  match barAddr (x / 4 * 4) with
  | some a => bad.contains (a / 32) || !c.mem.usable a 4
  | none => false

/-- A read TLP of `n` enabled bytes at a BAR0 offset. A register takes one aligned word and any other request of the
pages ends in a Completer Abort; a poisoned word returns 0xFFFF_FFFF with the EP bit set (R10, R247, R367). -/
def hostRead (c : Core) (area : Area) (off n : Nat) : Core :=
  let c := c.onDev fun d => d.tally 0xE00
  let answer (c : Core) (bytes : List Byte) (ep : Bool) : Core :=
    c.onDev fun d => (d.emit (.completion bytes ep)).bytesOut 5 bytes.length
  if 0x1000000 ≤ off && off < 0x1100000 then
    if n = 4 && off % 4 = 0 then
      let x := c.pageRead .host none (off - 0x1000000)
      answer x.1 (leBytes 4 x.2.toNat) false
    else c.onDev fun d => (d.emit (.tlpError true)).tally 0xE02
  else
    let x := c.hostGroups off n
    let y := x.1.hostWindow area off n
    let bad (i : Nat) : Bool := y.1.hostPoisoned x.2 (off + i)
    let lo := max off 0x840000
    answer y.1 ((List.range n).map fun i => if bad i then 0xFF
        else y.1.hostByte y.2 lo (off + i)) ((List.range n).any bad)

/-! ### Mailbox requests at their target (R180, Table 7.9) -/

/-- Whether a ring write of a register would be refused: outside the pages, read-only, locked, or turned away. -/
def ringRefused (c : Core) (addr : Nat) : Bool :=
  !paged addr || addr % 4 ≠ 0 ||
    (let a := addr - 0x40000000
     c.dev.turnedAway .ring a ||
      (if a % 0x10000 = 0x1C || (0xA1000 ≤ a && a < 0xA7000) then false
       else
        match regRow a with
        | none => true
        | some r => r.rw ||| r.w1c ||| r.wo = 0 && (r.rwl = 0 || !c.dev.unlocked .ring (a / 0x10000))))

/-- A mailbox request served at its target: the response. -/
def mailboxServeRequest (c : Core) (m : MbxMsg) : Core × MbxMsg :=
  match m.kind with
  | 1 =>
    let n := m.len / 4 * 4
    if paged m.addr.toNat && paged (m.addr.toNat + n - 1) && m.addr.toNat % 4 = 0 then
      let x := c.pagesRead .ring m.addr.toNat n
      (x.1, { m with result := 0, data := x.2 })
    else (c, { m with result := 4, data := [] })
  | 2 =>
    (List.range (m.len / 4)).foldl (fun (s : Core × MbxMsg) k =>
      let a := m.addr.toNat + 4 * k
      let bad := s.1.ringRefused a
      let c := if paged a then
          s.1.pageWrite .ring (a - 0x40000000) (BitVec.ofNat 32 (hLe m.data (4 * k) 4)) s.1.dev.tb else s.1
      (c, if bad then { s.2 with result := 4 } else s.2)) (c, { m with result := 0, data := [] })
  | 3 =>
    let x := c.dev.inboxPut m
    ({ c with dev := x.1 }, { m with result := x.2, data := [] })
  | _ => (c, { m with result := 4, data := [] })

/-- MAILBOX_REQUEST: a request frame arrives at its target, which answers it, or at another station (R180). -/
def mailboxArrive (c : Core) (p : Nat) (m : MbxMsg) : Core :=
  if m.dest = c.dev.ownAddr && c.dev.fbit F.LAC_ADDR_VALID && c.dev.acts then
    let x := c.mailboxServeRequest m
    x.1.onDev fun d => d.sendMsg p (.mbxResp x.2)
  else c.onDev fun d => d.mailboxRelay p m

end Core

end Sys2Proof.Machine
end

