-- ==== Sys2Proof/Machine/ExecHost.lean ====
section
/-! DEFINITION. Commands of the host port and of the register pages (R366 to R370, R386 to R394). -/

namespace Sys2Proof.Machine

/-- A host write to an offset that Table 1.7 does not list (R21). -/
def Dev.hostUnmapped (d : Dev) (off : Nat) : Dev :=
  if Dev.bar0Mapped off then d
  else ((d.fput F.HST_FLT_UNMAPPED true).raise F.HST_EVT_UNMAPPED).tally 0xE00

/-- HOST_INPUT_WRITE (R369). -/
def execHostInputWrite (off : Nat) (bs : List Byte) (s : State) : Outcome :=
  s.whenUp fun c => c.onDev fun d => d.hostInput off bs

/-- HOST_DOORBELL (R383). -/
def execHostDoorbell (v : Word) (s : State) : Outcome := s.whenUp fun c => c.regWrite .host A.HST_DOORBELL v

/-- HOST_UNMAPPED_WRITE (R21). -/
def execHostUnmappedWrite (off : Nat) (s : State) : Outcome := s.whenUp fun c => c.onDev fun d => d.hostUnmapped off

/-- PCIE_PERST (R368). -/
def execPciePerst (s : State) : Outcome := s.whenUp fun c => c.onDev Dev.perst

/-- PCIE_LINK_UP (R366). -/
def execPcieLinkUp (speed : Fin 4) (s : State) : Outcome := s.whenUp fun c => c.onDev fun d => d.linkUp speed

/-- PCIE_LINK_DOWN (R368). -/
def execPcieLinkDown (s : State) : Outcome := s.whenUp fun c => c.onDev Dev.linkDown

/-- CONFIGURATION_WRITE (R366). -/
def execConfigurationWrite (busMaster msixEn funcMask : Bool) (target : Nat) (s : State) : Outcome :=
  s.whenUp fun c => c.onDev fun d => d.configure busMaster msixEn funcMask target

/-- PAGE_KEY_WRITE (R387). -/
def execPageKeyWrite (q : Requester) (page : Fin 16) (v : Word) (s : State) : Outcome :=
  s.whenUp fun c => c.regWrite q (page.val * 0x10000 + 0x1C) v

/-- REGISTER_WRITE (R386). -/
def execRegisterWrite (q : Requester) (a : WriteAt) (v : Word) (s : State) : Outcome :=
  s.whenUp fun c => c.wordWrite q a.addr v a.n

/-- LOW_WORD_READ (R389), and at the host port every other read of BAR0 (R21, R22). -/
def execLowWordRead (q : Requester) (a : ReadAt) (s : State) : Outcome :=
  s.whenUp fun c =>
    match a with
    | .page addr => if q = .host then c.hostRead s.area (0x1000000 + addr) 4 else (c.pageRead q (c.dev.headTask q) addr).1
    | .bar0 off n => c.hostRead s.area off n

end Sys2Proof.Machine
end

