-- ==== Sys2Proof/Machine/ExecKeep.lean ====
section
/-! DEFINITION. Commands of WORKMEM and KEEP (R241 to R262). -/

namespace Sys2Proof.Machine

/-- Whether a group lies in a memory that the scrub pass reads: work memory, the timer slots or the decode banks, whose
tables fill 137 groups (R113, R242, R248). -/
def inPass (g : Nat) : Bool :=
  g < 0x10000 || (0x1800000 ≤ g && g < 0x1800800) || (0x1880000 ≤ g && g < 0x1881000 && g % 2048 < 137)

/-- Whether a group lies in the code store or the keep store. -/
def inMram (g : Nat) : Bool := (0x800000 ≤ g && g < 0x820000) || (0x1080000 ≤ g && g < 0x1088000)

/-- The scrub pass goes on after group `g`: work memory, the slots, the banks, whose last group completes the pass
(R248, R261, DEDUCED, log entry 46). -/
def Dev.scrubNext (d : Dev) (g : Nat) : Dev :=
  if g < 0x10000 then d.fset F.WKM_SCRUB_NEXT ((g + 1) % 0x10000)
  else if g = 0x1880800 + 136 then (d.finc F.WKM_SCRUB_PASSES).raise F.WKM_EVT_SCRUB_PASS
  else d

/-- A scrub read in the memories that are scrubbed, while their passes are enabled, and in the MRAM while KEEP is not
sealed (R248, R254, R261). -/
def Core.scrubRead (c : Core) (g : Nat) (e1 e2 : List (Nat × Byte)) : Core :=
  if inPass g then
    (if c.dev.fbit F.WKM_CTL_SCRUB_EN then (c.scrub g e1 e2).onDev fun d => d.scrubNext g else c)
  else if inMram g && c.dev.fbit F.KEP_CTL_SCRUB_EN && !c.dev.fbit F.KEP_STAT_SEALED then (c.scrub g e1 e2).soundIdx
  else c

/-- The class B scan ends, and FIELD reads the user trim (R258, R276). -/
def Core.scanDone (c : Core) : Core := if c.dev.fbit F.KEP_STAT_SCAN_BUSY then c.recordScanDone.trimLoad else c

/-- SCRUB_READ (R248). -/
def execScrubRead (g : Nat) (e1 e2 : List (Nat × Byte)) (s : State) : Outcome := s.whenUp fun c => c.scrubRead g e1 e2

/-- WATCH_REREAD (R245). -/
def execWatchReread (g : Nat) (e1 e2 : List (Nat × Byte)) (s : State) : Outcome := s.whenUp fun c => if Core.rereadDue c.dev g then (c.watchReread g e1 e2).soundIdx else c

/-- KEEP_RECORD_COMMIT (R251, and R254 for a final record). -/
def execKeepRecordCommit (s : State) : Outcome := .next (if s.powered then s.recordCommit else s)

/-- RECORD_WRITE (R257). -/
def execRecordWrite (q : Requester) (len : BitVec 8) (s : State) : Outcome :=
  s.whenUp fun c => c.regWrite q (A.KEP_RCMD (Dev.stagingOf q)) (BitVec.ofNat 32 (2 ^ 31 + len.toNat))

/-- RECORD_READ (R257). -/
def execRecordRead (q : Requester) (s : State) : Outcome :=
  s.whenUp fun c => c.regWrite q (A.KEP_RCMD (Dev.stagingOf q)) 0x40000000#32

/-- START_UP_SCAN_DONE (R258). -/
def execStartUpScanDone (s : State) : Outcome := s.whenUp fun c => c.scanDone

/-- WKM_INJ_WRITE (R261). `ctl`: WKM_INJ, else WKM_INJ_ADDR. -/
def execWkmInjWrite (q : Requester) (ctl : Bool) (v : Word) (s : State) : Outcome :=
  s.whenUp fun c => c.regWrite q (if ctl then A.WKM_INJ else A.WKM_INJ_ADDR) v

end Sys2Proof.Machine
end

