-- ==== Sys2Proof/Machine/ExecLace.lean ====
section
/-! DEFINITION. Commands of LACE (R153 to R184). -/

namespace Sys2Proof.Machine

/-- A frame arrives at a station that passes it on; a member then serves its mailbox entries in the window (R180). -/
def Core.frameArrive (c : Core) (p : Nat) (bs : List Byte) : Core :=
  c.onDev fun d => if p < 2 && d.isMember then (d.framePass p bs).mailboxServe else d.framePass p bs

/-- A frame returns to its manager, which in the window then answers JOIN_REQs and serves its mailbox entries. -/
def Core.frameBack (c : Core) (p : Nat) (bs : List Byte) (unl : List Nat) : Core :=
  c.onDev fun d =>
    let d := d.frameReturn p bs unl
    (match d.ringOfPort p with | some l => d.sendAcks l | none => d).mailboxServe

/-- ENUM at a port (R179): with no station in it, at a manager's ring port, the manager sends it. -/
def Dev.enumCommand (d : Dev) (p b : Nat) (ss : List Station) (rev : Bool) : Dev :=
  match d.ringOfPort p, ss with
  | some l, [] => d.sendEnum l
  | _, _ => d.enumArrive p b ss rev

/-- JOIN_REQ (R173): one that names this device is its own, which it sends while it is not admitted. -/
def Dev.joinCommand (d : Dev) (p : Nat) (r : JoinReq) : Dev :=
  if r.devId = d.factory.deviceId then d.sendJoin else d.joinReqArrive p r

/-- CYCLIC_FRAME_SEND (R159). -/
def execCyclicFrameSend (level0 : Bool) (s : State) : Outcome :=
  s.whenUp fun c => c.onDev fun d => d.sendCyclic level0

/-- TIME_FRAME_SEND (R165). -/
def execTimeFrameSend (level0 : Bool) (s : State) : Outcome := s.whenUp fun c => c.onDev fun d => d.sendTime level0

/-- FRAME_ARRIVAL (R162). -/
def execFrameArrival (p : Fin 4) (bs : List Byte) (s : State) : Outcome := s.whenUp fun c => c.frameArrive p bs

/-- FRAME_RETURN (R163). -/
def execFrameReturn (p : Fin 4) (f : Returned) (s : State) : Outcome :=
  s.whenUp fun c => c.frameBack p f.bytes f.unlocked

/-- FRAME_ABORT (R176). -/
def execFrameAbort (level0 : Bool) (cw ccw : Nat) (s : State) : Outcome :=
  s.whenUp fun c => c.onDev fun d => d.frameBroken level0 cw ccw

/-- FRAME_NOT_RETURNED (R175). -/
def execFrameNotReturned (level0 : Bool) (cw ccw : Nat) (s : State) : Outcome :=
  s.whenUp fun c => c.onDev fun d => if d.overdue level0 then d.frameBroken level0 cw ccw else d

/-- LOSS_OF_SIGNAL (R174). -/
def execLossOfSignal (p : Fin 4) (s : State) : Outcome := s.whenUp fun c => c.onDev fun d => d.lossOfSignal p

/-- LINK_DELAY_MEASUREMENT (R168). -/
def execLinkDelayMeasurement (p : Fin 4) (trips turns : List Nat) (s : State) : Outcome :=
  s.whenUp fun c => c.onDev fun d => d.linkDelay p (trips.zip turns)

/-- UNFOLD (R178). -/
def execUnfold (p : Fin 4) (s : State) : Outcome := s.whenUp fun c => c.onDev fun d => d.unfold p

/-- ENUM (R179). -/
def execEnum (p : Fin 4) (branch : Nat) (stations : List Station) (reverse : Bool) (s : State) : Outcome :=
  s.whenUp fun c => c.onDev fun d => d.enumCommand p branch stations reverse

/-- LAYOUT (R179). -/
def execLayout (p : Fin 4) (rows : List RingRow) (layoutId : Nat) (s : State) : Outcome :=
  s.whenUp fun c => c.onDev fun d => d.layoutArrive p rows layoutId

/-- JOIN_REQ (R173). -/
def execJoinReq (p : Fin 4) (r : JoinReq) (s : State) : Outcome :=
  s.whenUp fun c => c.onDev fun d => d.joinCommand p r

/-- JOIN_ACK (R173). -/
def execJoinAck (p : Fin 4) (a : JoinAck) (s : State) : Outcome :=
  s.whenUp fun c => c.onDev fun d => d.joinAckArrive p a

/-- MAILBOX_GO (R180). -/
def execMailboxGo (q : Requester) (s : State) : Outcome :=
  s.whenUp fun c => c.regWrite q (A.LAC_STG_CMD (Dev.stagingOf q)) (c.dev.rget (A.LAC_STG_CMD (Dev.stagingOf q)) ||| 0x80000000#32)

/-- MAILBOX_REQUEST (R180). -/
def execMailboxRequest (p : Fin 4) (m : MbxMsg) (s : State) : Outcome := s.whenUp fun c => c.mailboxArrive p m

/-- MAILBOX_RESPONSE (R180). -/
def execMailboxResponse (p : Fin 4) (m : MbxMsg) (good : Bool) (s : State) : Outcome :=
  s.whenUp fun c => c.onDev fun d => d.mailboxResponse p m good

/-- MAILBOX_TIMEOUT (R180). -/
def execMailboxTimeout (e : Fin 32) (s : State) : Outcome := s.whenUp fun c => c.onDev fun d => d.mailboxTimeout e

/-- MBX_DONE_CLEAR (R180). -/
def execMbxDoneClear (q : Requester) (mask : Word) (s : State) : Outcome :=
  s.whenUp fun c => c.regWrite q A.LAC_MBX_DONE mask

/-- INBOX_POP (R183). -/
def execInboxPop (q : Requester) (v : Word) (s : State) : Outcome := s.whenUp fun c => c.regWrite q A.LAC_INBOX_POP v

/-- PORT_UP (R179). -/
def execPortUp (p : Fin 4) (s : State) : Outcome := s.whenUp fun c => c.onDev fun d => d.portUp p

end Sys2Proof.Machine
end

