-- ==== Sys2Proof/Machine/ExecLoop.lean ====
section
/-! DEFINITION. Commands of LOOP (R285 to R299). -/

namespace Sys2Proof.Machine

/-- A register word with one bit changed. -/
def Core.withBit (c : Core) (f : Fld) (b : Bool) : Word := (c.dev.fput f b).rget f.addr

/-- LOOP_STEP (R289). -/
def execLoopStep (n : Fin 64) (e1 e2 : List (Nat × Byte)) (s : State) : Outcome :=
  s.whenUp fun c => c.loopStep n e1 e2

/-- LOOP_MODE_WRITE (R292). -/
def execLoopModeWrite (q : Requester) (n : Fin 64) (auto : Bool) (s : State) : Outcome :=
  s.whenUp fun c => c.regWrite q (A.LOP_CFG n) (c.withBit (F.LOP_CFG_AUTO n) auto)

/-- LOOP_ENABLE_WRITE (R297). -/
def execLoopEnableWrite (q : Requester) (n : Fin 64) (en : Bool) (s : State) : Outcome :=
  s.whenUp fun c => c.regWrite q (A.LOP_CFG n) (c.withBit (F.LOP_CFG_EN n) en)

/-- PLAUSIBILITY_CLEAR (R296). -/
def execPlausibilityClear (q : Requester) (n : Fin 64) (s : State) : Outcome :=
  s.whenUp fun c => c.regWrite q (A.LOP_STS n) (BitVec.ofNat 32 (2 ^ (F.LOP_STS_PLAUSIBILITY n).lo))

end Sys2Proof.Machine
end

