-- ==== Sys2Proof/Machine/Branch.lean ====
section
/-! DEFINITION. Branches, calls and returns (R87, R98 to R100). -/

namespace Sys2Proof.Machine

/-- OFF24, sign-extended, in bytes (R98). -/
def offBytes (b : Body) : Word := BitVec.ofInt 32 (4 * signed 24 b.toNat)

/-- An instance goes to a target by a control transfer. -/
def Run.goto (r : Run) (a : Word) : Run := { r with pc := a, via := some r.pc }

/-- A path slip counted (R66). -/
def slipped (c : Core) (slip : Bool) : Core := if slip then c.onDev fun d => d.tally 0x005 else c

/-- A branch taken or not; a target outside the active half traps at the branch (R98). -/
def branch (c : Core) (r : Run) (b : Body) (taken slip : Bool) : IRes :=
  .next (slipped c slip) (if taken then r.goto (r.pc + offBytes b) else r.advance)

/-- BRA. -/
def bra (c : Core) (t : Nat) (b : Body) : Core := c.instr t true {} fun c r _ => branch c r b true false

/-- BEQ to BUN: condition `k` of Table 4.5. -/
def branchCond (c : Core) (t : Nat) (k : Nat) (b : Body) (slip : Bool) : Core :=
  c.instr t true { fl := condReads k } fun c r v => branch c r b (condTrue k v.flags) slip

/-- BL0T and BL0F. -/
def branchL0 (c : Core) (t : Nat) (onTrue : Bool) (b : Body) (slip : Bool) : Core :=
  c.instr t true { l := [0] } fun c r v => branch c r b (v.getL 0 == onTrue) slip

/-- Whether the return stack is in TRAP mode: as the image says, or by the settings (R99). -/
def trapMode (d : Dev) : Bool :=
  match d.esc.image with
  | some im => if im.rsMode = 1 then true else if im.rsMode = 2 then false else d.cfgByte 4 / 16 % 4 ≠ 2
  | none => d.cfgByte 4 / 16 % 4 ≠ 2

/-- A call to a target whose own checks have passed: the overflow rules, then the push (R100). -/
def callTo (c : Core) (r : Run) (v : Regs) (a : Word) : IRes :=
  if (v.d = 16 && trapMode c.dev) || v.d = 255 then .trap tRS_OVERFLOW none
  else
    let regs := { r.regs with rs := v.rs.setIfInBounds (v.d % 16) (r.pc + 4), d := v.d + 1 }
    .next c ({ r with regs := regs, owned := { r.owned with rs := true }, noDorm := true }.goto a)

/-- CALL. -/
def callI (c : Core) (t : Nat) (b : Body) : Core :=
  c.instr t true { rs := true } fun c r v =>
    if c.inHalf (r.pc + offBytes b) then callTo c r v (r.pc + offBytes b) else .trap tACCESS none

/-- CALLR: the address in Ws. -/
def callr (c : Core) (t : Nat) (b : Body) : Core :=
  c.instr t (fldB b 23 20 = 0 && fldB b 15 0 = 0) { w := [fS b], rs := true } fun c r v =>
    let a := BitVec.ofNat 32 (v.getW (fS b))
    if !c.inHalf a then .trap tACCESS none
    else if a.toNat % 4 ≠ 0 then .trap tALIGN none
    else callTo c r v a

/-- RET: at D > 0 the return; at D = 0 the top-level return, which ends the instance and, at the head, commits it and
completes the cycle (R42, R55, R100). -/
def retI (c : Core) (t : Nat) (b : Body) : Core :=
  let c' := c.instr t (b = 0) { rs := true } fun c r v =>
    if v.d = 0 then .next c { r with exit := some { next := r.pc, top := true } }
    else
      let regs := { r.regs with rs := v.rs, d := v.d - 1 }
      .next c ({ r with regs := regs, owned := { r.owned with rs := true }, noDorm := true }.goto
        (v.rs.toList.getD ((v.d - 1) % 16) 0))
  match c'.dev.flight.head? with
  | some (t', r) => if t' = t && (r.exit.any fun e => e.top) then c'.commitHead else c'
  | none => c'

end Sys2Proof.Machine
end

