-- ==== Sys2Proof/Machine/ExecMem.lean ====
section
/-! DEFINITION. Loads, stores and control transfers (R96 to R100). -/

namespace Sys2Proof.Machine

/-- LOAD (R96). -/
def execLoad (tr : Fin 4) (k : LoadKind) (b : BitVec 24) (s : State) : Outcome :=
  s.whenUp fun c => c.load s.area tr k b

/-- STORE (R96). -/
def execStore (tr : Fin 4) (k : StoreKind) (b : BitVec 24) (s : State) : Outcome := s.whenUp fun c => c.store tr k b

/-- BRA (R98). -/
def execBra (tr : Fin 4) (b : BitVec 24) (s : State) : Outcome := s.whenUp fun c => Sys2Proof.Machine.bra c tr b

/-- BRANCH_IF_CONDITION (R87). -/
def execBranchIfCondition (tr : Fin 4) (cond : Fin 11) (b : BitVec 24) (slip : Bool) (s : State) : Outcome :=
  s.whenUp fun c => Sys2Proof.Machine.branchCond c tr cond b slip

/-- BL0T_BL0F (R98). -/
def execBl0tBl0f (tr : Fin 4) (onTrue : Bool) (b : BitVec 24) (slip : Bool) (s : State) : Outcome :=
  s.whenUp fun c => Sys2Proof.Machine.branchL0 c tr onTrue b slip

/-- CALL (R100). -/
def execCall (tr : Fin 4) (b : BitVec 24) (s : State) : Outcome := s.whenUp fun c => Sys2Proof.Machine.callI c tr b

/-- CALLR (R100). -/
def execCallr (tr : Fin 4) (b : BitVec 24) (s : State) : Outcome := s.whenUp fun c => Sys2Proof.Machine.callr c tr b

/-- RET (R100). -/
def execRet (tr : Fin 4) (b : BitVec 24) (s : State) : Outcome := s.whenUp fun c => Sys2Proof.Machine.retI c tr b

end Sys2Proof.Machine
end

