-- ==== Sys2Proof/Machine/ExecPower.lean ====
section
/-! DEFINITION. Commands of power, start-up and the SAFE flag (R5 to R14, R148, R379 to R382, R395, R396). -/

namespace Sys2Proof.Machine

/-- SUPPLIES_VALID (R380). -/
def execSuppliesValid (x : BootIn) (s : State) : Outcome := s.onCore fun c => c.suppliesValid s.otp x

/-- BRING_UP_END (R179). -/
def execBringUpEnd (s : State) : Outcome := s.whenUp fun c => c.endBringUp

/-- BOOT_END (R380). `cut`: the cut-off test of R318 passes. -/
def execBootEnd (cut : Bool) (s : State) : Outcome := s.whenUp fun c => c.bootEnd cut

/-- RESET_N_FALL (R379). -/
def execResetNFall (s : State) : Outcome := .next s.resetFall

/-- RESET_N_RISE (R379). -/
def execResetNRise (x : BootIn) (s : State) : Outcome := s.onCore fun c => c.resetRise s.otp x

/-- POWER_FAIL_WARNING (R379). -/
def execPowerFailWarning (s : State) : Outcome := .next s.warning

/-- KEEP_UNSEAL (R255). -/
def execKeepUnseal (s : State) : Outcome := .next s.unseal

/-- SUPPLY_INVALID (R396). -/
def execSupplyInvalid (s : State) : Outcome := .next s.supplyInvalid

/-- VFIELD_LOSS (R395). The field die has its own supply. -/
def execVfieldLoss (s : State) : Outcome := s.onCore fun c => c.onDev Dev.vfieldLoss

/-- ISLAND_POWER_UP (R148). The island has its own supply. -/
def execIslandPowerUp (s : State) : Outcome := s.onCore fun c => c.onDev Dev.islandUp

/-- SAFE_FLAG_WRITTEN (R7). -/
def execSafeFlagWritten (s : State) : Outcome := s.whenUp fun c => c.onDev Dev.safeFlagWritten

/-- SAFE_FLAG_CLEAR_WRITTEN (R7). -/
def execSafeFlagClearWritten (s : State) : Outcome := s.whenUp fun c => c.onDev Dev.safeFlagClear

/-- PACE_WINDOW_END (R14). -/
def execPaceWindowEnd (pace : BitVec 16) (s : State) : Outcome :=
  s.whenUp fun c => c.onDev fun d => d.paceWindow pace.toNat

end Sys2Proof.Machine
end

