-- ==== Sys2Proof/Machine/ExecSafe.lean ====
section
/-! DEFINITION. Commands of SAFE (R300 to R324). -/

namespace Sys2Proof.Machine

/-- A safety reset by a write of SAF_RESET or by a reset input, with the result of its cut-off test (R318, R319). -/
def Core.resetCommand (c : Core) (w : Option (Requester × Word)) (cut : Bool) : Core :=
  let c := match w with
    | some x => c.regWrite x.1 A.SAF_RESET x.2
    | none => c
  if c.dev.safe.resetPend then c.onDev fun d => d.safetyReset (if cut then 0 else 2) else c

/-- SAFETY_LANE_INBOUND_FRAME (R303). -/
def execSafetyLaneInboundFrame (x : LaneIn) (s : State) : Outcome :=
  s.whenUp fun c => c.onDev fun d => d.laneInbound (some x)

/-- SAFETY_LANE_OUTBOUND_FRAME (R303). -/
def execSafetyLaneOutboundFrame (good : Bool) (s : State) : Outcome :=
  s.whenUp fun c => c.onDev fun d => d.laneOutbound good

/-- SAFETY_LANE_TIMEOUT (R303). -/
def execSafetyLaneTimeout (s : State) : Outcome := s.whenUp fun c => c.onDev Dev.laneTimeout

/-- SI_FILTER_ACCEPT (R304). -/
def execSiFilterAccept (n : Fin 8) (level : Bool) (s : State) : Outcome :=
  s.whenUp fun c => c.onDev fun d => d.siAccept n level

/-- TEST_PULSE (R305). -/
def execTestPulse (stp : Fin 2) (low : BitVec 8) (s : State) : Outcome :=
  s.whenUp fun c => c.onDev fun d => d.testPulse stp low

/-- TEST_PULSE_EXTRA (R305). -/
def execTestPulseExtra (stp : Fin 2) (low : BitVec 8) (s : State) : Outcome :=
  s.whenUp fun c => c.onDev fun d => d.testPulseExtra stp low

/-- DISCREPANCY_EXPIRY (R306). -/
def execDiscrepancyExpiry (pair : Fin 4) (s : State) : Outcome :=
  s.whenUp fun c => c.onDev fun d => d.discrepancy pair

/-- SS1_EVALUATION (R309). -/
def execSs1Evaluation (axis : Fin 2) (s : State) : Outcome := s.whenUp fun c => c.onDev fun d => d.ss1Evaluate axis

/-- SSI_FRAME (R311). -/
def execSsiFrame (axis : Fin 2) (w : Word) (ok : Bool) (s : State) : Outcome :=
  s.whenUp fun c => c.onDev fun d => d.ssiFrame axis w ok

/-- ENCODER_EVALUATION (R313). `z`: a Z pulse since the last evaluation, at the present count. -/
def execEncoderEvaluation (axis : Fin 2) (illegal z : Bool) (s : State) : Outcome :=
  s.whenUp fun c => c.onDev fun d => d.encEvaluate axis illegal (if z then some (d.axis axis).inc else none)

/-- OFF_PULSE (R317). -/
def execOffPulse (n : Fin 4) (fell ret : Bool) (s : State) : Outcome :=
  s.whenUp fun c => c.onDev fun d => d.offPulse n fell ret

/-- OFF_PULSE_EXTRA (R317). -/
def execOffPulseExtra (n : Fin 4) (fell ret : Bool) (s : State) : Outcome :=
  s.whenUp fun c => c.onDev fun d => d.offPulseExtra n fell ret

/-- SQ_THERMAL_SHUTDOWN (R315). -/
def execSqThermalShutdown (n : Fin 4) (s : State) : Outcome := s.whenUp fun c => c.onDev fun d => d.sqThermal n

/-- SAFETY_RESET (R319). `w`: a write of SAF_RESET, none: a reset input; `cut`: the cut-off test of R318 passes. -/
def execSafetyReset (w : Option (Requester × Word)) (cut : Bool) (s : State) : Outcome :=
  s.whenUp fun c => c.resetCommand w cut

/-- SAF_REQ_WRITE (R316). -/
def execSafReqWrite (q : Requester) (v : Word) (s : State) : Outcome := s.whenUp fun c => c.regWrite q A.SAF_REQ v

/-- SAF_CONFIRM_WRITE (R322). -/
def execSafConfirmWrite (q : Requester) (v : Word) (s : State) : Outcome :=
  s.whenUp fun c => c.regWrite q A.SAF_CONFIRM v

/-- SIGNATURE_CHECK (R322). -/
def execSignatureCheck (res : Fin 3) (s : State) : Outcome := s.whenUp fun c => c.onDev fun d => d.signatureCheck res

end Sys2Proof.Machine
end

