-- ==== Sys2Proof/Machine/ExecService.lean ====
section
/-! DEFINITION. Commands of the service port, of resole and of OTP (R215 to R240, R371 to R378). -/

namespace Sys2Proof.Machine

/-- A frame of the service port that carries no accepted message (R371, R372). -/
def Dev.frameRefused (d : Dev) (reason : Nat) : Dev :=
  if reason = 1 then d.frameDrop.authFail 0x43
  else if reason = 2 then
    match d.svc.sess with
    | some x =>
      if x.busy.isSome then d.frameDrop
      else
        let n := (x.seq + 1) % 65536
        (((d.modSess fun y => { y with seq := n, busy := some 0xFF, lastAt := d.tb }).fset F.SVC_SESS_SEQ n).tally 0xF00).respond
          sBAD_ARG []
    | none => d.frameDrop.authFail 0x43
  else d.frameDrop

/-- The rewriting of a migration, while KEEP writes pages (R239). -/
def Core.migrationPass (c : Core) : Core :=
  if c.dev.fbit F.SVC_MIGR_BUSY && !c.dev.keep.migrating && !c.dev.fbit F.KEP_STAT_SEALED then c.migrateRecords else c

/-- The commit of a migration, once every record is rewritten (R239). -/
def Core.migrationEnd (c : Core) : Core :=
  if c.dev.keep.migrating && !c.dev.fbit F.KEP_STAT_SEALED && c.dev.keep.pend.isNone then
      c.migrationCommit c.dev.beatNo else c

/-- IDENT (R373). -/
def execIdent (seq : BitVec 16) (s : State) : Outcome := s.whenUp fun c => c.onDev fun d => d.ident seq

/-- OPEN (R373). -/
def execOpenSession (seq : BitVec 16) (payload : List Byte) (s : State) : Outcome :=
  s.whenUp fun c => c.onDev fun d => d.openSession s.otp seq payload

/-- LOCKOUT_END (R373). -/
def execLockoutEnd (s : State) : Outcome := s.whenUp fun c => c.onDev Dev.lockoutEnd

/-- SESSION_TIMEOUT (R372). -/
def execSessionTimeout (s : State) : Outcome := s.whenUp fun c => c.onDev Dev.sessionTimeout

/-- READ (R374). -/
def execRead (r : SspReq) (s : State) : Outcome :=
  s.whenUp fun c => c.request 0x10 r Core.upStates fun c => c.serviceRead s.area r.payload

/-- WRITE (R374). -/
def execWrite (r : SspReq) (s : State) : Outcome :=
  s.whenUp fun c => c.request 0x11 r Core.upStates fun c => c.serviceWrite r.payload

/-- IMAGE_BEGIN (R220). -/
def execImageBegin (r : SspReq) (s : State) : Outcome :=
  s.whenUp fun c => c.request 0x20 r Core.upStates fun c => c.unlessBurning fun c => c.imageBegin r.payload

/-- IMAGE_DATA (R221). -/
def execImageData (r : SspReq) (s : State) : Outcome :=
  s.whenUp fun c => c.request 0x21 r Core.upStates fun c => c.unlessBurning fun c => c.imageData r.payload

/-- IMAGE_END (R222). -/
def execImageEnd (r : SspReq) (s : State) : Outcome :=
  s.whenUp fun c => c.request 0x22 r Core.upStates fun c => c.unlessBurning fun c => c.imageEnd

/-- RESOLE (R230). -/
def execResole (r : SspReq) (s : State) : Outcome :=
  s.whenUp fun c => c.request 0x23 r [.stop, .run] fun c => c.unlessBurning fun c => c.resole r.payload

/-- PRE_CARRY_PASS (R230). -/
def execPreCarryPass (s : State) : Outcome := s.whenUp fun c => c.preCarry

/-- RESOLE_TIMEOUT (R236). -/
def execResoleTimeout (s : State) : Outcome := s.whenUp fun c => c.onDev Dev.rslTimeout

/-- MIGRATION (R239). -/
def execMigration (s : State) : Outcome := s.whenUp fun c => c.migrationPass

/-- MIGRATION_COMMIT (R239). -/
def execMigrationCommit (s : State) : Outcome := s.whenUp fun c => c.migrationEnd

/-- RUN (R374). -/
def execRun (r : SspReq) (s : State) : Outcome := s.whenUp fun c => c.request 0x30 r [.stop] fun c => c.runCmd

/-- STOP (R374). -/
def execStop (r : SspReq) (s : State) : Outcome := s.whenUp fun c => c.request 0x31 r [.run, .safe] fun c => c.stopCmd

/-- STEP (R30). -/
def execStep (r : SspReq) (s : State) : Outcome := s.whenUp fun c => c.request 0x32 r [.stop] fun c => c.stepCmd

/-- OTP_BURN (R377). -/
def execOtpBurn (r : SspReq) (s : State) : Outcome :=
  s.whenUp fun c => c.request 0x40 r Core.upStates fun c => c.unlessBurning fun c => c.otpBurn s.otp

/-- OTP_BURN_DONE (R377). `ok`: every word verified. -/
def execOtpBurnDone (ok : Bool) (s : State) : Outcome :=
  if s.powered then .next { s with otp := (s.core.otpBurnDone s.otp ok).1, core := (s.core.otpBurnDone s.otp ok).2 } else .next s

/-- RECORDER_READ (R374). -/
def execRecorderRead (r : SspReq) (s : State) : Outcome :=
  s.whenUp fun c => c.request 0x50 r Core.upStates fun c => c.recorderRead s.area r.payload

/-- HEALTH (R26). -/
def execHealth (r : SspReq) (s : State) : Outcome :=
  s.whenUp fun c => c.request 0x51 r Core.upStates fun c => c.health

/-- SERVICE_FRAME_DROPPED (R371). `reason` 1: a TAG or SESSION that fails; 2: an unlisted CMD in a tagged request;
any other: a frame that is dropped. -/
def execServiceFrameDropped (reason : Nat) (s : State) : Outcome :=
  s.whenUp fun c => c.onDev fun d => d.frameRefused reason

end Sys2Proof.Machine
end

