-- ==== Sys2Proof/Machine/Timers.lean ====
section
/-! DEFINITION. The timer instructions TON, TOF, TP, RTO and TEL (R101 to R105, R63, R140). -/

namespace Sys2Proof.Machine

/-- A slot as an instance sees it: its own update, an older instance's, or the committed state (R63); whether the
update came by forwarding. -/
def slotSeen (c : Core) (r : Run) (n : Nat) : Slot × Bool :=
  match r.slots.find? fun s => s.1 = n with
  | some s => (s.2, false)
  | none =>
    match (c.dev.olderRuns r.age).findSome? fun x => (x.slots.find? fun s => s.1 = n).map (·.2) with
    | some s => (s, true)
    | none => (alGet n ({} : Slot) c.dev.slots, false)

/-- The group of slot storage that holds a slot (R140). -/
def slotGroup (n : Nat) : Nat := 0x3000_0000 / 32 + n / 2

/-- What reading a slot gives. -/
inductive SlotRead where
  | ok (c : Core) (r : Run) (s : Slot)
  | wait (w : Wait)
  | trap (code : Nat)
  | poison (c : Core)

/-- A slot read by a timer instruction in the same way as a load (R63), with the checks of R101 and R140. -/
def readSlot (c : Core) (t : Nat) (r : Run) (n : Nat) : SlotRead :=
  let g := 65536 + n
  let own := r.slots.any fun s => s.1 = n
  let seen := slotSeen c r n
  let c' := if own || seen.2 then c else (c.readGroup (slotGroup n)).1
  let s := (slotSeen c' r n).1
  let now := alGet n ({} : Slot) c'.dev.slots
  if now.poison then .poison c'
  else if !(now.assigned && now.owner = r.task) then .trap tTIMER_SLOT
  else
    let r' := if own || c.isHead t then r else Core.addReads r [g]
    if 128 < r'.reads.length then .wait .readList
    else .ok (if seen.2 then c'.onDev fun d => d.tally 0x00E else c') { r' with noDorm := true } s

/-- A slot before its evaluation at time `t` (R102). -/
def slotInit (s : Slot) (t : Nat) : Slot :=
  if s.new then { s with et := 0, sub := 0, inPrev := false, q := false, run := false, last := t, new := false } else s

/-- "Advance ET by d" (R102), in 64-bit arithmetic. -/
def slotAdvance (s : Slot) (pt d : Nat) : Slot :=
  if s.et < pt then
    let ns := (s.sub + d) % 2 ^ 64
    { s with et := min pt (s.et + ns / 1000), sub := ns % 1000 }
  else s

/-- ET and SUB zero. -/
def slotZero (s : Slot) : Slot := { s with et := 0, sub := 0 }

/-- TON on an initialised slot: the slot and Q (R103). -/
def tonStep (s : Slot) (x _ : Bool) (pt d : Nat) : Slot × Bool :=
  let s := if !x || !s.inPrev then slotZero s else slotAdvance s pt d
  (s, x && decide (pt ≤ s.et))

/-- TOF. -/
def tofStep (s : Slot) (x _ : Bool) (pt d : Nat) : Slot × Bool :=
  let p := s.inPrev
  let s :=
    if x then { slotZero s with q := true, run := false }
    else if p then { slotZero s with run := true }
    else if s.run then slotAdvance s pt d
    else s
  let s := if s.run && decide (pt ≤ s.et) then { s with q := false, run := false } else s
  (s, s.q)

/-- TP. -/
def tpStep (s : Slot) (x _ : Bool) (pt d : Nat) : Slot × Bool :=
  let p := s.inPrev
  let s :=
    if s.run then
      let a := slotAdvance s pt d
      if pt ≤ a.et then { a with run := false } else a
    else if x && !p then { slotZero s with run := decide (0 < pt) }
    else if !x then slotZero s
    else s
  (s, s.run)

/-- RTO, with its reset `r`. -/
def rtoStep (s : Slot) (x r : Bool) (pt d : Nat) : Slot × Bool :=
  let s := if r then slotZero s else if x && s.inPrev then slotAdvance s pt d else s
  (s, !r && decide (pt ≤ s.et))

/-- The slot after a whole evaluation at release-beat time `t`, and Q (R102, R103). -/
def slotEval (step : Slot → Bool → Bool → Nat → Nat → Slot × Bool) (s : Slot) (t pt : Nat) (x r : Bool) : Slot × Bool :=
  let s := slotInit s t
  let y := step s x r pt ((t + 2 ^ 64 - s.last) % 2 ^ 64)
  ({ y.1 with inPrev := x, last := t, q := y.2 }, y.2)

/-- SLOT of formats T and of TEL. -/
def fSlot (b : Body) : Nat := fldB b 11 0

/-- The shape of the timer instructions. -/
def timer (c : Core) (t : Nat) (b : Body) (rto : Bool) (step : Slot → Bool → Bool → Nat → Nat → Slot × Bool) : Core :=
  c.instr t (fldB b 16 12 = 0 && (!rto || decide (fL b ≤ 6)))
      { w := [fP b], l := if rto then [fL b, fL b + 1] else [fL b] } fun c r v =>
    match readSlot c t r (fSlot b) with
    | .wait w => .wait w
    | .trap code => .trap code none
    | .poison c => .poison c none
    | .ok c r s =>
      if Core.needsSplit r [65536 + fSlot b] then .split
      else
        let y := slotEval step s (c.dev.task r.task).relTime (v.getW (fP b)) (v.getL (fL b)) (v.getL (fL b + 1))
        let r := { r with slots := alPut (fSlot b) y.1 r.slots }
        .next (c.touch r.age (65536 + fSlot b)) (r.putL (fL b) y.2).advance

/-- TON. -/
def ton (c : Core) (t : Nat) (b : Body) : Core := timer c t b false tonStep
/-- TOF. -/
def tof (c : Core) (t : Nat) (b : Body) : Core := timer c t b false tofStep
/-- TP. -/
def tp (c : Core) (t : Nat) (b : Body) : Core := timer c t b false tpStep
/-- RTO. -/
def rto (c : Core) (t : Nat) (b : Body) : Core := timer c t b true rtoStep

/-- TEL: Wd = ET of a slot; a slot with NEW set reads 0 (R105). -/
def tel (c : Core) (t : Nat) (b : Body) : Core :=
  c.instr t (fldB b 19 12 = 0) {} fun c r _ =>
    match readSlot c t r (fSlot b) with
    | .wait w => .wait w
    | .trap code => .trap code none
    | .poison c => .poison c none
    | .ok c r s => .next c (r.putW (fD b) (if s.new then 0 else s.et)).advance

end Sys2Proof.Machine
end

