-- ==== Sys2Proof/Machine/ExecSystem.lean ====
section
/-! DEFINITION. The system instructions and TEL (R55, R105, R109 to R111, R343). -/

namespace Sys2Proof.Machine

/-- NOP (R83). -/
def execNop (tr : Fin 4) (b : BitVec 24) (s : State) : Outcome := s.whenUp fun c => Sys2Proof.Machine.nop c tr b

/-- STRAND (R55). -/
def execStrand (tr : Fin 4) (b : BitVec 24) (s : State) : Outcome := s.whenUp fun c => Sys2Proof.Machine.strand c tr b

/-- ALERT (R109). -/
def execAlert (tr : Fin 4) (b : BitVec 24) (s : State) : Outcome := s.whenUp fun c => Sys2Proof.Machine.alertI c tr b

/-- CHKIN (R343). -/
def execChkin (tr : Fin 4) (b : BitVec 24) (s : State) : Outcome := s.whenUp fun c => Sys2Proof.Machine.chkin c tr b

/-- RECEV (R109). -/
def execRecev (tr : Fin 4) (b : BitVec 24) (s : State) : Outcome := s.whenUp fun c => Sys2Proof.Machine.recev c tr b

/-- TIME (R110). -/
def execTime (tr : Fin 4) (b : BitVec 24) (s : State) : Outcome := s.whenUp fun c => Sys2Proof.Machine.timeI c tr b

/-- TSLIVE (R111). -/
def execTslive (tr : Fin 4) (b : BitVec 24) (s : State) : Outcome := s.whenUp fun c => Sys2Proof.Machine.tslive c tr b

/-- GETF (R83). -/
def execGetf (tr : Fin 4) (b : BitVec 24) (s : State) : Outcome := s.whenUp fun c => Sys2Proof.Machine.getf c tr b

/-- PUTF (R83). -/
def execPutf (tr : Fin 4) (b : BitVec 24) (s : State) : Outcome := s.whenUp fun c => Sys2Proof.Machine.putf c tr b

/-- TEL (R105). -/
def execTel (tr : Fin 4) (b : BitVec 24) (s : State) : Outcome := s.whenUp fun c => Sys2Proof.Machine.tel c tr b

end Sys2Proof.Machine
end

