-- ==== Sys2Proof/Machine/ExecTime.lean ====
section
/-! DEFINITION. Commands of REGULATOR: trim, discipline, slots and calendar (R127 to R152). -/

namespace Sys2Proof.Machine

/-- REG_TRIM_WRITE (R128). -/
def execRegTrimWrite (q : Requester) (v : Word) (s : State) : Outcome := s.whenUp fun c => c.regWrite q A.REG_TRIM v

/-- HOLDOVER_ENTRY (R134). -/
def execHoldoverEntry (s : State) : Outcome := s.whenUp fun c => c.onDev Dev.holdover

/-- REG_SLOT_SEL_WRITE (R139). -/
def execRegSlotSelWrite (q : Requester) (v : Word) (s : State) : Outcome :=
  s.whenUp fun c => c.regWrite q A.REG_SLOT_SEL v

/-- CAL_LATCH (R143). -/
def execCalLatch (q : Requester) (s : State) : Outcome := s.whenUp fun c => c.regWrite q A.REG_CAL_CMD 1

/-- CAL_COMMIT (R144). -/
def execCalCommit (q : Requester) (s : State) : Outcome := s.whenUp fun c => c.regWrite q A.REG_CAL_CMD 2

/-- CAL_DST_PLUS_1H (R146). -/
def execCalDstPlus1h (q : Requester) (s : State) : Outcome := s.whenUp fun c => c.regWrite q A.REG_CAL_CMD 3

/-- CAL_DST_MINUS_1H (R146). -/
def execCalDstMinus1h (q : Requester) (s : State) : Outcome := s.whenUp fun c => c.regWrite q A.REG_CAL_CMD 4

/-- CALENDAR_SECOND (R141). The island counts on its own supply. -/
def execCalendarSecond (s : State) : Outcome := s.onCore fun c => c.onDev Dev.calSecond

/-- CAL_OSC_STOP (R148). -/
def execCalOscStop (s : State) : Outcome := s.whenUp fun c => c.onDev Dev.calOscStop

/-- VBAK_CHECK (R148). `mv`: VBAK in mV. -/
def execVbakCheck (mv : Nat) (s : State) : Outcome :=
  s.whenUp fun c => c.onDev fun d => d.fput F.REG_CAL_STAT_VBAK_LOW (mv < 2200)

/-- CAL_WAKE_WRITE (R151). -/
def execCalWakeWrite (q : Requester) (v : Word) (s : State) : Outcome :=
  s.whenUp fun c => c.regWrite q A.REG_CAL_WAKE v

/-- CAL_WAKE_DUE (R151). -/
def execCalWakeDue (s : State) : Outcome := s.whenUp fun c => c.onDev Dev.wakeNow

end Sys2Proof.Machine
end

