-- ==== Sys2Proof/Machine/Complication.lean ====
section
/-! DEFINITION. Complications (R113 to R122): the micro-operation machine, whose outputs take effect together. -/

namespace Sys2Proof.Machine

/-- An output of a sequence, in program order (R119). -/
inductive MicroOut where
  | wd (i v : Nat)
  | ln (n : Nat) (v : Bool)
  | flags (f : FlagWrite)
  | mem (as names : List Nat) (v : Nat)
  | page (a v : Nat)
  | bit (a name pos : Nat) (v : Bool)
  deriving DecidableEq, Repr

/-- The micro-operation machine: T0 to T7, the internal condition as FLAGS bits, and the outputs so far (R117). -/
structure Micro where
  t : List Nat := List.replicate 8 0
  cond : Word := 0
  outs : List MicroOut := []

/-- What one execution of a sequence works on. -/
structure MicroEnv where
  train : Nat
  area : Area
  bits : Body              -- the instruction's bits [23:0]
  entry : CpxEntry
  regs : Regs              -- the registers as they stood before the instruction (R119)

namespace MicroEnv

/-- A source operand (Table 5.3). -/
def src (e : MicroEnv) (m : Micro) (s : Nat) : Nat :=
  if s < 8 then m.t.getD s 0
  else
    match s with
    | 0x8 => e.regs.getW (fD e.bits)
    | 0x9 => e.regs.getW (fS e.bits)
    | 0xA => e.regs.getW (fT e.bits)
    | 0xB => e.regs.getW (fD e.bits + 1)
    | 0xC => e.regs.getW (fS e.bits + 1)
    | 0xD => if e.entry.eflags / 8 % 2 = 1 then fImm12 e.bits else sext12 e.bits
    | _ => 0

end MicroEnv

/-- The ALU of Table 5.5: the result, and z, n, c, v. -/
def microAlu (op x y : Nat) : Nat × Word :=
  let plain (r : Nat) : Nat × Word := (r, (znu 32 r).val)
  let s (i : Nat) : Int := signed 32 i
  match op with
  | 0x0 => let r := addRes 32 x y; (r.1, r.2.val)
  | 0x1 => let r := subRes 32 x y; (r.1, r.2.val)
  | 0x2 => plain (x &&& y)
  | 0x3 => plain (x ||| y)
  | 0x4 => plain (x ^^^ y)
  | 0x5 => plain (shlRes 32 x (y % 32)).1
  | 0x6 => plain (shrRes 32 x (y % 32)).1
  | 0x7 => plain (sarRes 32 x (y % 32)).1
  | 0x8 => plain (rolRes 32 x (y % 32)).1
  | 0x9 => let r := mulRes 32 x y; (r.1, r.2.val)
  | 0xA => plain (if s x ≤ s y then x else y)
  | 0xB => plain (if s x ≤ s y then y else x)
  | 0xC => plain (min x y)
  | 0xD => plain (max x y)
  | 0xE => plain (clz32 x)
  | _ => plain 0

/-- The bytes of a micro LD or ST by its size code. -/
def microSize (w : Nat) : Nat := if bitsOf w 13 12 = 0 then 1 else if bitsOf w 13 12 = 1 then 2 else 4

/-- The address of a micro LD or ST: SRCA + sext(OFF) × size. -/
def microAddr (a w : Nat) : Nat := unsigned 32 ((a : Int) + signed 12 w * microSize w)

namespace Core

/-- The outputs of a finished sequence take effect together (R119). -/
def microApply (c : Core) (r : Run) (n : Nat) (outs : List MicroOut) : Core × Run :=
  outs.foldl (fun (x : Core × Run) o =>
    let c := x.1
    let r := x.2
    match o with
    | .wd i v => (c, r.putW i v)
    | .ln i v => (c, r.putL i v)
    | .flags f => (c, r.putF f)
    | .mem as names v => c.storeMem r (as.zip (leBytes as.length v)) names
    | .bit a name pos v =>
      let b := setBits (c.readByte r a).toNat pos pos (if v then 1 else 0)
      c.storeMem r [(a, BitVec.ofNat 8 b)] [name]
    | .page a v =>
      if a = A.WDG_SVC then (c, { r with effects := r.effects ++ [Effect.service (BitVec.ofNat 32 v)] })
      else if r.pagePos < r.pageLog.length then (c, { r with pagePos := r.pagePos + 1 })
      else (c.pageWrite .program a (BitVec.ofNat 32 v) (c.dev.task n).relTime,
        { r with pageLog := r.pageLog ++ [0], pagePos := r.pagePos + 1 })) (c, r)

/-- A trap of a micro-operation carries its index, and the effect of the reads before it stands (R121). -/
def atIndex (c : Core) (i : Nat) : IRes → IRes
  | .trap code none => .trapAt c code (some i)
  | .poison c none => .poison c (some i)
  | x => x

/-- The micro-operations from index `i` on; `n` bounds them (Table 5.4). -/
def micro (e : MicroEnv) : Nat → Nat → Core → Run → Micro → IRes
  | 0, _, c, r, m => let x := c.microApply r r.task m.outs; .next x.1 x.2.advance
  | n + 1, i, c, r, m =>
    if e.entry.ops.length ≤ i then
      let x := c.microApply r r.task m.outs
      .next x.1 x.2.advance
    else
      let w := (e.entry.ops.getD i 0).toNat
      let dst := bitsOf w 27 24
      let a := e.src m (bitsOf w 23 20)
      let b := e.src m (bitsOf w 19 16)
      let put (m : Micro) (v : Nat) : Micro := { m with t := m.t.set dst v }
      let out (m : Micro) (o : MicroOut) : Micro := { m with outs := m.outs ++ [o] }
      match bitsOf w 31 28 with
      | 0x1 => micro e n (i + 1) c r (put m a)
      | 0x2 =>
        if bitsOf w 15 15 = 1 then micro e n (i + 1) c r (put m (if e.regs.getL (fL e.bits) then 1 else 0))
        else
          atIndex c i (bitLoad c e.train r (fBit e.bits) fun c r v => micro e n (i + 1) c r (put m (if v then 1 else 0)))
      | 0x3 =>
        let x := microAlu (bitsOf w 3 0) a b
        let m := put m x.1
        micro e n (i + 1) c r (if bitsOf w 4 4 = 1 then { m with cond := x.2 } else m)
      | 0x4 =>
        let v := bitsOf a (bitsOf w 9 5 + bitsOf w 4 0) (bitsOf w 9 5)
        micro e n (i + 1) c r (put m (if bitsOf w 10 10 = 1 then unsigned 32 (signed (bitsOf w 4 0 + 1) v) else v))
      | 0x5 =>
        micro e n (i + 1) c r (put m (setBits (m.t.getD dst 0) (bitsOf w 9 5 + bitsOf w 4 0) (bitsOf w 9 5) a))
      | 0x6 => micro e n (i + 1) c r (put m (permute (a + b * 2 ^ 32) (bitsOf w 15 0)))
      | 0x7 =>
        let size := microSize w
        let ea := microAddr a w
        let val (v : Nat) : Nat := if bitsOf w 14 14 = 1 then unsigned 32 (signed (8 * size) v) else v
        match c.access r.task false ea size with
        | .error code => .trapAt c code (some i)
        | .ok (.mem as) =>
          match c.readMem e.train r as ((List.range size).map (ea + ·)) with
          | .ok c r bs => micro e n (i + 1) c r (put m (val (leNat bs)))
          | .wait w => .wait w
          | .poison c => .poison c (some i)
        | .ok (.code p) => let x := c.mramRead p size; micro e n (i + 1) x.1 r (put m (val x.2))
        | .ok p => c.headLoad e.train r e.area p size fun c r v => micro e n (i + 1) c r (put m (val v))
      | 0x8 =>
        let size := microSize w
        let ea := microAddr a w
        match c.access r.task true ea size with
        | .error code => .trapAt c code (some i)
        | .ok (.mem as) => micro e n (i + 1) c r (out m (.mem as ((List.range size).map (ea + ·)) b))
        | .ok (.page p) =>
          if !c.isHead e.train then .wait .head
          else micro e n (i + 1) c { r with noDorm := true } (out m (.page (p - 0x40000000) b))
        | .ok _ => .trapAt c tACCESS (some i)
      | 0x9 =>
        let f : FlagWrite := { mask := BitVec.ofNat 32 (bitsOf w 4 0), val := m.cond,
                               sticky := BitVec.ofNat 32 (bitsOf w 13 8 * 256) }
        micro e n (i + 1) c r (out m (.flags f))
      | 0xA =>
        match bitsOf w 15 14 with
        | 0 => micro e n (i + 1) c r (out m (.wd (fD e.bits) a))
        | 1 => micro e n (i + 1) c r (out m (.wd (fD e.bits + 1) a))
        | 2 => micro e n (i + 1) c r (out m (.ln (fL e.bits) (a % 2 = 1)))
        | _ =>
          match c.place r.task true (bitByte (fBit e.bits)) 1 with
          | .mem as =>
            match c.readMem e.train r as [bitByte (fBit e.bits)] with
            | .ok c r _ => micro e n (i + 1) c r
                (out m (.bit (as.getD 0 0) (bitByte (fBit e.bits)) (bitPos (fBit e.bits)) (a % 2 = 1)))
            | .wait w => .wait w
            | .poison c => .poison c (some i)
          | _ => .trapAt c tACCESS (some i)
      | 0xB =>
        let k := bitsOf w 15 0
        micro e n (i + 1) c r (put m (if bitsOf w 23 20 = 0 then k else setBits (m.t.getD dst 0) 31 16 k))
      | 0xC =>
        let cond := bitsOf w 3 0
        let holds := cond = 0xF || condTrue cond m.cond
        micro e n (if holds then i + 1 + bitsOf w 9 4 else i + 1) c r m
      | 0xD => .trapAt c (0x10 + bitsOf w 3 0) (some i)
      | _ => micro e n (i + 1) c r m

/-- The registers an entry's micro-operations read (R61). -/
def microSrcs (x : CpxEntry) (b : Body) : Srcs :=
  let sels (w : Word) : List Nat :=
    let k := bitsOf w.toNat 31 28
    if k = 0xB || k = 2 || k = 9 || k = 0xC || k = 0xD then [] else [bitsOf w.toNat 23 20, bitsOf w.toNat 19 16]
  let all := x.ops.flatMap sels
  let regs := [(0x8, fD b), (0x9, fS b), (0xA, fT b), (0xB, fD b + 1), (0xC, fS b + 1)]
  { w := (regs.filter fun y => all.contains y.1).map (·.2),
    l := if x.ops.any fun w => bitsOf w.toNat 31 28 = 2 && w.getLsbD 15 then [fL b] else [] }

/-- The let-down entries that a sequence could need (R120). -/
def microStores (x : CpxEntry) : Nat :=
  (x.ops.filter fun w => bitsOf w.toNat 31 28 = 8 || (bitsOf w.toNat 31 28 = 0xA && bitsOf w.toNat 15 14 = 3)).length

/-! ### The decode bank under the group code (R124) -/

/-- The groups of the active bank that hold entry `k`, as the table lays it out (R113, R242; DEDUCED, log entry 65). -/
def bankGroups (d : Dev) (k count : Nat) : List Nat :=
  let base := (0x3100_0000 + 0x10000 * d.mov.bankNo) / 32
  let a := 32 + 272 * k
  (List.range ((a + 16 + 4 * count - 1) / 32 + 1 - a / 32)).map fun i => base + a / 32 + i

/-- The groups of an entry are read: a correctable one is corrected and written back, and for one that cannot be the
entry is loaded again from the code store, which is the retry. Answers whether the entry may be used: where the code
store cannot give it either, the fault is lasting (R124). -/
def bankRead (c : Core) (k count : Nat) : Core × Bool :=
  (bankGroups c.dev k count).foldl (fun (x : Core × Bool) g =>
    let c := x.1
    match c.readClass g [] with
    | .clean => x
    | .correctable p v => (noteCorr { c with mem := writeBack c.mem g p v } g, x.2)
    | _ =>
      let h := match c.dev.esc.image with | some im => im.half | none => 0
      let y := (noteUncorr c g).readGroup ((halfBase h + tableOfs) / 32 + g % 2048)
      if y.2 then
        (({ y.1 with mem := y.1.mem.setErrs g [] }).onDev fun d =>
          (d.transient 2).occurBlk 13 F.WKM_EVT_UNCORR.lo 5, x.2)
      else (y.1.onDev fun d => (d.lasting 2 5).safeFault, false)) (c, true)

/-- COMPLICATION with opcode 0xE0 + `k` (R116 to R121, R124). The fields of the bits that PAIR_D, PAIR_S and WRR name
are those of the word form in a bit-form entry too (R116, DESIGN CHOICE, log entry 64). -/
def complication (c : Core) (area : Area) (t k : Nat) (b : Body) : Core :=
  let bank := c.dev.mov.bank
  match c.dev.run t with
  | none => c
  | some r0 =>
    if !bank.present.getLsbD k then
      (if r0.opened && r0.exit.isNone then c.trapOrWait t r0 tILLEGAL_OP none else c)
    else
      let x := bank.entries.getD k { count := 0, eflags := 0, ops := [] }
      let legal := (x.eflags / 2 % 2 = 0 || pairOk (fD b)) && (x.eflags / 4 % 2 = 0 || pairOk (fS b))
      let y := if r0.opened && r0.exit.isNone then c.bankRead k x.count else (c, true)
      if !y.2 then y.1.waitFor t r0 .bank
      else y.1.instr t legal (microSrcs x b) fun c r v =>
        if 64 < (bufGroups r).length + microStores x then .split
        else micro { train := t, area := area, bits := b, entry := x, regs := v } x.ops.length 0 c r {}

end Core

end Sys2Proof.Machine
end

