-- ==== Sys2Proof/Machine/Counters.lean ====
section
/-! DEFINITION. The counter instructions CTU, CTD and CTUD in their four types (R106 to R108). -/

namespace Sys2Proof.Machine

/-- lo and hi of the counter types, in the order .H, .W, .UW, .D of the opcodes. -/
def cntLo (k : Nat) : Int := match k with | 0 => -32768 | 1 => -2 ^ 31 | 2 => 0 | _ => -2 ^ 63
def cntHi (k : Nat) : Int := match k with | 0 => 32767 | 1 => 2 ^ 31 - 1 | 2 => 2 ^ 32 - 1 | _ => 2 ^ 63 - 1

/-- PV of a counter type from the P field, clamped into the type's range. -/
def cntPv (k : Nat) (v : Regs) (p : Nat) : Int :=
  clampI (cntLo k) (cntHi k)
    (match k with
     | 0 => signed 16 (v.getW p)
     | 1 => signed 32 (v.getW p)
     | 2 => (v.getW p : Int)
     | _ => signed 64 (v.getD p))

/-- A counter record's fields: CV clamped, PREV_CU, PREV_CD, OVF (Table 4.8). -/
structure Cnt where
  cv : Int
  pcu : Bool
  pcd : Bool
  ovf : Bool
  deriving DecidableEq, Repr

/-- CTU: inputs CU and R; the record and Q. -/
def ctuStep (_lo hi pv : Int) (n : Cnt) (cu r : Bool) : Cnt × Bool :=
  let edge := !r && cu && !n.pcu
  let m : Cnt := if r then { n with cv := 0, ovf := false } else n
  let m := if edge then (if m.cv = hi then { m with ovf := true } else { m with cv := m.cv + 1 }) else m
  ({ m with pcu := cu }, decide (pv ≤ m.cv))

/-- CTD: inputs CD and LD. -/
def ctdStep (lo _hi pv : Int) (n : Cnt) (cd ld : Bool) : Cnt × Bool :=
  let edge := !ld && cd && !n.pcd
  let m : Cnt := if ld then { n with cv := pv, ovf := false } else n
  let m := if edge then (if m.cv = lo then { m with ovf := true } else { m with cv := m.cv - 1 }) else m
  ({ m with pcd := cd }, decide (m.cv ≤ 0))

/-- CTUD: inputs CU, CD, R and LD; the record, QU and QD. -/
def ctudStep (lo hi pv : Int) (n : Cnt) (cu cd r ld : Bool) : Cnt × Bool × Bool :=
  let up := cu && !n.pcu
  let dn := cd && !n.pcd
  let m : Cnt :=
    if r then { n with cv := 0, ovf := false } else if ld then { n with cv := pv, ovf := false } else n
  let step := !r && !ld && up != dn
  let m :=
    if step && up then (if m.cv = hi then { m with ovf := true } else { m with cv := m.cv + 1 })
    else if step && dn then (if m.cv = lo then { m with ovf := true } else { m with cv := m.cv - 1 })
    else m
  ({ m with pcu := cu, pcd := cd }, decide (pv ≤ m.cv), decide (m.cv ≤ 0))

/-- The fields of a record's bytes 0 to 8. -/
def cntOf (k : Nat) (bs : List Byte) : Cnt :=
  let f := bs.getD 8 0
  { cv := clampI (cntLo k) (cntHi k) (signed 64 (leNat (bs.take 8))),
    pcu := f.getLsbD 0, pcd := f.getLsbD 1, ovf := f.getLsbD 2 }

/-- Bytes 0 to 8 of a record. -/
def cntBytes (n : Cnt) : List Byte :=
  leBytes 8 (unsigned 64 n.cv) ++ [BitVec.ofNat 8 (Dev.b2n n.pcu + 2 * Dev.b2n n.pcd + 4 * Dev.b2n n.ovf)]

/-- The shape of the counter instructions: `n` accumulators, the type `k`, and the step from the inputs Ln upward to
the record and the outputs from Ln upward. The access checks cover all 16 bytes of the record, though only bytes 0 to
8 are read and written (R106, DESIGN CHOICE, log entry 64). -/
def counter (c : Core) (t : Nat) (b : Body) (k n : Nat) (step : Int → Cnt → List Bool → Cnt × List Bool) : Core :=
  c.instr t (decide (fL b + n ≤ 8) && (k ≠ 3 || pairOk (fP b)))
      { w := (if k = 3 then pairW (fP b) else [fP b]) ++ [fldB b 16 13],
        l := (List.range n).map (fL b + ·) } fun c r v =>
    let a := (v.getW (fldB b 16 13) + 16 * fldB b 12 0) % 2 ^ 32
    let p := c.place r.task true a 16
    match Core.accessTrap p a 16 with
    | some code => .trap code none
    | none =>
      let as := (List.range 9).map (a + ·)
      if Core.needsSplit r [a / 32] then .split
      else
        match c.readMem t r as as with
        | .wait w => .wait w
        | .poison c => .poison c none
        | .ok c r bs =>
          let y := step (cntPv k v (fP b)) (cntOf k bs) ((List.range n).map fun i => v.getL (fL b + i))
          let s := c.storeMem r (as.zip (cntBytes y.1)) as
          let r := ((List.range y.2.length).zip y.2).foldl (fun (r : Run) (o : Nat × Bool) => r.putL (fL b + o.1) o.2) s.2
          .next s.1 r.advance

/-- CTU: outputs Q and OVF. -/
def ctu (c : Core) (t : Nat) (k : Nat) (b : Body) : Core :=
  counter c t b k 2 fun pv n i =>
    let y := ctuStep (cntLo k) (cntHi k) pv n (i.getD 0 false) (i.getD 1 false)
    (y.1, [y.2, y.1.ovf])
/-- CTD: outputs Q and OVF. -/
def ctd (c : Core) (t : Nat) (k : Nat) (b : Body) : Core :=
  counter c t b k 2 fun pv n i =>
    let y := ctdStep (cntLo k) (cntHi k) pv n (i.getD 0 false) (i.getD 1 false)
    (y.1, [y.2, y.1.ovf])
/-- CTUD: outputs QU, QD and OVF. -/
def ctud (c : Core) (t : Nat) (k : Nat) (b : Body) : Core :=
  counter c t b k 4 fun pv n i =>
    let y := ctudStep (cntLo k) (cntHi k) pv n (i.getD 0 false) (i.getD 1 false) (i.getD 2 false) (i.getD 3 false)
    (y.1, [y.2.1, y.2.2, y.1.ovf])

end Sys2Proof.Machine
end

