-- ==== Sys2Proof/Machine/ExecTimer.lean ====
section
/-! DEFINITION. Timers, counters and complications (R101 to R108, R112 to R126). -/

namespace Sys2Proof.Machine

/-- TON (R103). -/
def execTon (tr : Fin 4) (b : BitVec 24) (s : State) : Outcome := s.whenUp fun c => Sys2Proof.Machine.ton c tr b

/-- TOF (R103). -/
def execTof (tr : Fin 4) (b : BitVec 24) (s : State) : Outcome := s.whenUp fun c => Sys2Proof.Machine.tof c tr b

/-- TP (R103). -/
def execTp (tr : Fin 4) (b : BitVec 24) (s : State) : Outcome := s.whenUp fun c => Sys2Proof.Machine.tp c tr b

/-- RTO (R103). -/
def execRto (tr : Fin 4) (b : BitVec 24) (s : State) : Outcome := s.whenUp fun c => Sys2Proof.Machine.rto c tr b

/-- CTU (R107). -/
def execCtu (tr : Fin 4) (k : Fin 4) (b : BitVec 24) (s : State) : Outcome :=
  s.whenUp fun c => Sys2Proof.Machine.ctu c tr k b

/-- CTD (R107). -/
def execCtd (tr : Fin 4) (k : Fin 4) (b : BitVec 24) (s : State) : Outcome :=
  s.whenUp fun c => Sys2Proof.Machine.ctd c tr k b

/-- CTUD (R107). -/
def execCtud (tr : Fin 4) (k : Fin 4) (b : BitVec 24) (s : State) : Outcome :=
  s.whenUp fun c => Sys2Proof.Machine.ctud c tr k b

/-- COMPLICATION (R119). -/
def execComplication (tr : Fin 4) (n : Fin 16) (b : BitVec 24) (s : State) : Outcome :=
  s.whenUp fun c => c.complication s.area tr n b

end Sys2Proof.Machine
end

