-- ==== Sys2Proof/Machine/ExecWatch.lean ====
section
/-! DEFINITION. Commands of WATCH, RECORDER and TALLY (R341 to R365). -/

namespace Sys2Proof.Machine

/-- No accepted service by close (R345). -/
def Dev.wdgClose (d : Dev) : Dev :=
  if d.wdgState = 1 && 1000 * d.wdg.period ≤ d.wdgElapsed then d.wdgCloseFault else d

/-- No domain 12 edge for 10 µs (R347). -/
def Dev.rcStop (d : Dev) : Dev := if d.clockChecks then d.wdgFault 5 else d

/-- No tick of the time base: no base beat follows, and SAFE is entered at once (R347, R348). -/
def Dev.tbStop (d : Dev) : Dev :=
  if d.clockChecks && !d.tbStopped then { (if d.st = .safe then d.wdgFault 6
      else (d.wdgFault 6).enterSafe) with tbStopped := true }
  else d

/-- The domain 12 clocks of 1,024 µs (R347). -/
def Dev.ratioCheck (d : Dev) (n : Nat) : Dev :=
  if d.clockChecks then
    let d := d.fset F.WDG_RATIO_RC (min 2047 n)
    if n < 870 || 1178 < n then d.wdgFault 7 else d
  else d

/-- The area and the recorder changed, while the core has its supplies. -/
def State.onArea (s : State) (x : Area × Dev) : Outcome :=
  if s.powered then .next { s with area := x.1, core := { s.core with dev := x.2 } } else .next s

/-- A merged header is written back (R354), unless KEEP is sealed. -/
def headerBack (a : Area) (d : Dev) (slot : Nat) : Area × Dev :=
  match d.rcd.merged.find? fun m => m.1 = slot with
  | some (_, rep, delta) =>
    if d.fbit F.KEP_STAT_SEALED then (a, d)
    else (writeHeader a slot rep delta, { d with rcd := { d.rcd with merged := alDel slot d.rcd.merged } })
  | none => (a, d)

/-- WATCHDOG_SERVICE (R342). -/
def execWatchdogService (v : Word) (s : State) : Outcome := s.whenUp fun c => c.onDev fun d => d.wdgService v

/-- WATCHDOG_CLOSE (R345). -/
def execWatchdogClose (s : State) : Outcome := s.whenUp fun c => c.onDev Dev.wdgClose

/-- RC_STOP (R347). -/
def execRcStop (s : State) : Outcome := s.whenUp fun c => c.onDev Dev.rcStop

/-- TB_STOP (R347). -/
def execTbStop (s : State) : Outcome := s.whenUp fun c => c.onDev Dev.tbStop

/-- RATIO (R347). -/
def execRatio (n : Nat) (s : State) : Outcome := s.whenUp fun c => c.onDev fun d => d.ratioCheck n

/-- RECORDER_OCCURRENCE (R355). -/
def execRecorderOccurrence (src : Fin 64) (code : BitVec 16) (snap : List Word) (s : State) : Outcome :=
  s.whenUp fun c => c.onDev fun d => if src.val < 25 then d.occur src code.toNat snap else d

/-- RECORD_DEQUEUE (R353). -/
def execRecordDequeue (s : State) : Outcome := s.onArea (dequeueOne s.area s.core.dev)

/-- MERGED_HEADER_WRITEBACK (R354). -/
def execMergedHeaderWriteback (slot : Nat) (s : State) : Outcome := s.onArea (headerBack s.area s.core.dev slot)

/-- RECORDER_SCAN_DONE (R356). -/
def execRecorderScanDone (s : State) : Outcome :=
  s.whenUp fun c => c.onDev fun d => if d.rcd.scanning then Sys2Proof.Machine.scanDone s.area d else d

/-- SNAP (R361). -/
def execSnap (q : Requester) (s : State) : Outcome :=
  s.whenUp fun c => c.regWrite q A.TAL_CTL (c.dev.rget A.TAL_CTL ||| 2#32)

/-- TAL_PSEL_WRITE (R360). -/
def execTalPselWrite (q : Requester) (k : Fin 8) (v : Word) (s : State) : Outcome :=
  s.whenUp fun c => c.regWrite q (A.TAL_PSEL k) v

/-- TAL_SCTL_WRITE (R363). -/
def execTalSctlWrite (q : Requester) (v : Word) (s : State) : Outcome := s.whenUp fun c => c.regWrite q A.TAL_SCTL v

/-- BANDWIDTH_WINDOW_END (R364). -/
def execBandwidthWindowEnd (s : State) : Outcome := s.whenUp fun c => c.onDev Dev.bandwidthEnd

end Sys2Proof.Machine
end

