-- ==== Sys2Proof/Machine/WeltLink.lean ====
section
/-! DEFINITION. WELT's receiving side (R187, R190 to R193, R199, R207 to R212): the link, each block as it arrives, and
what silence does. -/

namespace Sys2Proof.Machine

namespace Dev

/-- Whether the member's WELT port works at all. -/
def weltOn (d : Dev) : Bool := d.paired && d.st ≠ .off && !d.held

/-- The link goes down (R187). -/
def weltDown (d : Dev) : Dev :=
  let d := (d.fput F.WLT_STAT_LINK_UP false).raise F.WLT_EVT_LINK_DOWN
  (d.fset F.WLT_STAT_PEER 0).modWlt fun w => { w with goodStatus := 0, awaited := [], resent := [], peer := none }

/-- A lasting WELT_BLK fault: the link is down and the standby UNSYNC on both sides (R190). -/
def weltLasting (d : Dev) : Dev :=
  let d := d.lasting 6 4
  let d := if d.isHolder then d.partnerUnsync 1
    else if d.wltState = 1 || d.wltState = 2 then d.becomeUnsync 1 else d
  d.weltDown

/-- A block has failed its check (R190): it is answered with NAK, and the failure of a resent block is lasting. -/
def blockFailed (d : Dev) (bseq : Nat) : Dev :=
  let again := d.wlt.awaited.contains bseq
  let d := d.wsend (.nak bseq)
  if again then d.weltLasting else d.modWlt fun w => { w with awaited := bseq :: w.awaited }

/-- A resent block has arrived good: transient (R190, R23). WELT has no event bit for it, so that the low byte of the
entry's CODE is open. -/
def blockMended (d : Dev) (bseq : Nat) : Dev :=
  let code := (Config.openWord d.free).toNat % 256
  let d := d.modWlt fun w => { w with awaited := w.awaited.filter (· ≠ bseq) }
  (d.nextFree.transient 6).occurBlk 12 code 4

/-- The link comes up (R187): after 1,000 good STATUS blocks in a row, its delay measured. -/
def weltUp (d : Dev) (delay : Nat) : Dev :=
  if d.weltOn && !d.fbit F.WLT_STAT_LINK_UP && 1000 ≤ d.wlt.goodStatus then
    ((d.fput F.WLT_STAT_LINK_UP true).rsetN A.WLT_DELAY delay).modWlt fun w => { w with goodStatus := 0, dropped := false }
  else d

/-- The settings that R185 compares disagree. -/
def settingsClash (d : Dev) (s : WStatus) : Bool :=
  s.role ≠ d.role || s.branch ≠ d.cfgByte 3 || s.pref = d.cfgBit 4 7

/-- What the partner's STATUS changes in this member's view of it. -/
def seePeer (d : Dev) (s : WStatus) : Dev :=
  let was := d.fget F.WLT_STAT_PEER
  let d := d.modWlt fun w => { w with peer := some s, dropped := w.dropped && s.state = 2 }
  let now := if d.wlt.dropped then 0 else s.state
  let d := d.fset F.WLT_STAT_PEER now
  let d :=
    if now = 2 && was ≠ 2 then
      let d := d.raise F.WLT_EVT_SYNCED
      if d.isHolder then
        (d.fset F.WLT_CNT0_CULPRITLESS 0).modWlt fun w => { w with joinBeat := none, matched := [] }
      else d
    else if now = 0 && was ≠ 0 then d.raise F.WLT_EVT_UNSYNCED
    else d
  -- a partner that follows no more: no ACK is awaited (R195)
  if d.isHolder && (was = 1 || was = 2) && now ≠ 1 && now ≠ 2 then
    (List.range 16).foldl (fun d n => d.modTask n fun t => { t with waitAck := false }) d.unfollow
  else d

/-- A NAK (R190): the block is sent again at once; a second one of the same block is lasting. -/
def nakArrive (d : Dev) (bseq : Nat) : Dev :=
  if d.wlt.resent.contains bseq then d.weltLasting
  else
    let hit (e : Emission) : Bool := match e with | .welt n _ => n = bseq | _ => false
    match d.sent.find? hit with
    | some (.welt n b) =>
      let len := d.wireLen b
      let d := (d.nextFree.emit (.welt n b)).bytesOut 4 len
      (d.tally 0x401).modWlt fun w => { w with resent := bseq :: w.resent }
    | _ => d

/-- INPUT at a following member: its mirror of the holder's input image (R191). -/
def inputArrive (d : Dev) (gs : List (Nat × BitVec 256)) : Dev :=
  if d.follows then
    d.modWlt fun w => { w with
      mirror := gs.foldl (fun (m : Cells) (g : Nat × BitVec 256) => m.writeN (32 * g.1) (leBytes 32 g.2.toNat)) w.mirror }
  else d

/-- MARK at a following member (R192). -/
def markArrive (d : Dev) (task count : Nat) : Dev :=
  if d.follows then
    d.modWlt fun w => { w with limits := alPut task (max count (alGet task 0 w.limits)) w.limits }
  else d

/-- LOADLOG at a following member (R193). -/
def logArrive (d : Dev) (es : List (Nat × Nat × Nat)) : Dev :=
  if d.follows then d.modWlt fun w => { w with loads := w.loads ++ es } else d

/-- COPY at a following member (R194, R196). -/
def copyArrive (d : Dev) (xs : List WItem) : Dev :=
  if d.takesCopies then d.modWlt fun w => { w with rcopy := w.rcopy ++ xs } else d

end Dev

namespace Core

/-! ### Every block (R189, R190) -/

/-- A block arrives: its check and its place in the order; what is good and in turn has its effect. -/
def blockTaken (c : Core) (h : WHdr) (b : WBlock) (f : Core → Core) : Core :=
  if !c.dev.weltOn then c
  else
    let c := c.onDev fun d => d.nextFree.bytesIn 4 (d.wireLen b)
    let isStatus := match b with | .status _ => true | _ => false
    if !c.dev.fbit F.WLT_STAT_LINK_UP then
      if isStatus then
        c.onDev fun d => d.modWlt fun w => { w with
          goodStatus := if h.good then min 1000 (w.goodStatus + 1) else 0, rxSeq := (h.bseq + 1) % 2 ^ 32 }
      else c
    else
      let due := c.dev.wlt.rxSeq
      let again := c.dev.wlt.awaited.contains h.bseq
      let c := if newer32 h.bseq due || h.bseq = due then
          c.onDev fun d => d.modWlt fun w => { w with rxSeq := (h.bseq + 1) % 2 ^ 32 } else c
      if h.good && (again || h.bseq = due) then
        f (if again then c.onDev fun d => d.blockMended h.bseq else c)
      else c.onDev fun d => d.blockFailed h.bseq

/-- A block arrives; a cycle whose verdict its effect has put out of reach ends as this member ended it. -/
def blockArrive (c : Core) (h : WHdr) (b : WBlock) (f : Core → Core) : Core := (c.blockTaken h b f).settleCycles

/-! ### STATUS (R185, R186, R208, R212) -/

/-- Whether the values of R186 equal the crown holder's. -/
def meetsHolder (c : Core) (s : WStatus) : Bool :=
  c.sameAsHolder s && c.dev.st = s.dev && (s.dev = .stop || s.dev = .run)

/-- STATUS of the crown holder at another member: the crown's epoch, a dropped view (R44), and entry to RESYNC. -/
def holderStatus (c : Core) (s : WStatus) : Core :=
  let c := if newer32 s.lepoch (c.dev.rnat A.WLT_EPOCH) then c.onDev fun d => d.crownChange s.lepoch else c
  let c := if c.dev.role = 2 then c.onDev fun d => d.timeSample s.time (d.rnat A.WLT_DELAY) else c
  if c.dev.wltState = 2 && s.peer = 0 then c.onDev fun d => d.becomeUnsync 9
  -- a member in RESYNC whose values no longer equal the holder's cannot become synchronised (R186)
  else if c.dev.wltState = 1 && !c.sameAsHolder s then c.onDev fun d => d.becomeUnsync 6
  else if c.dev.wltState = 0 && c.dev.fbit F.WLT_STAT_PAIRED && c.meetsHolder s then
    c.onDev fun d => ((d.unfollow.stopTasks).fset F.WLT_STAT_STATE 1).finc F.WLT_CNT1_RESYNCS
  else c

/-- STATUS. -/
def statusArrive (c : Core) (s : WStatus) : Core :=
  let c := c.onDev fun d =>
    if d.settingsClash s then
      let d := (d.fput F.WLT_STAT_PAIRED false).wltFlt 5
      if d.wltState = 1 || d.wltState = 2 then d.becomeUnsync 5 else d
    else d
  let c := c.onDev fun d => d.seePeer s
  if c.dev.isHolder then
    if s.state = 1 && c.dev.wlt.rsPos.isNone && c.dev.wlt.joinBeat.isNone then c.resyncStart else c
  else if s.state = 4 then c.holderStatus s
  else c

/-! ### SCHED (R192, R210, R211) -/

/-- The tasks in progress here that the holder's releases find complete: they complete first, so that pre-emption falls
at the same commit on both members. -/
def mustFinish (c : Core) (s : WSched) : List (Nat × Nat) :=
  ((c.dev.activeTasks.filter fun m =>
      s.releases.any (fun r => c.dev.prio r.1 < c.dev.prio m) && !s.displaced.any fun x => x.1 = m)).map
    fun m => (m, 2 ^ 32)

/-- The releases of a SCHED: what waits to be published is published first, views are built from the mirror. -/
def schedReleases (c : Core) (s : WSched) : Core :=
  let due (c : Core) (n : Nat) : Bool :=
    let t := c.dev.task n
    t.unpublished && !t.active && (s.releases.any (fun r => r.1 = n) || (s.stretched.isEmpty
      && (t.publishNext || (c.dev.fbit (F.ESC_TCFG_TRIG n)
          && match t.pubBeat with | some b => decide (b ≤ s.beat) | none => false))))
  let c := c.dev.liveTasks.foldl (fun c n => if due c n then c.publish n true else c) c
  let stops := s.displaced ++ c.mustFinish s
  let c := c.onDev fun d =>
    let d := s.stretched.foldl (fun (d : Dev) n => (d.finc (F.ESC_TOVR_STRETCHES n)).tally 0x102) d
    let d := (List.range 16).foldl (fun (d : Dev) n =>
      if d.fbit (F.ESC_TCFG_TRIG n) && s.alerts.contains (d.fget (F.ESC_TCFG_ALERT n)) then
        d.modTask n fun t => { t with pendingAlert := false }
      else d) d
    if s.releases.isEmpty || !s.stretched.isEmpty then d else d.rsetN A.WLT_LAG (d.tb - d.wlt.ownBeat)
  let src := c.dev.wlt.mirror
  let c := (c.dev.byPrio (s.releases.map (·.1))).foldl (fun (c : Core) n =>
    c.release n (alGet n 0 s.releases) (some src)) c
  let late := stops.filter fun (x : Nat × Nat) => x.2 ≤ (c.dev.task x.1).commits
  let c := c.onDev fun d => d.modWlt fun w => { w with
    displaced := w.displaced.filter (fun (x : Nat × Nat) => !stops.any fun y => y.1 = x.1)
      ++ stops.filter fun (x : Nat × Nat) => (d.task x.1).commits < x.2 }
  late.foldl (fun (c : Core) x => if c.dev.served = some x.1 then c else c.preempt x.1) c

/-- SCHED at a following member. -/
def schedArrive (c : Core) (s : WSched) : Core :=
  if !c.dev.follows then c
  else
    let c := c.onDev fun d => d.modWlt fun w => { w with await := false, boundary := [] }
    let c := c.changeState fun d =>
      if s.run && d.st = .stop then d.enterRun s.beat else if s.stop && d.st = .run then d.enterStop else d
    -- STOP takes effect at the beat that SCHED names: so do the stop values (R210, R29)
    let c := if s.stop then c.outputsAtBeat else c
    let c := if s.deferred && c.dev.rslArmed then
        c.onDev fun d => d.rslDefer.modWlt fun w => { w with seamAt := none } else c
    let c := if s.seam then (c.seamPublish).takeSeam s.beat else c
    let c := if c.dev.esc.stepping && !s.step && c.dev.noneInProgress then c.stepEnd else c
    let c := if s.step then c.onDev fun d => d.modEsc fun e => { e with stepping := !s.releases.isEmpty } else c
    c.schedReleases s

/-! ### The copy, the seam and the resync -/

/-- COPY_END at a following member (R195, R196, R209). -/
def copyEndArrive (c : Core) (task relBeat : Nat) (digest : BitVec 64) (fault : Bool) (endCode : Nat) : Core :=
  if !c.dev.takesCopies then c
  else
    let x : WCycle := { task := task, relBeat := relBeat, digest := digest, fault := fault, endCode := endCode,
                        items := c.dev.wlt.rcopy }
    let before := match c.dev.wlt.joinBeat with | some b => decide (relBeat < b) | none => false
    let c := c.onDev fun d => d.modWlt fun w => { w with rcopy := [] }
    if before then c.applyCopy x.items
    else
      (c.onDev fun d => d.modWlt fun w => { w with
        held := w.held ++ [x], ended := if w.ended.contains task then w.ended else w.ended ++ [task] }).judge task

/-- ACK at the crown holder. -/
def ackArrive (c : Core) (task relBeat : Nat) (digest : BitVec 64) (fault : Bool) : Core :=
  if c.dev.isHolder then c.takeAck task relBeat digest fault else c

/-- SEAM at a following member armed with the same image (R211). -/
def seamArrive (c : Core) (hash : List Byte) (beat : Nat) : Core :=
  match c.stagedImage with
  | some im =>
    if c.dev.follows && im.hash = hash then c.onDev fun d => d.modWlt fun w => { w with seamAt := some beat } else c
  | none => c

/-- RESYNC at a rejoining member, with the join beat where it is named (R208, R209). -/
def resyncArrive (c : Core) (xs : List WItem) (join : Option Nat) : Core :=
  if c.dev.wltState ≠ 1 then c
  else
    let c := c.applyCopy xs
    match join with
    | some b => c.onDev fun d =>
        let d := (List.range 16).foldl (fun d n => d.modTask n fun t => { t with scanNext := true }) d
        let d := { d with gt := { d.gt with ackAnchor := d.gt.holderAnchor <|> d.gt.ackAnchor } }
        d.modWlt fun w => { w with joinBeat := some b, mirror := [], matched := [] }
    | none => c

/-! ### Silence (R207) -/

/-- A member that has become SOLO releases for its own beat whose SCHED has not come, on its own freeze. -/
def soloReleases (c : Core) : Core :=
  let t0 := c.dev.wlt.ownBeat
  if c.dev.st ≠ .run then c
  else
    let x := c.tasksAtBeat (t0 / c.dev.esc.period)
    ((x.1.dev.byPrio x.2).foldl (fun (c : Core) n => c.release n t0 none) x.1).giveWay

/-- WELT_LINK_SILENCE: a SYNC standby goes on alone, and the holder treats its partner as UNSYNC. -/
def linkSilence (c : Core) : Core :=
  if !c.dev.weltOn || !c.dev.fbit F.WLT_STAT_LINK_UP then c
  else
    let st := c.dev.wltState
    let due := c.dev.wlt.await
    let c := c.onDev fun d =>
      (if st = 4 then d.partnerUnsync 2 else if st = 2 then d.becomeSolo else if st = 1 then d.becomeUnsync 2
          else d).weltDown
    let c := c.settleCycles
    if st = 2 && due then c.soloReleases else c

end Core

end Sys2Proof.Machine
end

