-- ==== Sys2Proof/Machine/ExecWelt.lean ====
section
/-! DEFINITION. Commands of WELT and of the lease (R185 to R214). -/

namespace Sys2Proof.Machine

/-- MANAGEMENT_FRAME (R202). -/
def execManagementFrame (p : Fin 4) (epoch : Nat) (l : Lease) (altActs : Bool) (s : State) : Outcome :=
  s.whenUp fun c => c.onDev fun d => d.managementFrame p epoch l altActs

/-- RENEW (R203). -/
def execRenew (s : State) : Outcome := s.whenUp fun c => c.onDev Dev.renew

/-- LEASE_ACTS_STOP (R203). -/
def execLeaseActsStop (s : State) : Outcome := s.whenUp fun c => c.onDev Dev.leaseActsStop

/-- LEASE_LAPSE (R204). -/
def execLeaseLapse (pair : Nat) (altActs : Bool) (s : State) : Outcome :=
  s.whenUp fun c => c.onDev fun d => d.leaseLapse pair altActs

/-- HANDOVER (R205). -/
def execHandover (q : Requester) (v : Word) (s : State) : Outcome := s.whenUp fun c => c.regWrite q A.WLT_CTL v

/-- STATUS (R186). -/
def execStatus (h : WHdr) (s : WStatus) (st : State) : Outcome :=
  st.whenUp fun c => c.blockArrive h (.status s) fun c => c.statusArrive s

/-- NAK (R190). -/
def execNak (h : WHdr) (bseq : Nat) (s : State) : Outcome :=
  s.whenUp fun c => c.blockArrive h (.nak bseq) fun c => c.onDev fun d => d.nakArrive bseq

/-- INPUT (R191). -/
def execInput (h : WHdr) (gs : List (Nat × BitVec 256)) (s : State) : Outcome :=
  s.whenUp fun c => c.blockArrive h (.input gs) fun c => c.onDev fun d => d.inputArrive gs

/-- SCHED (R192). -/
def execSched (h : WHdr) (s : WSched) (st : State) : Outcome :=
  st.whenUp fun c => c.blockArrive h (.sched s) fun c => c.schedArrive s

/-- MARK (R192). -/
def execMark (h : WHdr) (task count : Nat) (s : State) : Outcome :=
  s.whenUp fun c => c.blockArrive h (.mark task count) fun c => c.onDev fun d => d.markArrive task count

/-- LOADLOG (R193). -/
def execLoadlog (h : WHdr) (es : List (Nat × Nat × Nat)) (s : State) : Outcome :=
  s.whenUp fun c => c.blockArrive h (.loadlog es) fun c => c.onDev fun d => d.logArrive es

/-- COPY (R194). -/
def execCopy (h : WHdr) (items : List WItem) (s : State) : Outcome :=
  s.whenUp fun c => c.blockArrive h (.copy items) fun c => c.onDev fun d => d.copyArrive items

/-- COPY_END (R199). -/
def execCopyEnd (h : WHdr) (task relBeat groups : Nat) (digest : BitVec 64) (fault : Bool) (endCode : Nat) (s : State) : Outcome :=
  s.whenUp fun c => c.blockArrive h (.copyEnd task relBeat groups digest fault endCode) fun c => c.copyEndArrive task relBeat digest fault endCode

/-- ACK (R195). -/
def execAck (h : WHdr) (task relBeat : Nat) (digest : BitVec 64) (fault : Bool) (groups : Nat) (s : State) : Outcome :=
  s.whenUp fun c => c.blockArrive h (.ack task relBeat digest fault groups) fun c => c.ackArrive task relBeat digest fault

/-- SEAM_BLOCK (R211). -/
def execSeamBlock (h : WHdr) (hash : List Byte) (beat : Nat) (s : State) : Outcome :=
  s.whenUp fun c => c.blockArrive h (.seam hash beat) fun c => c.seamArrive hash beat

/-- RESYNC (R208). -/
def execResync (h : WHdr) (items : List WItem) (join : Option Nat) (s : State) : Outcome :=
  s.whenUp fun c => c.blockArrive h (.resync items join) fun c => c.resyncArrive items join

/-- WELT_LINK_SILENCE (R207). -/
def execWeltLinkSilence (s : State) : Outcome := s.whenUp fun c => c.linkSilence

/-- WELT_LINK_UP (R187). -/
def execWeltLinkUp (delay : BitVec 16) (s : State) : Outcome :=
  s.whenUp fun c => c.onDev fun d => d.weltUp delay.toNat

end Sys2Proof.Machine
end

