-- ==== Sys2Proof/Machine/ExecWord.lean ====
section
/-! DEFINITION. The word and double-word instructions (R83, R88 to R92, R98). -/

namespace Sys2Proof.Machine

/-- ADD_ADDI (R83). -/
def execAddAddi (tr : Fin 4) (imm : Bool) (b : BitVec 24) (s : State) : Outcome :=
  s.whenUp fun c => Sys2Proof.Machine.addI c tr imm b

/-- SUB_SUBI (R83). -/
def execSubSubi (tr : Fin 4) (imm : Bool) (b : BitVec 24) (s : State) : Outcome :=
  s.whenUp fun c => Sys2Proof.Machine.subI c tr imm b

/-- MUL_MULI (R83). -/
def execMulMuli (tr : Fin 4) (imm : Bool) (b : BitVec 24) (s : State) : Outcome :=
  s.whenUp fun c => Sys2Proof.Machine.mulI c tr imm b

/-- DIV_DIVI (R88). -/
def execDivDivi (tr : Fin 4) (imm : Bool) (b : BitVec 24) (s : State) : Outcome :=
  s.whenUp fun c => Sys2Proof.Machine.divI c tr imm b

/-- DIVU_DIVUI (R88). -/
def execDivuDivui (tr : Fin 4) (imm : Bool) (b : BitVec 24) (s : State) : Outcome :=
  s.whenUp fun c => Sys2Proof.Machine.divuI c tr imm b

/-- MOD_MODI (R88). -/
def execModModi (tr : Fin 4) (imm : Bool) (b : BitVec 24) (s : State) : Outcome :=
  s.whenUp fun c => Sys2Proof.Machine.modI c tr imm b

/-- MODU_MODUI (R88). -/
def execModuModui (tr : Fin 4) (imm : Bool) (b : BitVec 24) (s : State) : Outcome :=
  s.whenUp fun c => Sys2Proof.Machine.moduI c tr imm b

/-- AND_ANDI (R83). -/
def execAndAndi (tr : Fin 4) (imm : Bool) (b : BitVec 24) (s : State) : Outcome :=
  s.whenUp fun c => Sys2Proof.Machine.andI c tr imm b

/-- OR_ORI (R83). -/
def execOrOri (tr : Fin 4) (imm : Bool) (b : BitVec 24) (s : State) : Outcome :=
  s.whenUp fun c => Sys2Proof.Machine.orI c tr imm b

/-- XOR_XORI (R83). -/
def execXorXori (tr : Fin 4) (imm : Bool) (b : BitVec 24) (s : State) : Outcome :=
  s.whenUp fun c => Sys2Proof.Machine.xorI c tr imm b

/-- SHL_SHLI (R83). -/
def execShlShli (tr : Fin 4) (imm : Bool) (b : BitVec 24) (s : State) : Outcome :=
  s.whenUp fun c => Sys2Proof.Machine.shlI c tr imm b

/-- SHR_SHRI (R83). -/
def execShrShri (tr : Fin 4) (imm : Bool) (b : BitVec 24) (s : State) : Outcome :=
  s.whenUp fun c => Sys2Proof.Machine.shrI c tr imm b

/-- SAR_SARI (R83). -/
def execSarSari (tr : Fin 4) (imm : Bool) (b : BitVec 24) (s : State) : Outcome :=
  s.whenUp fun c => Sys2Proof.Machine.sarI c tr imm b

/-- ROL_ROLI (R83). -/
def execRolRoli (tr : Fin 4) (imm : Bool) (b : BitVec 24) (s : State) : Outcome :=
  s.whenUp fun c => Sys2Proof.Machine.rolI c tr imm b

/-- CMP_CMPI (R89). -/
def execCmpCmpi (tr : Fin 4) (imm : Bool) (b : BitVec 24) (s : State) : Outcome :=
  s.whenUp fun c => Sys2Proof.Machine.cmpI c tr imm b

/-- MOV_MOVI (R83). -/
def execMovMovi (tr : Fin 4) (imm : Bool) (b : BitVec 24) (s : State) : Outcome :=
  s.whenUp fun c => Sys2Proof.Machine.movI c tr imm b

/-- MOVL (R83). -/
def execMovl (tr : Fin 4) (b : BitVec 24) (s : State) : Outcome := s.whenUp fun c => Sys2Proof.Machine.movl c tr b

/-- MOVH (R83). -/
def execMovh (tr : Fin 4) (b : BitVec 24) (s : State) : Outcome := s.whenUp fun c => Sys2Proof.Machine.movh c tr b

/-- BFX (R90). -/
def execBfx (tr : Fin 4) (b : BitVec 24) (s : State) : Outcome := s.whenUp fun c => Sys2Proof.Machine.bfx c tr b

/-- BFXS (R90). -/
def execBfxs (tr : Fin 4) (b : BitVec 24) (s : State) : Outcome := s.whenUp fun c => Sys2Proof.Machine.bfxs c tr b

/-- BFI (R90). -/
def execBfi (tr : Fin 4) (b : BitVec 24) (s : State) : Outcome := s.whenUp fun c => Sys2Proof.Machine.bfi c tr b

/-- CLZ (R91). -/
def execClz (tr : Fin 4) (b : BitVec 24) (s : State) : Outcome := s.whenUp fun c => Sys2Proof.Machine.clz c tr b

/-- BPRM (R92). -/
def execBprm (tr : Fin 4) (b : BitVec 24) (s : State) : Outcome := s.whenUp fun c => Sys2Proof.Machine.bprm c tr b

/-- LTOW (R83). -/
def execLtow (tr : Fin 4) (b : BitVec 24) (s : State) : Outcome := s.whenUp fun c => Sys2Proof.Machine.ltow c tr b

/-- ADR (R98). -/
def execAdr (tr : Fin 4) (b : BitVec 24) (s : State) : Outcome := s.whenUp fun c => Sys2Proof.Machine.adr c tr b

/-- ADD_D (R83). -/
def execAddD (tr : Fin 4) (b : BitVec 24) (s : State) : Outcome := s.whenUp fun c => Sys2Proof.Machine.addD c tr b

/-- SUB_D (R83). -/
def execSubD (tr : Fin 4) (b : BitVec 24) (s : State) : Outcome := s.whenUp fun c => Sys2Proof.Machine.subD c tr b

/-- MUL_D (R83). -/
def execMulD (tr : Fin 4) (b : BitVec 24) (s : State) : Outcome := s.whenUp fun c => Sys2Proof.Machine.mulD c tr b

/-- DIV_D (R88). -/
def execDivD (tr : Fin 4) (b : BitVec 24) (s : State) : Outcome := s.whenUp fun c => Sys2Proof.Machine.divD c tr b

/-- DIVU_D (R88). -/
def execDivuD (tr : Fin 4) (b : BitVec 24) (s : State) : Outcome := s.whenUp fun c => Sys2Proof.Machine.divuD c tr b

/-- MOD_D (R88). -/
def execModD (tr : Fin 4) (b : BitVec 24) (s : State) : Outcome := s.whenUp fun c => Sys2Proof.Machine.modD c tr b

/-- MODU_D (R88). -/
def execModuD (tr : Fin 4) (b : BitVec 24) (s : State) : Outcome := s.whenUp fun c => Sys2Proof.Machine.moduD c tr b

/-- CMP_D (R89). -/
def execCmpD (tr : Fin 4) (b : BitVec 24) (s : State) : Outcome := s.whenUp fun c => Sys2Proof.Machine.cmpD c tr b

/-- MOV_D (R83). -/
def execMovD (tr : Fin 4) (b : BitVec 24) (s : State) : Outcome := s.whenUp fun c => Sys2Proof.Machine.movD c tr b

/-- SXT (R83). -/
def execSxt (tr : Fin 4) (b : BitVec 24) (s : State) : Outcome := s.whenUp fun c => Sys2Proof.Machine.sxt c tr b

/-- SHL_D (R83). -/
def execShlD (tr : Fin 4) (b : BitVec 24) (s : State) : Outcome := s.whenUp fun c => Sys2Proof.Machine.shlD c tr b

/-- SHR_D (R83). -/
def execShrD (tr : Fin 4) (b : BitVec 24) (s : State) : Outcome := s.whenUp fun c => Sys2Proof.Machine.shrD c tr b

/-- SAR_D (R83). -/
def execSarD (tr : Fin 4) (b : BitVec 24) (s : State) : Outcome := s.whenUp fun c => Sys2Proof.Machine.sarD c tr b

end Sys2Proof.Machine
end

