-- ==== Sys2Proof/Machine/Dispatch.lean ====
section
/-! DEFINITION. One arm per command. -/

namespace Sys2Proof.Machine

/-- The effect of a command on everything but the queue. -/
def exec (i : Instr) (s : State) : Host.Outcome State Fault Refusal :=
  match i with
  | .suppliesValid x => Sys2Proof.Machine.execSuppliesValid x s
  | .bringUpEnd => Sys2Proof.Machine.execBringUpEnd s
  | .bootEnd cut => Sys2Proof.Machine.execBootEnd cut s
  | .resetNFall => Sys2Proof.Machine.execResetNFall s
  | .resetNRise x => Sys2Proof.Machine.execResetNRise x s
  | .powerFailWarning => Sys2Proof.Machine.execPowerFailWarning s
  | .keepUnseal => Sys2Proof.Machine.execKeepUnseal s
  | .supplyInvalid => Sys2Proof.Machine.execSupplyInvalid s
  | .vfieldLoss => Sys2Proof.Machine.execVfieldLoss s
  | .islandPowerUp => Sys2Proof.Machine.execIslandPowerUp s
  | .safeFlagWritten => Sys2Proof.Machine.execSafeFlagWritten s
  | .safeFlagClearWritten => Sys2Proof.Machine.execSafeFlagClearWritten s
  | .paceWindowEnd pace => Sys2Proof.Machine.execPaceWindowEnd pace s
  | .completionTimeout tr => Sys2Proof.Machine.execCompletionTimeout tr s
  | .beat => Sys2Proof.Machine.execBeat s
  | .holdExpired => Sys2Proof.Machine.execHoldExpired s
  | .overrunLimit n => Sys2Proof.Machine.execOverrunLimit n s
  | .stretchedRelease n => Sys2Proof.Machine.execStretchedRelease n s
  | .ackWaitLimit n => Sys2Proof.Machine.execAckWaitLimit n s
  | .strandDispatch tr => Sys2Proof.Machine.execStrandDispatch tr s
  | .headCommit => Sys2Proof.Machine.execHeadCommit s
  | .movCtlWrite q v => Sys2Proof.Machine.execMovCtlWrite q v s
  | .nop tr b => Sys2Proof.Machine.execNop tr b s
  | .strand tr b => Sys2Proof.Machine.execStrand tr b s
  | .alert tr b => Sys2Proof.Machine.execAlert tr b s
  | .chkin tr b => Sys2Proof.Machine.execChkin tr b s
  | .recev tr b => Sys2Proof.Machine.execRecev tr b s
  | .time tr b => Sys2Proof.Machine.execTime tr b s
  | .tslive tr b => Sys2Proof.Machine.execTslive tr b s
  | .getf tr b => Sys2Proof.Machine.execGetf tr b s
  | .putf tr b => Sys2Proof.Machine.execPutf tr b s
  | .tel tr b => Sys2Proof.Machine.execTel tr b s
  | .ld tr b => Sys2Proof.Machine.execLd tr b s
  | .ldn tr b => Sys2Proof.Machine.execLdn tr b s
  | .andBit tr b => Sys2Proof.Machine.execAndBit tr b s
  | .andnBit tr b => Sys2Proof.Machine.execAndnBit tr b s
  | .orBit tr b => Sys2Proof.Machine.execOrBit tr b s
  | .ornBit tr b => Sys2Proof.Machine.execOrnBit tr b s
  | .xorBit tr b => Sys2Proof.Machine.execXorBit tr b s
  | .xornBit tr b => Sys2Proof.Machine.execXornBit tr b s
  | .st tr b => Sys2Proof.Machine.execSt tr b s
  | .stn tr b => Sys2Proof.Machine.execStn tr b s
  | .setBit tr b => Sys2Proof.Machine.execSetBit tr b s
  | .rst tr b => Sys2Proof.Machine.execRst tr b s
  | .edgp tr b => Sys2Proof.Machine.execEdgp tr b s
  | .edgn tr b => Sys2Proof.Machine.execEdgn tr b s
  | .ldl tr b => Sys2Proof.Machine.execLdl tr b s
  | .andl tr b => Sys2Proof.Machine.execAndl tr b s
  | .orl tr b => Sys2Proof.Machine.execOrl tr b s
  | .xorl tr b => Sys2Proof.Machine.execXorl tr b s
  | .notl tr b => Sys2Proof.Machine.execNotl tr b s
  | .lcon tr b => Sys2Proof.Machine.execLcon tr b s
  | .lcc tr b => Sys2Proof.Machine.execLcc tr b s
  | .wtol tr b => Sys2Proof.Machine.execWtol tr b s
  | .addAddi tr imm b => Sys2Proof.Machine.execAddAddi tr imm b s
  | .subSubi tr imm b => Sys2Proof.Machine.execSubSubi tr imm b s
  | .mulMuli tr imm b => Sys2Proof.Machine.execMulMuli tr imm b s
  | .divDivi tr imm b => Sys2Proof.Machine.execDivDivi tr imm b s
  | .divuDivui tr imm b => Sys2Proof.Machine.execDivuDivui tr imm b s
  | .modModi tr imm b => Sys2Proof.Machine.execModModi tr imm b s
  | .moduModui tr imm b => Sys2Proof.Machine.execModuModui tr imm b s
  | .andAndi tr imm b => Sys2Proof.Machine.execAndAndi tr imm b s
  | .orOri tr imm b => Sys2Proof.Machine.execOrOri tr imm b s
  | .xorXori tr imm b => Sys2Proof.Machine.execXorXori tr imm b s
  | .shlShli tr imm b => Sys2Proof.Machine.execShlShli tr imm b s
  | .shrShri tr imm b => Sys2Proof.Machine.execShrShri tr imm b s
  | .sarSari tr imm b => Sys2Proof.Machine.execSarSari tr imm b s
  | .rolRoli tr imm b => Sys2Proof.Machine.execRolRoli tr imm b s
  | .cmpCmpi tr imm b => Sys2Proof.Machine.execCmpCmpi tr imm b s
  | .movMovi tr imm b => Sys2Proof.Machine.execMovMovi tr imm b s
  | .movl tr b => Sys2Proof.Machine.execMovl tr b s
  | .movh tr b => Sys2Proof.Machine.execMovh tr b s
  | .bfx tr b => Sys2Proof.Machine.execBfx tr b s
  | .bfxs tr b => Sys2Proof.Machine.execBfxs tr b s
  | .bfi tr b => Sys2Proof.Machine.execBfi tr b s
  | .clz tr b => Sys2Proof.Machine.execClz tr b s
  | .bprm tr b => Sys2Proof.Machine.execBprm tr b s
  | .ltow tr b => Sys2Proof.Machine.execLtow tr b s
  | .adr tr b => Sys2Proof.Machine.execAdr tr b s
  | .addD tr b => Sys2Proof.Machine.execAddD tr b s
  | .subD tr b => Sys2Proof.Machine.execSubD tr b s
  | .mulD tr b => Sys2Proof.Machine.execMulD tr b s
  | .divD tr b => Sys2Proof.Machine.execDivD tr b s
  | .divuD tr b => Sys2Proof.Machine.execDivuD tr b s
  | .modD tr b => Sys2Proof.Machine.execModD tr b s
  | .moduD tr b => Sys2Proof.Machine.execModuD tr b s
  | .cmpD tr b => Sys2Proof.Machine.execCmpD tr b s
  | .movD tr b => Sys2Proof.Machine.execMovD tr b s
  | .sxt tr b => Sys2Proof.Machine.execSxt tr b s
  | .shlD tr b => Sys2Proof.Machine.execShlD tr b s
  | .shrD tr b => Sys2Proof.Machine.execShrD tr b s
  | .sarD tr b => Sys2Proof.Machine.execSarD tr b s
  | .singleArithmetic tr op b => Sys2Proof.Machine.execSingleArithmetic tr op b s
  | .fcmp tr b => Sys2Proof.Machine.execFcmp tr b s
  | .fabsFneg tr neg b => Sys2Proof.Machine.execFabsFneg tr neg b s
  | .itofUtof tr uns b => Sys2Proof.Machine.execItofUtof tr uns b s
  | .ftoiFtou tr uns b => Sys2Proof.Machine.execFtoiFtou tr uns b s
  | .doubleArithmetic tr op b => Sys2Proof.Machine.execDoubleArithmetic tr op b s
  | .dcmp tr b => Sys2Proof.Machine.execDcmp tr b s
  | .dabsDneg tr neg b => Sys2Proof.Machine.execDabsDneg tr neg b s
  | .itod tr b => Sys2Proof.Machine.execItod tr b s
  | .ltod tr b => Sys2Proof.Machine.execLtod tr b s
  | .dtoi tr b => Sys2Proof.Machine.execDtoi tr b s
  | .dtol tr b => Sys2Proof.Machine.execDtol tr b s
  | .stod tr b => Sys2Proof.Machine.execStod tr b s
  | .dtos tr b => Sys2Proof.Machine.execDtos tr b s
  | .load tr k b => Sys2Proof.Machine.execLoad tr k b s
  | .store tr k b => Sys2Proof.Machine.execStore tr k b s
  | .bra tr b => Sys2Proof.Machine.execBra tr b s
  | .branchIfCondition tr cond b slip => Sys2Proof.Machine.execBranchIfCondition tr cond b slip s
  | .bl0tBl0f tr onTrue b slip => Sys2Proof.Machine.execBl0tBl0f tr onTrue b slip s
  | .call tr b => Sys2Proof.Machine.execCall tr b s
  | .callr tr b => Sys2Proof.Machine.execCallr tr b s
  | .ret tr b => Sys2Proof.Machine.execRet tr b s
  | .ton tr b => Sys2Proof.Machine.execTon tr b s
  | .tof tr b => Sys2Proof.Machine.execTof tr b s
  | .tp tr b => Sys2Proof.Machine.execTp tr b s
  | .rto tr b => Sys2Proof.Machine.execRto tr b s
  | .ctu tr k b => Sys2Proof.Machine.execCtu tr k b s
  | .ctd tr k b => Sys2Proof.Machine.execCtd tr k b s
  | .ctud tr k b => Sys2Proof.Machine.execCtud tr k b s
  | .complication tr n b => Sys2Proof.Machine.execComplication tr n b s
  | .regTrimWrite q v => Sys2Proof.Machine.execRegTrimWrite q v s
  | .holdoverEntry => Sys2Proof.Machine.execHoldoverEntry s
  | .regSlotSelWrite q v => Sys2Proof.Machine.execRegSlotSelWrite q v s
  | .calLatch q => Sys2Proof.Machine.execCalLatch q s
  | .calCommit q => Sys2Proof.Machine.execCalCommit q s
  | .calDstPlus1h q => Sys2Proof.Machine.execCalDstPlus1h q s
  | .calDstMinus1h q => Sys2Proof.Machine.execCalDstMinus1h q s
  | .calendarSecond => Sys2Proof.Machine.execCalendarSecond s
  | .calOscStop => Sys2Proof.Machine.execCalOscStop s
  | .vbakCheck mv => Sys2Proof.Machine.execVbakCheck mv s
  | .calWakeWrite q v => Sys2Proof.Machine.execCalWakeWrite q v s
  | .calWakeDue => Sys2Proof.Machine.execCalWakeDue s
  | .cyclicFrameSend level0 => Sys2Proof.Machine.execCyclicFrameSend level0 s
  | .timeFrameSend level0 => Sys2Proof.Machine.execTimeFrameSend level0 s
  | .frameArrival p bs => Sys2Proof.Machine.execFrameArrival p bs s
  | .frameReturn p f => Sys2Proof.Machine.execFrameReturn p f s
  | .frameAbort level0 cw ccw => Sys2Proof.Machine.execFrameAbort level0 cw ccw s
  | .frameNotReturned level0 cw ccw => Sys2Proof.Machine.execFrameNotReturned level0 cw ccw s
  | .lossOfSignal p => Sys2Proof.Machine.execLossOfSignal p s
  | .linkDelayMeasurement p trips turns => Sys2Proof.Machine.execLinkDelayMeasurement p trips turns s
  | .unfold p => Sys2Proof.Machine.execUnfold p s
  | .enum p branch stations reverse => Sys2Proof.Machine.execEnum p branch stations reverse s
  | .layout p rows layoutId => Sys2Proof.Machine.execLayout p rows layoutId s
  | .joinReq p r => Sys2Proof.Machine.execJoinReq p r s
  | .joinAck p a => Sys2Proof.Machine.execJoinAck p a s
  | .mailboxGo q => Sys2Proof.Machine.execMailboxGo q s
  | .mailboxRequest p m => Sys2Proof.Machine.execMailboxRequest p m s
  | .mailboxResponse p m good => Sys2Proof.Machine.execMailboxResponse p m good s
  | .mailboxTimeout e => Sys2Proof.Machine.execMailboxTimeout e s
  | .mbxDoneClear q mask => Sys2Proof.Machine.execMbxDoneClear q mask s
  | .inboxPop q v => Sys2Proof.Machine.execInboxPop q v s
  | .managementFrame p epoch l altActs => Sys2Proof.Machine.execManagementFrame p epoch l altActs s
  | .renew => Sys2Proof.Machine.execRenew s
  | .leaseActsStop => Sys2Proof.Machine.execLeaseActsStop s
  | .leaseLapse pair altActs => Sys2Proof.Machine.execLeaseLapse pair altActs s
  | .handover q v => Sys2Proof.Machine.execHandover q v s
  | .status h st0 => Sys2Proof.Machine.execStatus h st0 s
  | .nak h bseq => Sys2Proof.Machine.execNak h bseq s
  | .input h gs => Sys2Proof.Machine.execInput h gs s
  | .sched h st0 => Sys2Proof.Machine.execSched h st0 s
  | .mark h task count => Sys2Proof.Machine.execMark h task count s
  | .loadlog h es => Sys2Proof.Machine.execLoadlog h es s
  | .copy h items => Sys2Proof.Machine.execCopy h items s
  | .copyEnd h task relBeat groups digest fault endCode => Sys2Proof.Machine.execCopyEnd h task relBeat groups digest fault endCode s
  | .ack h task relBeat digest fault groups => Sys2Proof.Machine.execAck h task relBeat digest fault groups s
  | .seamBlock h hash beat => Sys2Proof.Machine.execSeamBlock h hash beat s
  | .resync h items join => Sys2Proof.Machine.execResync h items join s
  | .weltLinkSilence => Sys2Proof.Machine.execWeltLinkSilence s
  | .weltLinkUp delay => Sys2Proof.Machine.execWeltLinkUp delay s
  | .ident seq => Sys2Proof.Machine.execIdent seq s
  | .openSession seq payload => Sys2Proof.Machine.execOpenSession seq payload s
  | .lockoutEnd => Sys2Proof.Machine.execLockoutEnd s
  | .sessionTimeout => Sys2Proof.Machine.execSessionTimeout s
  | .read r => Sys2Proof.Machine.execRead r s
  | .write r => Sys2Proof.Machine.execWrite r s
  | .imageBegin r => Sys2Proof.Machine.execImageBegin r s
  | .imageData r => Sys2Proof.Machine.execImageData r s
  | .imageEnd r => Sys2Proof.Machine.execImageEnd r s
  | .resole r => Sys2Proof.Machine.execResole r s
  | .preCarryPass => Sys2Proof.Machine.execPreCarryPass s
  | .resoleTimeout => Sys2Proof.Machine.execResoleTimeout s
  | .migration => Sys2Proof.Machine.execMigration s
  | .migrationCommit => Sys2Proof.Machine.execMigrationCommit s
  | .run r => Sys2Proof.Machine.execRun r s
  | .stop r => Sys2Proof.Machine.execStop r s
  | .step r => Sys2Proof.Machine.execStep r s
  | .otpBurn r => Sys2Proof.Machine.execOtpBurn r s
  | .otpBurnDone ok => Sys2Proof.Machine.execOtpBurnDone ok s
  | .recorderRead r => Sys2Proof.Machine.execRecorderRead r s
  | .health r => Sys2Proof.Machine.execHealth r s
  | .scrubRead g e1 e2 => Sys2Proof.Machine.execScrubRead g e1 e2 s
  | .watchReread g e1 e2 => Sys2Proof.Machine.execWatchReread g e1 e2 s
  | .keepRecordCommit => Sys2Proof.Machine.execKeepRecordCommit s
  | .recordWrite q len => Sys2Proof.Machine.execRecordWrite q len s
  | .recordRead q => Sys2Proof.Machine.execRecordRead q s
  | .startUpScanDone => Sys2Proof.Machine.execStartUpScanDone s
  | .wkmInjWrite q ctl v => Sys2Proof.Machine.execWkmInjWrite q ctl v s
  | .fieldInputFrame resIn resOut => Sys2Proof.Machine.execFieldInputFrame resIn resOut s
  | .outputFrameBetweenBeats res => Sys2Proof.Machine.execOutputFrameBetweenBeats res s
  | .fieldKeepAlive => Sys2Proof.Machine.execFieldKeepAlive s
  | .outputFrameApply => Sys2Proof.Machine.execOutputFrameApply s
  | .silenceExpiry => Sys2Proof.Machine.execSilenceExpiry s
  | .fieldDieDown => Sys2Proof.Machine.execFieldDieDown s
  | .diFilterAccept n level => Sys2Proof.Machine.execDiFilterAccept n level s
  | .doOverload n => Sys2Proof.Machine.execDoOverload n s
  | .doOverloadClear n => Sys2Proof.Machine.execDoOverloadClear n s
  | .doThermalShutdown n => Sys2Proof.Machine.execDoThermalShutdown n s
  | .doThermalRestart n => Sys2Proof.Machine.execDoThermalRestart n s
  | .fldDorestartWrite q v => Sys2Proof.Machine.execFldDorestartWrite q v s
  | .aoEvaluation n readback headroom => Sys2Proof.Machine.execAoEvaluation n readback headroom s
  | .complianceClear q n => Sys2Proof.Machine.execComplianceClear q n s
  | .aoTrimReload q n => Sys2Proof.Machine.execAoTrimReload q n s
  | .aiConversion n code => Sys2Proof.Machine.execAiConversion n code s
  | .vfUv => Sys2Proof.Machine.execVfUv s
  | .vfUvRecovery => Sys2Proof.Machine.execVfUvRecovery s
  | .loopStep n e1 e2 => Sys2Proof.Machine.execLoopStep n e1 e2 s
  | .loopModeWrite q n auto => Sys2Proof.Machine.execLoopModeWrite q n auto s
  | .loopEnableWrite q n en => Sys2Proof.Machine.execLoopEnableWrite q n en s
  | .plausibilityClear q n => Sys2Proof.Machine.execPlausibilityClear q n s
  | .safetyLaneInboundFrame x => Sys2Proof.Machine.execSafetyLaneInboundFrame x s
  | .safetyLaneOutboundFrame good => Sys2Proof.Machine.execSafetyLaneOutboundFrame good s
  | .safetyLaneTimeout => Sys2Proof.Machine.execSafetyLaneTimeout s
  | .siFilterAccept n level => Sys2Proof.Machine.execSiFilterAccept n level s
  | .testPulse stp low => Sys2Proof.Machine.execTestPulse stp low s
  | .testPulseExtra stp low => Sys2Proof.Machine.execTestPulseExtra stp low s
  | .discrepancyExpiry pair => Sys2Proof.Machine.execDiscrepancyExpiry pair s
  | .ss1Evaluation axis => Sys2Proof.Machine.execSs1Evaluation axis s
  | .ssiFrame axis w ok => Sys2Proof.Machine.execSsiFrame axis w ok s
  | .encoderEvaluation axis illegal z => Sys2Proof.Machine.execEncoderEvaluation axis illegal z s
  | .offPulse n fell ret => Sys2Proof.Machine.execOffPulse n fell ret s
  | .offPulseExtra n fell ret => Sys2Proof.Machine.execOffPulseExtra n fell ret s
  | .sqThermalShutdown n => Sys2Proof.Machine.execSqThermalShutdown n s
  | .safetyReset w cut => Sys2Proof.Machine.execSafetyReset w cut s
  | .safReqWrite q v => Sys2Proof.Machine.execSafReqWrite q v s
  | .safConfirmWrite q v => Sys2Proof.Machine.execSafConfirmWrite q v s
  | .signatureCheck res => Sys2Proof.Machine.execSignatureCheck res s
  | .canFrameReceived c f e1 e2 => Sys2Proof.Machine.execCanFrameReceived c f e1 e2 s
  | .canTransmissionEnd c sof outcome e1 e2 => Sys2Proof.Machine.execCanTransmissionEnd c sof outcome e1 e2 s
  | .canBusError c kind tx inc => Sys2Proof.Machine.execCanBusError c kind tx inc s
  | .canRequest q c obj => Sys2Proof.Machine.execCanRequest q c obj s
  | .canCancel q c obj underWay => Sys2Proof.Machine.execCanCancel q c obj underWay s
  | .canFree q c obj => Sys2Proof.Machine.execCanFree q c obj s
  | .canRecover q v => Sys2Proof.Machine.execCanRecover q v s
  | .canRecoveryDone c => Sys2Proof.Machine.execCanRecoveryDone c s
  | .canInitWrite q v => Sys2Proof.Machine.execCanInitWrite q v s
  | .canObjectWrite q addr v => Sys2Proof.Machine.execCanObjectWrite q addr v s
  | .ttCycleStart c won => Sys2Proof.Machine.execTtCycleStart c won s
  | .ttTimeMark c obj => Sys2Proof.Machine.execTtTimeMark c obj s
  | .ttRefMiss c => Sys2Proof.Machine.execTtRefMiss c s
  | .watchdogService v => Sys2Proof.Machine.execWatchdogService v s
  | .watchdogClose => Sys2Proof.Machine.execWatchdogClose s
  | .rcStop => Sys2Proof.Machine.execRcStop s
  | .tbStop => Sys2Proof.Machine.execTbStop s
  | .ratio n => Sys2Proof.Machine.execRatio n s
  | .recorderOccurrence src code snap => Sys2Proof.Machine.execRecorderOccurrence src code snap s
  | .recordDequeue => Sys2Proof.Machine.execRecordDequeue s
  | .mergedHeaderWriteback slot => Sys2Proof.Machine.execMergedHeaderWriteback slot s
  | .recorderScanDone => Sys2Proof.Machine.execRecorderScanDone s
  | .snap q => Sys2Proof.Machine.execSnap q s
  | .talPselWrite q k v => Sys2Proof.Machine.execTalPselWrite q k v s
  | .talSctlWrite q v => Sys2Proof.Machine.execTalSctlWrite q v s
  | .bandwidthWindowEnd => Sys2Proof.Machine.execBandwidthWindowEnd s
  | .hostInputWrite off bs => Sys2Proof.Machine.execHostInputWrite off bs s
  | .hostDoorbell v => Sys2Proof.Machine.execHostDoorbell v s
  | .hostUnmappedWrite off => Sys2Proof.Machine.execHostUnmappedWrite off s
  | .pciePerst => Sys2Proof.Machine.execPciePerst s
  | .pcieLinkUp speed => Sys2Proof.Machine.execPcieLinkUp speed s
  | .pcieLinkDown => Sys2Proof.Machine.execPcieLinkDown s
  | .pageKeyWrite q page v => Sys2Proof.Machine.execPageKeyWrite q page v s
  | .registerWrite q a v => Sys2Proof.Machine.execRegisterWrite q a v s
  | .portUp p => Sys2Proof.Machine.execPortUp p s
  | .canIntegration c => Sys2Proof.Machine.execCanIntegration c s
  | .configurationWrite busMaster msixEn funcMask target => Sys2Proof.Machine.execConfigurationWrite busMaster msixEn funcMask target s
  | .serviceFrameDropped reason => Sys2Proof.Machine.execServiceFrameDropped reason s
  | .lowWordRead q a => Sys2Proof.Machine.execLowWordRead q a s

end Sys2Proof.Machine
end

