-- ==== Sys2Proof/Machine/Idle.lean ====
section
/-! DEFINITION. What the block does on its own between commands: its time base counts (R127). -/

namespace Sys2Proof.Machine

/-- The length of one tick in ns: one cycle of the 100 MHz clock the time base counts (R127, DESIGN CHOICE, log entry
5). -/
def tickNs : Nat := 10

/-- Whether the time base counts: the core has its supplies, is not held in reset, and its clock runs (R127, R347). -/
def State.ticks (s : State) : Bool := s.powered && !s.core.dev.tbStopped

/-- One tick with no command waiting (DESIGN CHOICE, log entry 5). -/
def State.idle (s : State) : State :=
  if s.ticks then { s with core := { s.core with dev := { s.core.dev with tb := s.core.dev.tb + tickNs } } } else s

end Sys2Proof.Machine
end

