-- ==== Sys2Proof/WellFormed.lean ====
section
/-! DEFINITION. Well-formed commands: every operand in the range its place on the wire or in the spec gives it. The
machine never asks; a sender that keeps to the spec sends no other. -/

namespace Sys2Proof

/-- A LACE frame from its header to its trailer is at most 127 segments of two slices of 1,024 bytes long (R160,
R165). -/
def frameOk (bs : List Byte) : Bool := bs.length ≤ 38 + 127 * (4 + 2 * 1024)

/-- A 32-byte group of the program's address space (R241). -/
def groupOk (g : Nat) : Bool := g < 2 ^ 27

/-- The wrong symbols of one read of a group: 3 check bytes, 32 data bytes and 4 address symbols (Table 10.1). -/
def errsOk (es : List (Nat × Byte)) : Bool := es.all fun (e : Nat × Byte) => e.1 < 39

/-- A word address of the register pages (R386). -/
def addrOk (a : Nat) : Bool := a < 2 ^ 20 && a % 4 = 0

/-- A read that a requester can make: a word of the pages, or at the host port up to 512 bytes of BAR0 (R366). -/
def ReadAt.wf (q : Requester) : ReadAt → Bool
  | .page addr => addrOk addr
  | .bar0 off n => q = .host && off + n ≤ 2 ^ 26 && n ≤ 512

def Station.wf (s : Station) : Bool := s.outLen ≤ 1024 && s.inLen ≤ 1024 && s.branch < 128
def RingRow.wf (r : RingRow) : Bool := r.pos < 128 && r.outLen ≤ 1024 && r.inLen ≤ 1024
def JoinReq.wf (r : JoinReq) : Bool := r.outLen ≤ 1024 && r.inLen ≤ 1024 && r.hops < 2 ^ 16
def JoinAck.wf (a : JoinAck) : Bool := a.layout.length ≤ 127 && a.layout.all RingRow.wf && a.layoutId < 2 ^ 16

/-- A mailbox message (R180): 14-bit addresses, one of 32 entries and up to 256 bytes. -/
def MbxMsg.wf (m : MbxMsg) : Bool := m.src < 2 ^ 14 && m.dest < 2 ^ 14 && m.entry < 32 && m.len ≤ 256
    && m.data.length ≤ 256

/-- A lease payload (Table 8.7). -/
def Lease.wf (l : Lease) : Bool :=
  1 ≤ l.sub && l.sub ≤ 4 && l.peer < 256 && l.pair < 2 ^ 14 && l.lepoch < 2 ^ 32 && l.lbeat < 2 ^ 64

def WHdr.wf (h : WHdr) : Bool := h.bseq < 2 ^ 32

/-- The groups of an INPUT block: at most 8 (Table 8.2). -/
def groupsOk (gs : List (Nat × BitVec 256)) : Bool := gs.length ≤ 8 && gs.all fun (g : Nat × BitVec 256) => g.1 < 2 ^ 16

/-- The entries of a LOADLOG block: at most 8, each a task, an index and a value (Table 8.2). -/
def logOk (es : List (Nat × Nat × Nat)) : Bool :=
  es.length ≤ 8 && es.all fun (e : Nat × Nat × Nat) => e.1 < 16 && e.2.2 < 2 ^ 64

/-- An item of a COPY or RESYNC block (Table 8.3). -/
def WItem.wf : WItem → Bool
  | .grp space idx _ => (space < 4 || space = 5) && idx < 2 ^ 27
  | .record key ver seq payload => key < 2 ^ 32 && ver < 2 ^ 16 && seq < 2 ^ 32 && payload.length ≤ 224
  | .recHead _ => true
  | .anchor sec _ _ => sec < 2 ^ 40
  | .mailbox e _ data => e < 32 && data.length ≤ 64
  | .leases rows => rows.all fun (r : Nat × Lease) => r.2.wf

def WStatus.wf (s : WStatus) : Bool := s.state < 8 && s.peer < 8 && s.role < 4 && s.branch < 128

def WSched.wf (s : WSched) : Bool :=
  (s.releases.all fun (r : Nat × Nat) => r.1 < 16) && (s.stretched.all fun (n : Nat) => n < 16)
    && (s.displaced.all fun (r : Nat × Nat) => r.1 < 16)

/-- A tagged request (Table 16.1): a payload of at most 1,028 bytes and a 16-byte tag. -/
def SspReq.wf (r : SspReq) : Bool := r.payload.length ≤ 1028 && r.tag.length = 16

/-- The payload length that a length code stands for (R328). -/
def dlcBytes (fd : Bool) (n : Nat) : Nat :=
  if n ≤ 8 then n else if fd then [12, 16, 20, 24, 32, 48, 64].getD (n - 9) 64 else 8

def CanFrame.wf (f : CanFrame) : Bool :=
  f.data.length = (if f.rtr then 0 else dlcBytes f.fdf f.dlc.toNat) && !(f.rtr && f.fdf)
      && (f.ide || f.id.toNat % 2 ^ 18 = 0)

def BootIn.wf (x : BootIn) : Bool := x.gensLost.all (fun (g : Nat) => g < 8) && x.badGroups.all groupOk
    && x.slotsLost.all (fun (s : Nat) => s < 12288)

/-- Whether a command's operands are in range. -/
def Instr.wellFormed : Instr → Bool
  | .suppliesValid x => x.wf
  | .resetNRise x => x.wf
  | .frameArrival _ bs => frameOk bs
  | .frameReturn _ f => frameOk f.bytes && f.unlocked.all fun (b : Nat) => b < 128
  | .linkDelayMeasurement _ trips turns => trips.length ≤ 16 && turns.length = trips.length
  | .enum _ branch stations _ => branch < 128 && stations.length ≤ 127 && stations.all Station.wf
  | .layout _ rows layoutId => layoutId < 2 ^ 16 && rows.length ≤ 127 && rows.all RingRow.wf
  | .joinReq _ r => r.wf
  | .joinAck _ a => a.wf
  | .mailboxRequest _ m => m.wf
  | .mailboxResponse _ m _ => m.wf
  | .managementFrame _ epoch l _ => epoch < 2 ^ 32 && l.wf
  | .leaseLapse pair _ => pair < 2 ^ 14
  | .status h s => h.wf && s.wf
  | .nak h bseq => h.wf && bseq < 2 ^ 32
  | .input h gs => h.wf && groupsOk gs
  | .sched h s => h.wf && s.wf
  | .mark h task count => h.wf && task < 16 && count < 2 ^ 32
  | .loadlog h es => h.wf && logOk es
  | .copy h items => h.wf && items.length ≤ 8 && items.all WItem.wf
  | .copyEnd h task relBeat _ _ _ endCode => h.wf && task < 16 && relBeat < 2 ^ 64 && endCode < 256
  | .ack h task relBeat _ _ _ => h.wf && task < 16 && relBeat < 2 ^ 64
  | .seamBlock h hash _ => h.wf && hash.length = 32
  | .resync h items _ => h.wf && items.length ≤ 8 && items.all WItem.wf
  | .openSession _ payload => payload.length ≤ 1024
  | .read r => r.wf
  | .write r => r.wf
  | .imageBegin r => r.wf
  | .imageData r => r.wf
  | .imageEnd r => r.wf
  | .resole r => r.wf
  | .run r => r.wf
  | .stop r => r.wf
  | .step r => r.wf
  | .otpBurn r => r.wf
  | .recorderRead r => r.wf
  | .health r => r.wf
  | .scrubRead g e1 e2 => groupOk g && errsOk e1 && errsOk e2
  | .watchReread g e1 e2 => groupOk g && errsOk e1 && errsOk e2
  | .aoEvaluation _ readback headroom => readback < 2 ^ 16 && headroom < 2 ^ 16
  | .loopStep _ e1 e2 => errsOk e1 && errsOk e2
  | .canFrameReceived _ f e1 e2 => f.wf && errsOk e1 && errsOk e2
  | .canTransmissionEnd _ _ _ e1 e2 => errsOk e1 && errsOk e2
  | .canBusError _ kind _ _ => kind < 8
  | .canObjectWrite _ addr _ => addrOk addr
  | .recorderOccurrence src _ ws => src < 25 && ws.length ≤ 12
  | .hostInputWrite off bs => off + bs.length ≤ 4096
  | .hostUnmappedWrite off => off < 2 ^ 25
  | .registerWrite q a _ => a.addr < 2 ^ 20 && (q = .host || (a.addr % 4 = 0 && a.n = 4))
  | .configurationWrite _ _ _ target => target < 16
  | .lowWordRead q a => a.wf q
  | .bringUpEnd | .bootEnd .. | .resetNFall | .powerFailWarning | .keepUnseal | .supplyInvalid | .vfieldLoss
  | .islandPowerUp | .safeFlagWritten | .safeFlagClearWritten | .paceWindowEnd .. | .completionTimeout ..
  | .beat | .holdExpired | .overrunLimit .. | .stretchedRelease .. | .ackWaitLimit .. | .strandDispatch ..
  | .headCommit | .movCtlWrite .. | .nop .. | .strand .. | .alert .. | .chkin .. | .recev .. | .time ..
  | .tslive .. | .getf .. | .putf .. | .tel .. | .ld .. | .ldn .. | .andBit .. | .andnBit .. | .orBit ..
  | .ornBit .. | .xorBit .. | .xornBit .. | .st .. | .stn .. | .setBit .. | .rst .. | .edgp .. | .edgn ..
  | .ldl .. | .andl .. | .orl .. | .xorl .. | .notl .. | .lcon .. | .lcc .. | .wtol .. | .addAddi ..
  | .subSubi .. | .mulMuli .. | .divDivi .. | .divuDivui .. | .modModi .. | .moduModui .. | .andAndi ..
  | .orOri .. | .xorXori .. | .shlShli .. | .shrShri .. | .sarSari .. | .rolRoli .. | .cmpCmpi .. | .movMovi ..
  | .movl .. | .movh .. | .bfx .. | .bfxs .. | .bfi .. | .clz .. | .bprm .. | .ltow .. | .adr .. | .addD ..
  | .subD .. | .mulD .. | .divD .. | .divuD .. | .modD .. | .moduD .. | .cmpD .. | .movD .. | .sxt ..
  | .shlD .. | .shrD .. | .sarD .. | .singleArithmetic .. | .fcmp .. | .fabsFneg .. | .itofUtof ..
  | .ftoiFtou .. | .doubleArithmetic .. | .dcmp .. | .dabsDneg .. | .itod .. | .ltod .. | .dtoi .. | .dtol ..
  | .stod .. | .dtos .. | .load .. | .store .. | .bra .. | .branchIfCondition .. | .bl0tBl0f .. | .call ..
  | .callr .. | .ret .. | .ton .. | .tof .. | .tp .. | .rto .. | .ctu .. | .ctd .. | .ctud ..
  | .complication .. | .regTrimWrite .. | .holdoverEntry | .regSlotSelWrite .. | .calLatch .. | .calCommit ..
  | .calDstPlus1h .. | .calDstMinus1h .. | .calendarSecond | .calOscStop | .vbakCheck .. | .calWakeWrite ..
  | .calWakeDue | .cyclicFrameSend .. | .timeFrameSend .. | .frameAbort .. | .frameNotReturned ..
  | .lossOfSignal .. | .unfold .. | .mailboxGo .. | .mailboxTimeout ..
  | .mbxDoneClear .. | .inboxPop .. | .renew | .leaseActsStop | .handover .. | .weltLinkSilence
  | .weltLinkUp .. | .ident .. | .lockoutEnd | .sessionTimeout | .preCarryPass | .resoleTimeout | .migration
  | .migrationCommit | .otpBurnDone .. | .keepRecordCommit | .recordWrite .. | .recordRead ..
  | .startUpScanDone | .wkmInjWrite .. | .fieldInputFrame .. | .outputFrameBetweenBeats .. | .fieldKeepAlive
  | .outputFrameApply | .silenceExpiry | .fieldDieDown | .diFilterAccept .. | .doOverload ..
  | .doOverloadClear .. | .doThermalShutdown .. | .doThermalRestart .. | .fldDorestartWrite ..
  | .complianceClear .. | .aoTrimReload .. | .aiConversion .. | .vfUv | .vfUvRecovery | .loopModeWrite ..
  | .loopEnableWrite .. | .plausibilityClear .. | .safetyLaneInboundFrame .. | .safetyLaneOutboundFrame ..
  | .safetyLaneTimeout | .siFilterAccept .. | .testPulse .. | .testPulseExtra .. | .discrepancyExpiry ..
  | .ss1Evaluation .. | .ssiFrame .. | .encoderEvaluation .. | .offPulse .. | .offPulseExtra ..
  | .sqThermalShutdown .. | .safetyReset .. | .safReqWrite .. | .safConfirmWrite .. | .signatureCheck ..
  | .canRequest .. | .canCancel .. | .canFree .. | .canRecover .. | .canRecoveryDone .. | .canInitWrite ..
  | .ttCycleStart .. | .ttTimeMark .. | .ttRefMiss .. | .watchdogService .. | .watchdogClose | .rcStop
  | .tbStop | .ratio .. | .recordDequeue | .mergedHeaderWriteback .. | .recorderScanDone | .snap ..
  | .talPselWrite .. | .talSctlWrite .. | .bandwidthWindowEnd | .hostDoorbell .. | .pciePerst | .pcieLinkUp ..
  | .pcieLinkDown | .pageKeyWrite .. | .portUp .. | .canIntegration .. | .serviceFrameDropped .. => true

end Sys2Proof
end

