-- ==== Sys2Proof/Safety.lean ====
section
/-! DEFINITION. What a run keeps: OTP bits only go from 0 to 1 (Table 16.4), stored data stays in canonical form, and
the waiting commands are well formed. -/

namespace Sys2Proof.Machine

/-- Every bit of `x` is set in `y`. -/
abbrev bitsKept {w : Nat} (x y : BitVec w) : Prop := x &&& y = x

/-- OTP that has only been burned: the factory area and the service key stay, no other bit goes from 1 to 0. -/
structure Otp.Burned (a b : Otp) : Prop where
  factory : b.factory = a.factory
  serviceKey : b.serviceKey = a.serviceKey
  revoked : bitsKept a.keyRevoked b.keyRevoked
  keys : ∀ i : Fin 4, bitsKept (a.keyHash[i]) (b.keyHash[i])
  gens : ∀ i : Fin 8, bitsKept (a.gens[i]) (b.gens[i])

/-- The stored data in canonical form: recorder area, memory cells, registers. -/
def State.canonical (s : State) : Bool := s.area.wf && s.core.mem.cells.wf && s.core.dev.regs.wf

/-- What every step keeps, from an OTP content `o` onward: OTP holds every bit of `o`, the recorder area is canonical,
and the waiting commands are well formed. -/
structure State.Inv (o : Otp) (s : State) : Prop where
  otp : o.Burned s.otp
  area : s.area.wf = true
  waiting : ∀ c ∈ s.pending, c.wellFormed = true

end Sys2Proof.Machine
end

