-- ==== Sys2Proof/Certificates/Slice0/Obligations.lean ====
section
/-! DEFINITION. The statements for the provers, and the words they are written in. -/

namespace Sys2Proof.Claims

open Sys2Proof.Machine

/-! ### Instruction commands -/

/-- The instance on train `tr` can execute an instruction that reads `srcs` and goes to address `a`: the core has its
supplies, the instance is open and not at its end, fewer than 511 instructions of it have retired, the registers read
are at hand (R61), and `a` lies in the active half (R98). -/
structure ReadyTo (s : State) (tr : Fin 4) (r : Run) (srcs : Srcs) (a : Word) : Prop where
  powered : s.powered = true
  onTrain : s.core.dev.run tr = some r
  opened : r.opened = true
  going : r.exit = none
  room : r.retired < 511
  operands : s.core.dev.ready r srcs = true
  fetch : s.core.inHalf a = true

/-- The instance on train `tr` can execute an instruction that goes to the next one. -/
abbrev Ready (s : State) (tr : Fin 4) (r : Run) (srcs : Srcs) : Prop := ReadyTo s tr r srcs (r.pc + 4)

/-- The registers an instruction of the instance reads. -/
abbrev read (s : State) (r : Run) : Regs := s.core.dev.seen r

/-- An instance at the start of an instruction: a load delay ends with it. -/
def start (r : Run) : Run := { r with delay := [], via := none }

/-- The instance `r'` with one more instruction retired, the one at `r.pc`, at the time of core `c`. -/
def counted (c : Core) (r r' : Run) : Run :=
  { r' with retired := r.retired + 1, lastPc := some r.pc, wait := none, issued := r.issued ++ [(r.pc, c.dev.tb)] }

/-- State `s` with core `c` and the instance `r'` on train `tr`, its instruction retired: nothing else differs from `c`,
and nothing outside the core from `s`. -/
def retired (s : State) (c : Core) (tr : Fin 4) (r r' : Run) : State :=
  { s with core := c.setRun tr (some (counted c r r')) }

/-- Instruction `mk` only changes its instance, by `f` from the registers read, and moves to the next instruction. -/
def RegOp (mk : Fin 4 → Body → Instr) (legal : Body → Bool) (srcs : Body → Srcs) (f : Body → Regs → Run → Run) : Prop :=
  ∀ (s : State) (tr : Fin 4) (r : Run) (b : Body), Ready s tr r (srcs b) → legal b = true →
    exec (mk tr b) s = .next (retired s s.core tr r (f b (read s r) (start r)).advance)

/-- A word instruction in its register form and its immediate form: Wd and FLAGS take the result `f`; the immediate is
zero-extended where `zx`, else sign-extended. -/
def WordOp (mk : Fin 4 → Bool → Body → Instr) (zx : Bool) (f : Nat → Nat → Res) : Prop :=
  RegOp (fun tr b => mk tr false b) legalWR (fun b => { w := [fS b, fT b] })
    (fun b v r => r.putRes (fD b) (f (v.getW (fS b)) (v.getW (fT b)))) ∧
  RegOp (fun tr b => mk tr true b) legalWI (fun b => { w := [fS b] })
    (fun b v r => r.putRes (fD b) (f (v.getW (fS b)) (if zx then fImm12 b else sext12 b)))

/-- A 32-bit shift by Wt[4:0] or by an immediate up to 31. -/
def ShiftOp (mk : Fin 4 → Bool → Body → Instr) (f : Nat → Nat → Res) : Prop :=
  RegOp (fun tr b => mk tr false b) legalWR (fun b => { w := [fS b, fT b] })
    (fun b v r => r.putRes (fD b) (f (v.getW (fS b)) (v.getW (fT b) % 32))) ∧
  RegOp (fun tr b => mk tr true b) (fun b => legalWI b && decide (fImm12 b ≤ 31)) (fun b => { w := [fS b] })
    (fun b v r => r.putRes (fD b) (f (v.getW (fS b)) (fImm12 b)))

/-- A 64-bit instruction on pairs. -/
def PairOp (mk : Fin 4 → Body → Instr) (f : Nat → Nat → Res) : Prop :=
  RegOp mk legalD3 (fun b => { w := pairW (fS b) ++ pairW (fT b) })
    (fun b v r => r.putResD (fD b) (f (v.getD (fS b)) (v.getD (fT b))))

/-- A 64-bit shift by Wt[5:0]. -/
def PairShift (mk : Fin 4 → Body → Instr) (f : Nat → Nat → Res) : Prop :=
  RegOp mk (fun b => legalWR b && pairOk (fD b) && pairOk (fS b)) (fun b => { w := pairW (fS b) ++ [fT b] })
    (fun b v r => r.putResD (fD b) (f (v.getD (fS b)) (v.getW (fT b) % 64)))

/-- An accumulator instruction of format L. -/
def AccOp (mk : Fin 4 → Body → Instr) (top : Nat) (srcs : Body → Srcs) (f : Body → Regs → Bool) : Prop :=
  RegOp mk (fun b => legalL b top) srcs (fun b v r => r.putL (fL b) (f b v))

/-- A device that only noted something: events, counts, recorder occurrences and what was sent may differ. -/
def Noted (d d' : Dev) : Prop :=
  d' = { d with regs := d'.regs, rcd := d'.rcd, sent := d'.sent, samplePend := d'.samplePend, checkN := d'.checkN }

/-- Reading the bytes `as` of work memory meets no stored error and no poisoned byte, and the read list has room
(R62, R243, R247). -/
structure CleanRead (s : State) (r : Run) (as : List Nat) : Prop where
  clean : ∀ a ∈ as, s.core.readClass (a / 32) [] = .clean
  usable : ∀ a ∈ as, s.core.mem.usable a 1 = true
  room : r.reads.length + as.length ≤ 128

/-- What a clean read leaves of core and instance: memory as it was, the device but for what was noted, the instance but
for its read list and its undeclared mark. -/
structure Reading (s : State) (r : Run) (c' : Core) (r' : Run) : Prop where
  mem : c'.mem = s.core.mem
  dev : Noted s.core.dev c'.dev
  run : r' = { r with reads := r'.reads, undeclared := r'.undeclared }

/-- Bit `n` of work memory as the instance reads it. -/
def bitSeen (s : State) (r : Run) (a n : Nat) : Bool :=
  (s.core.readByte r a).getLsbD (n % 8)

/-- LD to XORN: Ln becomes `f` of Ln and the bit; nothing else is written (R83). -/
def BitRead (mk : Fin 4 → Body → Instr) (reads : Bool) (f : Bool → Bool → Bool) : Prop :=
  ∀ (s : State) (tr : Fin 4) (r : Run) (b : Body) (a : Nat),
    Ready s tr r { l := if reads then [fL b] else [] } →
    s.core.place r.task false (fBit b / 8) 1 = .mem [a] → CleanRead s r [a] →
    ∃ c' r', Reading s (start r) c' r' ∧
      exec (mk tr b) s = .next (retired s c' tr r
        (r'.putL (fL b) (f ((read s r).getL (fL b)) (bitSeen s (start r) a (fBit b)))).advance)

/-- A byte with bit `n` written. -/
def withBit (x : Byte) (n : Nat) (v : Bool) : Byte :=
  BitVec.ofNat 8 (setBits x.toNat (n % 8) (n % 8) (if v then 1 else 0))

/-- ST, STN, and SET and RST where Ln = 1: the addressed bit takes `f` of Ln, by a read-modify-write of its byte in the
let-down buffer (R85). -/
def BitWrite (mk : Fin 4 → Body → Instr) (when : Bool → Bool) (f : Bool → Bool) : Prop :=
  ∀ (s : State) (tr : Fin 4) (r : Run) (b : Body) (a : Nat),
    Ready s tr r { l := [fL b] } → when ((read s r).getL (fL b)) = true →
    s.core.place r.task true (fBit b / 8) 1 = .mem [a] → Core.needsSplit (start r) [a / 32] = false →
    CleanRead s r [a] →
    ∃ c' r', Reading s (start r) c' r' ∧
      (let x := c'.storeMem r'
          [(a, withBit (s.core.readByte (start r) a) (fBit b) (f ((read s r).getL (fL b))))]
          [fBit b / 8]
       exec (mk tr b) s = .next (retired s x.1 tr r x.2.advance))

/-- SET and RST where Ln = 0 write nothing and read nothing (R85). -/
def BitKept (mk : Fin 4 → Body → Instr) : Prop :=
  ∀ (s : State) (tr : Fin 4) (r : Run) (b : Body), Ready s tr r { l := [fL b] } → (read s r).getL (fL b) = false →
    s.core.place r.task true (fBit b / 8) 1 ≠ .none →
    exec (mk tr b) s = .next (retired s s.core tr r (start r).advance)

/-- EDGP and EDGN on a bit that is not primed: Ln becomes `f` of Ln and the bit, and the bit becomes the old Ln (R86).
-/
def BitEdge (mk : Fin 4 → Body → Instr) (f : Bool → Bool → Bool) : Prop :=
  ∀ (s : State) (tr : Fin 4) (r : Run) (b : Body) (a : Nat),
    Ready s tr r { l := [fL b] } → s.core.dev.primes = [] →
    s.core.place r.task true (fBit b / 8) 1 = .mem [a] → Core.needsSplit (start r) [a / 32] = false →
    CleanRead s r [a] →
    ∃ c' r', Reading s (start r) c' r' ∧
      (let l := (read s r).getL (fL b)
       let x := c'.storeMem (r'.putL (fL b) (f l (bitSeen s (start r) a (fBit b))))
          [(a, withBit (s.core.readByte (start r) a) (fBit b) l)] [fBit b / 8]
       exec (mk tr b) s = .next (retired s x.1 tr r x.2.advance))

/-- The addresses of an access, byte by byte. -/
abbrev span (a n : Nat) : List Nat := (List.range n).map (a + ·)

/-- A timer instruction can use slot `n`: it is assigned to the task, not poisoned, its storage reads clean, and the
read list and the let-down buffer have room (R63, R101, R140). -/
structure SlotReady (s : State) (r : Run) (n : Nat) : Prop where
  sound : (alGet n ({} : Slot) s.core.dev.slots).poison = false
  assigned : (alGet n ({} : Slot) s.core.dev.slots).assigned = true
  owner : (alGet n ({} : Slot) s.core.dev.slots).owner = r.task
  clean : s.core.readClass (slotGroup n) [] = .clean
  room : r.reads.length < 128
  buffer : Core.needsSplit (start r) [65536 + n] = false

/-- What reading a slot leaves of core and instance. -/
structure SlotReading (s : State) (r : Run) (c' : Core) (r' : Run) : Prop where
  mem : c'.mem = s.core.mem
  dev : Noted s.core.dev c'.dev
  run : r' = { start r with reads := r'.reads, noDorm := true }

/-- A timer instruction: the slot is evaluated with the release-beat time, Wp, Ln and Ln+1, Ln takes Q (R102, R103). -/
def TimerOp (mk : Fin 4 → Body → Instr) (two : Bool) (step : Slot → Bool → Bool → Nat → Nat → Slot × Bool) : Prop :=
  ∀ (s : State) (tr : Fin 4) (r : Run) (b : Body),
    Ready s tr r { w := [fP b], l := if two then [fL b, fL b + 1] else [fL b] } → fldB b 16 12 = 0 →
    (two = true → fL b ≤ 6) → SlotReady s r (fSlot b) →
    ∃ c' r', SlotReading s r c' r' ∧
      (let v := read s r
       let y := slotEval step (slotSeen s.core (start r) (fSlot b)).1 (s.core.dev.task r.task).relTime (v.getW (fP b))
          (v.getL (fL b)) (v.getL (fL b + 1))
       exec (mk tr b) s = .next (retired s (c'.touch r.age (65536 + fSlot b)) tr r
         (({ r' with slots := alPut (fSlot b) y.1 r'.slots } : Run).putL (fL b) y.2).advance))

/-- The accumulators that follow Ln take a list of values. -/
def putLs (r : Run) (l : Nat) : List Bool → Run
  | [] => r
  | v :: vs => putLs (r.putL l v) (l + 1) vs

/-- A counter instruction: the record at the address of its operands takes `step`'s record, the accumulators from Ln
upward its outputs (R106 to R108). -/
def CounterOp (mk : Fin 4 → Fin 4 → Body → Instr) (n : Nat) (step : Nat → Int → Cnt → List Bool → Cnt × List Bool) :
    Prop :=
  ∀ (s : State) (tr k : Fin 4) (r : Run) (b : Body) (a : Nat),
    Ready s tr r { w := (if k.val = 3 then pairW (fP b) else [fP b]) ++ [fldB b 16 13],
                   l := (List.range n).map (fL b + ·) } →
    fL b + n ≤ 8 → (k.val = 3 → pairOk (fP b) = true) →
    a = ((read s r).getW (fldB b 16 13) + 16 * fldB b 12 0) % 2 ^ 32 →
    Core.accessTrap (s.core.place r.task true a 16) a 16 = none → Core.needsSplit (start r) [a / 32] = false →
    CleanRead s r (span a 9) →
    ∃ c' r', Reading s (start r) c' r' ∧
      (let v := read s r
       let y := step k (cntPv k v (fP b)) (cntOf k ((span a 9).map (s.core.readByte (start r))))
          ((List.range n).map fun i => v.getL (fL b + i))
       let x := c'.storeMem r' ((span a 9).zip (cntBytes y.1)) (span a 9)
       exec (mk tr k b) s = .next (retired s x.1 tr r (putLs x.2 (fL b) y.2).advance))

/-- ALERT, CHKIN and RECEV at the head: the effect joins the instance, to take place when it commits (R64, R109). -/
def HeadOp (mk : Fin 4 → Body → Instr) (legal : Body → Bool) (srcs : Body → Srcs) (e : Body → Regs → Effect) : Prop :=
  ∀ (s : State) (tr : Fin 4) (r : Run) (b : Body), Ready s tr r (srcs b) → legal b = true →
    s.core.isHead tr = true →
    exec (mk tr b) s = .next (retired s s.core tr r
      ({ start r with effects := r.effects ++ [e b (read s r)], noDorm := true } : Run).advance)

/-- A branch: taken where `cond`, to PC plus the offset, else to the next instruction; a path slip counts (R66, R98). -/
def BranchOp (mk : Fin 4 → Body → Bool → Instr) (srcs : Srcs) (cond : Regs → Bool) : Prop :=
  ∀ (s : State) (tr : Fin 4) (r : Run) (b : Body) (slip : Bool),
    (cond (read s r) = true → ReadyTo s tr r srcs (r.pc + offBytes b) →
      exec (mk tr b slip) s = .next (retired s (slipped s.core slip) tr r ((start r).goto (r.pc + offBytes b)))) ∧
    (cond (read s r) = false → Ready s tr r srcs →
      exec (mk tr b slip) s = .next (retired s (slipped s.core slip) tr r (start r).advance))

/-- TIME and TSLIVE: the pair Wd takes a time; the strand can no longer be dormant (R72). -/
def RegTime (mk : Fin 4 → Body → Instr) (t : State → Run → Nat) : Prop :=
  ∀ (s : State) (tr : Fin 4) (r : Run) (b : Body), Ready s tr r {} → legalTime b = true →
    exec (mk tr b) s = .next (retired s s.core tr r (({ start r with noDorm := true } : Run).putD (fD b) (t s r)).advance)

/-- An encoding that `legal` refuses: taken as a trap at the head, awaited elsewhere (R64, R70, R82). -/
def Checked (mk : Fin 4 → Body → Instr) (legal : Body → Bool) : Prop :=
  ∀ (s : State) (tr : Fin 4) (r : Run) (b : Body), s.powered = true → s.core.dev.run tr = some r → r.opened = true →
    r.exit = none → legal b = false →
    exec (mk tr b) s = .next { s with core :=
      (if s.core.isHead tr = true then s.core.takeTrap tr r tILLEGAL_ENC none else s.core.waitFor tr r .head) }

/-- State `s` where the instruction on train `tr` traps: taken at the head, awaited elsewhere (R64, R70). -/
def trapped (s : State) (tr : Fin 4) (r : Run) (code : Nat) : State :=
  { s with core := if s.core.isHead tr = true then s.core.takeTrap tr r code none else s.core.waitFor tr r .head }

/-- The return stack has room for a call: D below 16, or below 255 in WRAP mode (R99, R100). -/
abbrev roomToCall (s : State) (r : Run) : Prop :=
  (read s r).d ≠ 255 ∧ ((read s r).d = 16 → trapMode s.core.dev = false)

/-- What a flag write makes of Z, N, C, V and U; every other bit of FLAGS stays, but that the sticky bits `st` are
set. -/
structure FlagsAre (f : FlagWrite) (z n c v : Bool) (st : Word) : Prop where
  zero : ∀ x, flagOf (f.apply x) 0 = z
  negative : ∀ x, flagOf (f.apply x) 1 = n
  carry : ∀ x, flagOf (f.apply x) 2 = c
  overflow : ∀ x, flagOf (f.apply x) 3 = v
  unordered : ∀ x, flagOf (f.apply x) 4 = false
  others : ∀ x, f.apply x &&& ~~~ 0x1F#32 = x &&& ~~~ 0x1F#32 ||| st

/-- A result `r` of `w` bits with its flags. -/
def ResultIs {w : Nat} (x : Res) (r : BitVec w) (c v : Bool) (st : Word) : Prop :=
  x.1 = r.toNat ∧ FlagsAre x.2 (r = 0) r.msb c v st

/-- A logic result: Z, N and U are written, C and V stay. -/
def LogicIs {w : Nat} (x : Res) (r : BitVec w) : Prop :=
  x.1 = r.toNat ∧ ∀ f, flagOf (x.2.apply f) 0 = decide (r = 0) ∧ flagOf (x.2.apply f) 1 = r.msb ∧
    flagOf (x.2.apply f) 4 = false ∧ x.2.apply f &&& ~~~ 0x13#32 = f &&& ~~~ 0x13#32

/-- The quotient and remainder instructions of one width: what their results are for every dividend and divisor. -/
def DivResults (w : Nat) : Prop :=
  (∀ x y : BitVec w, ResultIs (divRes w x.toNat y.toNat)
    (if y = 0 then (if x.msb then BitVec.intMin w else BitVec.intMax w)
     else if x = BitVec.intMin w ∧ y = -1 then BitVec.intMax w else x.sdiv y) false false
    (if y = 0 then fDZ else if x = BitVec.intMin w ∧ y = -1 then fSAT else 0)) ∧
  (∀ x y : BitVec w, ResultIs (divuRes w x.toNat y.toNat) (if y = 0 then -1 else x / y) false false
    (if y = 0 then fDZ else 0)) ∧
  (∀ x y : BitVec w, ResultIs (modRes w x.toNat y.toNat) (if y = 0 then 0 else x.srem y) false false
    (if y = 0 then fDZ else 0)) ∧
  (∀ x y : BitVec w, ResultIs (moduRes w x.toNat y.toNat) (if y = 0 then 0 else x % y) false false
    (if y = 0 then fDZ else 0))

/-- The register a `putW` gives, seen from the next instruction: the register file of one instance (R61). -/
abbrev seenW (d : Dev) (r : Run) (i : Nat) : Nat := (d.seen r).getW i

/-! ### Commands of the block -/

/-- A state whose device is `d`: memory, OTP, the recorder area and the waiting commands are as they were. -/
abbrev withDev (s : State) (d : Dev) : State := { s with core := { s.core with dev := d } }

/-- The command answers a next state in which only the device differs, and the device has `P`. -/
def ToDev (c : Instr) (s : State) (P : Dev → Prop) : Prop := ∃ d, exec c s = .next (withDev s d) ∧ P d

/-- The command answers a next state in which only the core differs, and the core has `P`. -/
def ToCore (c : Instr) (s : State) (P : Core → Prop) : Prop := ∃ k, exec c s = .next { s with core := k } ∧ P k

/-- The command answers a next state that has `P`. -/
def ToState (c : Instr) (s : State) (P : State → Prop) : Prop :=
  ∃ t, exec c s = .next t ∧ t.pending = s.pending ∧ P t

/-- The command answers the state as it was. -/
abbrev Stays (c : Instr) (s : State) : Prop := exec c s = .next s

/-- An instance that begins at `start`, before its STRAND instruction. -/
def Run.fresh (n sid : Nat) (start : Word) (age : Nat) (prev retry : Bool) : Run :=
  { task := n, sid := sid, start := start, pc := start, age := age, prevSealed := some prev, timedOut := retry }

/-- The device once a WELT block in its turn has been received (R189). -/
def inTurn (d : Dev) (h : WHdr) (b : WBlock) : Dev :=
  (d.nextFree.bytesIn 4 (d.wireLen b)).modWlt fun w => { w with rxSeq := (h.bseq + 1) % 2 ^ 32 }

/-- A WELT block: with the link up, one in its turn whose check is good has its effect `f`; one whose check fails is
asked for again, and a resent one that fails takes the link down; without a pair nothing arrives (R189, R190). -/
def BlockOp (mk : WHdr → Instr) (b : WBlock) (f : Core → Core) : Prop :=
  ∀ (s : State) (h : WHdr), s.powered = true →
    (s.core.dev.paired = false → Stays (mk h) s) ∧
    (s.core.dev.paired = true → s.core.dev.fbit F.WLT_STAT_LINK_UP = true →
      s.core.dev.wlt.awaited.contains h.bseq = false → h.bseq = s.core.dev.wlt.rxSeq →
      (h.good = true → exec (mk h) s = .next { s with core := f (s.core.onDev fun d => inTurn d h b) }) ∧
      (h.good = false → ToDev (mk h) s fun d => d.wlt.awaited = h.bseq :: s.core.dev.wlt.awaited ∧
        d.fbit F.WLT_STAT_LINK_UP = true)) ∧
    (s.core.dev.paired = true → s.core.dev.fbit F.WLT_STAT_LINK_UP = true →
      s.core.dev.wlt.awaited.contains h.bseq = true → h.good = false → ToDev (mk h) s fun d =>
        d.fbit F.WLT_STAT_LINK_UP = false ∧ d.fget F.WLT_STAT_PEER = 0 ∧ d.wlt.awaited = [])

/-- The bytes a tagged request is signed over. -/
abbrev signedPart (cmd : Nat) (r : SspReq) : List Byte := sspMsg cmd r.seq.toNat r.session 0 false r.payload

/-- The device once a tagged request has been taken as the session's next (R372). -/
def accepted (d : Dev) (cmd : Nat) (r : SspReq) : Dev :=
  let d := (d.bytesIn 6 (ethBytes ((signedPart cmd r).length + 16))).modSess fun x => { x with lastAt := d.tb }
  ((d.modSess fun x => { x with seq := r.seq.toNat, busy := some cmd }).fset F.SVC_SESS_SEQ r.seq.toNat).tally 0xF00

/-- A tagged command of the service port: authenticated, next in sequence and in one of its device states, it has the
effect `f`; in another state it is answered STATE; an authentication failure changes no session (R371, R372, R374). -/
def RequestOp (mk : SspReq → Instr) (cmd : Nat) (states : List DevState) (f : State → SspReq → Core → Core) : Prop :=
  ∀ (s : State) (r : SspReq), s.powered = true →
    (∀ x, s.core.dev.svc.sess = some x → x.id = r.session → sspTag x.ks (signedPart cmd r) = r.tag → x.busy = none →
      r.seq.toNat = (x.seq + 1) % 65536 → x.seq < 65536 →
      (s.core.dev.fbit F.SVC_STAT_TEST_EN = false → s.core.dev.st ∈ states →
        exec (mk r) s = .next { s with core := f s r (s.core.onDev fun d => accepted d cmd r) }) ∧
      (s.core.dev.st ∉ states → exec (mk r) s = .next (withDev s ((accepted s.core.dev cmd r).respond sSTATE [])))) ∧
    (∀ x, s.core.dev.svc.sess = some x → (x.id ≠ r.session ∨ sspTag x.ks (signedPart cmd r) ≠ r.tag) →
      ToDev (mk r) s fun d => d.svc = s.core.dev.svc ∧ d.fbit F.SVC_EVT_AUTH_FAIL = true) ∧
    (∀ x, s.core.dev.svc.sess = some x → x.id = r.session → sspTag x.ks (signedPart cmd r) = r.tag → x.busy = none →
      r.seq.toNat = x.seq → ToDev (mk r) s fun d =>
        d.svc.sess = some { x with lastAt := s.core.dev.tb } ∧ d.sent = .ssp x.resp :: s.core.dev.sent) ∧
    (s.core.dev.svc.sess = none → ToDev (mk r) s fun d =>
      d.svc = s.core.dev.svc ∧ d.fbit F.SVC_EVT_AUTH_FAIL = true)

/-- What a watchdog fault of cause `c` leaves: the state FAULTED, and its cause unless an earlier one stands (R348). -/
def faulted (d d' : Dev) (c : Nat) : Prop :=
  d'.fget F.WDG_STAT_STATE = 4 ∧
  d'.fget F.WDG_FLT_CAUSE = if d.fget F.WDG_FLT_CAUSE = 0 then c else d.fget F.WDG_FLT_CAUSE

/-- The registers outside the pages `ps`, TALLY, RECORDER and the host page stay. -/
def within (ps : List Nat) (d d' : Dev) : Prop :=
  ∀ a, a / 0x10000 ∉ 0xC :: 0xD :: 0xE :: ps → d'.rget a = d.rget a

/-- The registers a floating-point instruction reads: `w` and the rounding mode. -/
abbrev rounded (w : List Nat) : Srcs := { w := w, fl := rmMask }

/-- Whether a datum is a NaN. -/
def isNaN : FVal → Bool
  | .nan _ => true
  | _ => false

/-- The flags of a compare with outcome `k`, `nv` where an operand is a signalling NaN (R94). -/
structure CompareIs (f : FlagWrite) (k : FCmp) (nv : Bool) : Prop where
  zero : ∀ x, flagOf (f.apply x) 0 = decide (k = .equal)
  negative : ∀ x, flagOf (f.apply x) 1 = decide (k = .less)
  carry : ∀ x, flagOf (f.apply x) 2 = decide (k = .equal ∨ k = .greater)
  overflow : ∀ x, flagOf (f.apply x) 3 = false
  unordered : ∀ x, flagOf (f.apply x) 4 = decide (k = .unordered)
  others : ∀ x, f.apply x &&& ~~~ 0x1F#32 = x &&& ~~~ 0x1F#32 ||| if nv then fNV else 0

/-- The single-precision instructions complete with their result in Wd and FLAGS (R93 to R95). -/
def SingleForms : Prop :=
  (∀ op, RegOp (fun tr b => .singleArithmetic tr op b) legalWR (fun b => rounded [fS b, fT b]) (fun b v r =>
    let x := Fmt.single.arith op (rmOf v.flags) (v.getW (fS b)) (v.getW (fT b))
    (r.putW (fD b) x.bits).putF (stickyOnly x.sticky))) ∧
  RegOp .fcmp (fun b => legalWR b && fD b = 0) (fun b => { w := [fS b, fT b] })
    (fun b v r => r.putF (cmpFlags (Fmt.single.unpack (v.getW (fS b))) (Fmt.single.unpack (v.getW (fT b))))) ∧
  (∀ neg, RegOp (fun tr b => .fabsFneg tr neg b) (fun b => legalWR b && fT b = 0) (fun b => { w := [fS b] })
    (fun b v r => r.putW (fD b) (signOp neg 31 (v.getW (fS b))))) ∧
  (∀ uns, RegOp (fun tr b => .itofUtof tr uns b) (fun b => legalWR b && fT b = 0) (fun b => rounded [fS b])
    (fun b v r =>
      let i : Int := if uns then v.getW (fS b) else signed 32 (v.getW (fS b))
      let x := Fmt.single.ofInt (rmOf v.flags) i
      (r.putW (fD b) x.bits).putF (stickyOnly x.sticky))) ∧
  (∀ uns, RegOp (fun tr b => .ftoiFtou tr uns b) (fun b => legalWR b && fT b = 0) (fun b => rounded [fS b])
    (fun b v r =>
      let x := if uns then Fmt.single.toInt (rmOf v.flags) (v.getW (fS b)) 0 (2 ^ 32 - 1)
        else Fmt.single.toInt (rmOf v.flags) (v.getW (fS b)) (-2 ^ 31) (2 ^ 31 - 1)
      (r.putW (fD b) (unsigned 32 x.1)).putF (stickyOnly x.2)))

/-- The double-precision instructions complete with their result in the pair or Wd and FLAGS (R93 to R95). -/
def DoubleForms : Prop :=
  (∀ op, RegOp (fun tr b => .doubleArithmetic tr op b) legalD3 (fun b => rounded (pairW (fS b) ++ pairW (fT b)))
    (fun b v r =>
      let x := Fmt.double.arith op (rmOf v.flags) (v.getD (fS b)) (v.getD (fT b))
      (r.putD (fD b) x.bits).putF (stickyOnly x.sticky))) ∧
  RegOp .dcmp (fun b => legalD3 b && fD b = 0) (fun b => { w := pairW (fS b) ++ pairW (fT b) })
    (fun b v r => r.putF (cmpFlags (Fmt.double.unpack (v.getD (fS b))) (Fmt.double.unpack (v.getD (fT b))))) ∧
  (∀ neg, RegOp (fun tr b => .dabsDneg tr neg b) (fun b => legalWR b && fT b = 0 && pairOk (fD b) && pairOk (fS b))
    (fun b => { w := pairW (fS b) }) (fun b v r => r.putD (fD b) (signOp neg 63 (v.getD (fS b))))) ∧
  RegOp .itod (fun b => legalWR b && fT b = 0 && pairOk (fD b)) (fun b => { w := [fS b] })
    (fun b v r => r.putD (fD b) (Fmt.double.ofInt 0 (signed 32 (v.getW (fS b)))).bits) ∧
  RegOp .ltod (fun b => legalWR b && fT b = 0 && pairOk (fD b) && pairOk (fS b)) (fun b => rounded (pairW (fS b)))
    (fun b v r =>
      let x := Fmt.double.ofInt (rmOf v.flags) (signed 64 (v.getD (fS b)))
      (r.putD (fD b) x.bits).putF (stickyOnly x.sticky)) ∧
  RegOp .dtoi (fun b => legalWR b && fT b = 0 && pairOk (fS b)) (fun b => rounded (pairW (fS b))) (fun b v r =>
    let x := Fmt.double.toInt (rmOf v.flags) (v.getD (fS b)) (-2 ^ 31) (2 ^ 31 - 1)
    (r.putW (fD b) (unsigned 32 x.1)).putF (stickyOnly x.2)) ∧
  RegOp .dtol (fun b => legalWR b && fT b = 0 && pairOk (fD b) && pairOk (fS b)) (fun b => rounded (pairW (fS b)))
    (fun b v r =>
      let x := Fmt.double.toInt (rmOf v.flags) (v.getD (fS b)) (-2 ^ 63) (2 ^ 63 - 1)
      (r.putD (fD b) (unsigned 64 x.1)).putF (stickyOnly x.2)) ∧
  RegOp .stod (fun b => legalWR b && fT b = 0 && pairOk (fD b)) (fun b => { w := [fS b] })
    (fun b v r =>
      let x := Fmt.convert .single .double 0 (v.getW (fS b))
      (r.putD (fD b) x.bits).putF (stickyOnly x.sticky)) ∧
  RegOp .dtos (fun b => legalWR b && fT b = 0 && pairOk (fS b)) (fun b => rounded (pairW (fS b))) (fun b v r =>
    let x := Fmt.convert .double .single (rmOf v.flags) (v.getD (fS b))
    (r.putW (fD b) x.bits).putF (stickyOnly x.sticky))

/-! ### What is due in a cycle -/

/-- BEAT: where beats occur, the steps of Table 2.1 in their order, from the beat tick; else nothing (R36). -/
def BeatForm (s : State) : Prop :=
  (s.core.dev.beats = true →
    exec .beat s = .next { s with core := ((s.core.onDev Dev.beatTick).settleCycles).beatSteps }) ∧
  (s.core.dev.beats = false → Stays .beat s)

/-- HOLD_EXPIRED: the member holds its safe values, and says so (R172). -/
def HoldForm (s : State) : Prop :=
  (s.core.holdDue = true → ToCore .holdExpired s fun c =>
    c.dev.fget F.LAC_STAT_MEMBER = 3 ∧ c.dev.fbit F.LAC_EVT_HOLD_EXPIRED = true) ∧
  (s.core.holdDue = false → Stays .holdExpired s)

/-- OVERRUN_LIMIT: a stretched cycle that has not completed at its limit is a task fault of cause 1 (R45, R47). -/
def OverrunForm (s : State) : Prop :=
  (∀ n : Fin 16, (s.core.dev.task n).stretched = true → (s.core.dev.task n).active = true → s.core.dev.st = .run →
    s.core.dev.stretchLimit n ≤ s.core.dev.tb → ToCore (.overrunLimit n) s fun c =>
      c = s.core.taskFault n 1 (s.core.dev.faultPc n) ∧
      (c.dev.task n).active = false ∧ (c.dev.task n).stretched = false ∧
      c.dev.fget F.ESC_FLT_CAUSE = (if s.core.dev.fget F.ESC_FLT_CAUSE = 0 then 1 else s.core.dev.fget F.ESC_FLT_CAUSE) ∧
      (s.core.dev.fbit (F.ESC_TCFG_FAULT_POL n) = false → (c.dev.task n).halted = true) ∧
      (s.core.dev.fbit (F.ESC_TCFG_FAULT_POL n) = true → c.dev.esc.safeFault = true)) ∧
  (∀ n : Fin 16, (s.core.dev.task n).stretched = false → Stays (.overrunLimit n) s)

/-- STRETCHED_RELEASE: a stretched task whose cycle has completed is released with the most recent beat's time; an alert
task without a pending alert waits for the next one (R45). -/
def StretchForm (s : State) : Prop :=
  (∀ n : Fin 16, (s.core.dev.task n).stretched = true → (s.core.dev.task n).active = false → s.core.dev.st = .run →
    (s.core.dev.task n).waitAck = false → (s.core.dev.task n).halted = false → s.core.dev.follows = false →
    ToCore (.stretchedRelease n) s fun c => (c.dev.task n).stretched = false ∧ (c.dev.task n).unpublished = false ∧
      (if s.core.dev.fbit (F.ESC_TCFG_TRIG n) && !(s.core.dev.task n).pendingAlert then (c.dev.task n).active = false
       else (c.dev.task n).active = true ∧ (c.dev.task n).relTime = s.core.dev.esc.lastBeat.getD 0)) ∧
  (∀ n : Fin 16, (s.core.dev.task n).stretched = false → Stays (.stretchedRelease n) s)

/-- ACK_WAIT_LIMIT: a copy still unacknowledged at the limit: the holder treats its partner as UNSYNC and makes the
stretched release at once (R44). -/
def AckWaitForm (s : State) : Prop :=
  (∀ n : Fin 16, (s.core.dev.task n).stretched = true → (s.core.dev.task n).active = false → s.core.dev.st = .run →
    (s.core.dev.task n).waitAck = true → s.core.dev.stretchLimit n ≤ s.core.dev.tb →
    ToCore (.ackWaitLimit n) s fun c =>
      (c.dev.task n).waitAck = false ∧ c.dev.fget F.WLT_STAT_PEER = 0 ∧ c.dev.fget F.ESC_FLT_CAUSE ≠ 0 ∧
      (s.core.dev.isHolder = true → (s.core.dev.task n).halted = false → (c.dev.task n).stretched = false)) ∧
  (∀ n : Fin 16, (s.core.dev.task n).stretched = false → Stays (.ackWaitLimit n) s)

/-- STRAND_DISPATCH: with none in flight, the strand at the served task's address begins on the train, as its oldest
instance (R59). -/
def DispatchForm (s : State) : Prop :=
  (∀ (tr : Fin 4) (n : Nat), s.core.dev.served = some n → s.core.dev.flight = [] →
    tr.val ≤ s.core.dev.fget F.MOV_CTL_TRAINS → (s.core.dev.wlt.await && s.core.dev.follows) = false →
    (s.core.dev.task n).cont = none → ToDev (.strandDispatch tr) s fun d =>
      d.run tr = some (Run.fresh n ((s.core.strandAt (s.core.dev.task n).pc).getD 0) (s.core.dev.task n).pc
        s.core.dev.mov.nextAge (s.core.dev.task n).prevSealed
        (s.core.dev.mov.retries.contains (n, (s.core.dev.task n).pc))) ∧
      d.mov.nextAge = s.core.dev.mov.nextAge + 1) ∧
  (∀ tr : Fin 4, (s.core.dev.served = none ∨ (s.core.dev.run tr).isSome = true) → Stays (.strandDispatch tr) s)

/-- COMPLETION_TIMEOUT: the instance is let down and its next execution is the retry; a timeout of the retry is lasting,
a task fault of cause 5 (R23, R67). -/
def TimeoutForm (s : State) : Prop :=
  ∀ tr : Fin 4,
    (∀ r, s.core.dev.run tr = some r → r.timedOut = false → ToCore (.completionTimeout tr) s fun c =>
      c.mem = s.core.mem ∧ c.dev.run tr = some (Core.restart { r with timedOut := true }) ∧
      c.dev.fbit F.MOV_EVT_TIMEOUT = true ∧ c.dev.esc = s.core.dev.esc) ∧
    (∀ r, s.core.dev.run tr = some r → r.timedOut = true → r.task < 16 → ToCore (.completionTimeout tr) s fun c =>
      (c.dev.task r.task).active = false ∧ c.dev.run tr = none ∧ c.dev.fbit F.MOV_EVT_LASTING = true ∧
      c.dev.fget F.ESC_FLT_CAUSE = (if s.core.dev.fget F.ESC_FLT_CAUSE = 0 then 5 else s.core.dev.fget F.ESC_FLT_CAUSE) ∧
      (s.core.dev.fbit (F.ESC_TCFG_FAULT_POL r.task) = false → (c.dev.task r.task).halted = true)) ∧
    (s.core.dev.run tr = none → Stays (.completionTimeout tr) s)

end Sys2Proof.Claims

open Sys2Proof Sys2Proof.Machine Sys2Proof.Claims

/-- R83, R93 to R95: ADD, SUB and MUL of words complete with their result in Wd and FLAGS, and change nothing else; so
do the single-precision instructions. -/
def Obligations.WordArithmetic : Prop :=
  WordOp .addAddi false (addRes 32) ∧ WordOp .subSubi false (subRes 32) ∧ WordOp .mulMuli false (mulRes 32) ∧
  SingleForms

/-- R82, R83, R90, R92, R98: logic, shifts, move and bit fields of words; constants, BPRM, LTOW and ADR write Wd and
leave FLAGS. -/
def Obligations.WordLogic : Prop :=
  WordOp .andAndi true (fun x y => logicRes 32 (x &&& y)) ∧ WordOp .orOri true (fun x y => logicRes 32 (x ||| y)) ∧
  WordOp .xorXori true (fun x y => logicRes 32 (x ^^^ y)) ∧
  ShiftOp .shlShli (shlRes 32) ∧ ShiftOp .shrShri (shrRes 32) ∧ ShiftOp .sarSari (sarRes 32) ∧
  ShiftOp .rolRoli (rolRes 32) ∧
  RegOp (fun tr b => .movMovi tr false b) (fun b => legalWR b && fS b = 0) (fun b => { w := [fT b] })
    (fun b v r => r.putRes (fD b) (logicRes 32 (v.getW (fT b)))) ∧
  RegOp (fun tr b => .movMovi tr true b) (fun b => legalWI b && fS b = 0) (fun _ => {})
    (fun b _ r => r.putRes (fD b) (logicRes 32 (sext12 b))) ∧
  RegOp .movl legalWK (fun _ => {}) (fun b _ r => r.putW (fD b) (fImm16 b)) ∧
  RegOp .movh legalWK (fun b => { w := [fD b] })
    (fun b v r => r.putW (fD b) (v.getW (fD b) % 65536 + 65536 * fImm16 b)) ∧
  RegOp .bfx legalWB (fun b => { w := [fS b] })
    (fun b v r => r.putW (fD b) (v.getW (fS b) / 2 ^ fPos b % 2 ^ (fWm1 b + 1))) ∧
  RegOp .bfxs legalWB (fun b => { w := [fS b] })
    (fun b v r => r.putW (fD b)
      (unsigned 32 (signed (fWm1 b + 1) (v.getW (fS b) / 2 ^ fPos b % 2 ^ (fWm1 b + 1))))) ∧
  RegOp .bfi legalWB (fun b => { w := [fS b, fD b] })
    (fun b v r => r.putW (fD b)
      (v.getW (fD b) % 2 ^ fPos b + v.getW (fS b) % 2 ^ (fWm1 b + 1) * 2 ^ fPos b
        + v.getW (fD b) / 2 ^ (fPos b + fWm1 b + 1) * 2 ^ (fPos b + fWm1 b + 1))) ∧
  RegOp .bprm (fun b => pairOk (fS b) && selOk (fImm16 b)) (fun b => { w := [fS b, fS b + 1] })
    (fun b v r => r.putW (fD b) (permute (v.getD (fS b)) (fImm16 b))) ∧
  RegOp .ltow (fun b => fldB b 19 3 = 0) (fun b => { l := [fldB b 2 0] })
    (fun b v r => r.putW (fD b) (if v.getL (fldB b 2 0) then 1 else 0)) ∧
  RegOp .adr legalWK (fun _ => {})
    (fun b _ r => r.putW (fD b) (unsigned 32 ((r.pc.toNat : Int) + 4 * signed 16 (fImm16 b))))

/-- R80, R83, R93 to R95: the 64-bit instructions on pairs, beside the divisions and the compare; and the
double-precision instructions. -/
def Obligations.PairArithmetic : Prop :=
  PairOp .addD (addRes 64) ∧ PairOp .subD (subRes 64) ∧ PairOp .mulD (mulRes 64) ∧
  RegOp .movD (fun b => legalD3 b && fS b = 0) (fun b => { w := pairW (fT b) })
    (fun b v r => r.putResD (fD b) (logicRes 64 (v.getD (fT b)))) ∧
  RegOp .sxt (fun b => legalWR b && pairOk (fD b) && fT b = 0) (fun b => { w := [fS b] })
    (fun b v r => r.putD (fD b) (unsigned 64 (signed 32 (v.getW (fS b))))) ∧
  PairShift .shlD (shlRes 64) ∧ PairShift .shrD (shrRes 64) ∧ PairShift .sarD (sarRes 64) ∧ DoubleForms

/-- R83, R87, R110, R111: the accumulator instructions, the condition as an accumulator, FLAGS moved as a word, and
NOP. -/
def Obligations.Accumulators : Prop :=
  AccOp .ldl 7 (fun b => { l := [fX b] }) (fun b v => v.getL (fX b)) ∧
  AccOp .andl 7 (fun b => { l := [fL b, fX b] }) (fun b v => v.getL (fL b) && v.getL (fX b)) ∧
  AccOp .orl 7 (fun b => { l := [fL b, fX b] }) (fun b v => v.getL (fL b) || v.getL (fX b)) ∧
  AccOp .xorl 7 (fun b => { l := [fL b, fX b] }) (fun b v => v.getL (fL b) != v.getL (fX b)) ∧
  AccOp .notl 7 (fun b => { l := [fX b] }) (fun b v => !v.getL (fX b)) ∧
  AccOp .lcon 1 (fun _ => {}) (fun b _ => decide (fX b % 2 = 1)) ∧
  AccOp .lcc 10 (fun b => { fl := condReads (fX b) }) (fun b v => condTrue (fX b) v.flags) ∧
  AccOp .wtol 15 (fun b => { w := [fX b] }) (fun b v => decide (v.getW (fX b) ≠ 0)) ∧
  RegOp .getf (fun b => fldB b 19 0 = 0) (fun _ => { fl := flagsMask }) (fun b v r => r.putW (fD b) v.flags.toNat) ∧
  RegOp .putf (fun b => fldB b 23 20 = 0 && fldB b 15 0 = 0) (fun b => { w := [fS b] })
    (fun b v r => r.putF { mask := flagsMask, val := BitVec.ofNat 32 (v.getW (fS b)) &&& flagsMask }) ∧
  RegOp .nop (fun b => b = 0) (fun _ => {}) (fun _ _ r => r)

/-- R93 to R95: floating-point arithmetic, compares, sign operations and conversions complete, and what their results
are: a NaN operand gives the canonical NaN, a nonzero number over zero an infinity and DZ, zero over zero NaN and NV;
compares set the flags of R94; FABS and FNEG change the sign bit; a conversion to an integer stays within its range.
-/
def Obligations.FloatingPoint : Prop :=
  SingleForms ∧ DoubleForms ∧
  Fmt.single.qnan = 0x7FC00000 ∧ Fmt.double.qnan = 0x7FF8000000000000 ∧
  (∀ (f : Fmt) (op : FOp) (rm x y : Nat), (isNaN (f.unpack x) || isNaN (f.unpack y)) = true →
    f.arith op rm x y = ⟨f.qnan, if (f.unpack x).isSNaN || (f.unpack y).isSNaN then fNV else 0⟩) ∧
  (∀ (f : Fmt) (rm x y : Nat) (s u : Bool) (m : Nat) (e k : Int), f.unpack x = .fin s m e → f.unpack y = .fin u 0 k →
    f.arith .div rm x y = if m = 0 then ⟨f.qnan, fNV⟩ else ⟨f.infBits (s != u), fDZ⟩) ∧
  (∀ a b : FVal, CompareIs (cmpFlags a b) (a.cmp b) (a.isSNaN || b.isSNaN)) ∧
  (∀ a b : FVal, a.cmp b = .unordered ↔ (isNaN a || isNaN b) = true) ∧
  (∀ (s u : Bool) (e k : Int), (FVal.fin s 0 e).cmp (.fin u 0 k) = .equal) ∧
  (∀ x : BitVec 32, signOp false 31 x.toNat = (x &&& 0x7FFFFFFF#32).toNat ∧
    signOp true 31 x.toNat = (x ^^^ 0x80000000#32).toNat) ∧
  (∀ x : BitVec 64, signOp false 63 x.toNat = (x &&& 0x7FFFFFFFFFFFFFFF#64).toNat ∧
    signOp true 63 x.toNat = (x ^^^ 0x8000000000000000#64).toNat) ∧
  (∀ (f : Fmt) (rm x : Nat) (lo hi : Int), lo ≤ 0 → 0 ≤ hi →
    lo ≤ (f.toInt rm x lo hi).1 ∧ (f.toInt rm x lo hi).1 ≤ hi ∧
    (isNaN (f.unpack x) = true → f.toInt rm x lo hi = (0, fNV)))

/-- R80, R83: the bit loads. -/
def Obligations.BitLoads : Prop :=
  BitRead .ld false (fun _ m => m) ∧ BitRead .ldn false (fun _ m => !m) ∧
  BitRead .andBit true (fun l m => l && m) ∧ BitRead .andnBit true (fun l m => l && !m) ∧
  BitRead .orBit true (fun l m => l || m) ∧ BitRead .ornBit true (fun l m => l || !m) ∧
  BitRead .xorBit true (fun l m => l != m) ∧ BitRead .xornBit true (fun l m => l != !m)

/-- R85, R86: the bit stores, set and reset, and the edge instructions. -/
def Obligations.BitStores : Prop :=
  BitWrite .st (fun _ => true) (fun l => l) ∧ BitWrite .stn (fun _ => true) (fun l => !l) ∧
  BitWrite .setBit (fun l => l) (fun _ => true) ∧ BitWrite .rst (fun l => l) (fun _ => false) ∧
  BitKept .setBit ∧ BitKept .rst ∧
  BitEdge .edgp (fun l m => l && !m) ∧ BitEdge .edgn (fun l m => m && !l)

/-- R96, R97: a load of work memory gives its bytes, sign- or zero-extended, to its destination after a load delay. -/
def Obligations.Loads : Prop :=
  ∀ (s : State) (tr : Fin 4) (k : LoadKind) (r : Run) (b : Body) (as : List Nat),
    (k = .ldd → pairOk (fD b) = true) →
    Ready s tr r { w := [fS b] } →
    s.core.access r.task false (effAddr (read s r) b (loadSize k)) (loadSize k) = .ok (.mem as) →
    CleanRead s r as →
    ∃ c' r', Reading s (start r) c' r' ∧
      exec (.load tr k b) s = .next (retired s c' tr r
        (Core.loaded r' k (fD b) (leNat (as.map (s.core.readByte (start r))))).advance)

/-- R96, R62: a store enters the let-down buffer; WORKMEM keeps its bytes until the instance commits. -/
def Obligations.Stores : Prop :=
  ∀ (s : State) (tr : Fin 4) (k : StoreKind) (r : Run) (b : Body) (as : List Nat),
    (k = .std → pairOk (fD b) = true) →
    Ready s tr r { w := fS b :: (if k = .std then pairW (fD b) else [fD b]) } →
    s.core.access r.task true (effAddr (read s r) b (storeSize k)) (storeSize k) = .ok (.mem as) →
    Core.needsSplit (start r) (as.map (· / 32)) = false →
    (let v := if k = .std then (read s r).getD (fD b) else (read s r).getW (fD b)
     let x := s.core.storeMem (start r) (as.zip (leBytes (storeSize k) v))
        (span (effAddr (read s r) b (storeSize k)) (storeSize k))
     exec (.store tr k b) s = .next (retired s x.1 tr r x.2.advance) ∧ x.1.mem = s.core.mem)

/-- R62: an instance reads back each byte it stored; every other byte of its buffer, and WORKMEM, stay as they were. -/
def Obligations.StoredBytes : Prop :=
  ∀ (c : Core) (r : Run) (ws : List (Nat × Byte)) (names : List Nat), (ws.map (·.1)).Nodup →
    (∀ w ∈ ws, (c.storeMem r ws names).1.readByte (c.storeMem r ws names).2 w.1 = w.2) ∧
    (∀ a, (∀ w ∈ ws, w.1 ≠ a) →
      (c.storeMem r ws names).2.buf.find? (fun b => b.1 = a) = r.buf.find? fun b => b.1 = a) ∧
    (c.storeMem r ws names).1.mem = c.mem

/-- R64, R386: a load of a register page by the head reads the page once and keeps its result; a store of the head
writes the page. -/
def Obligations.PageAccesses : Prop :=
  (∀ (s : State) (tr : Fin 4) (r : Run) (b : Body) (a : Nat),
    Ready s tr r { w := [fS b] } → s.core.access r.task false (effAddr (read s r) b 4) 4 = .ok (.page a) →
    s.core.isHead tr = true → r.pagePos = r.pageLog.length → s.core.dev.follows = false →
    s.core.dev.followed = false →
    (let x := s.core.pageRead .program (some r.task) (a - 0x40000000)
     let c' := x.1.onDev fun d => d.modTask r.task fun y => { y with loads := (s.core.dev.task r.task).loads + 1 }
     exec (.load tr .ldw b) s = .next (retired s c' tr r (Core.loaded ({ start r with
       noDorm := true, pageLog := r.pageLog ++ [BitVec.ofNat 64 x.2.toNat], pagePos := r.pagePos + 1 } : Run)
       .ldw (fD b) x.2.toNat).advance))) ∧
  (∀ (s : State) (tr : Fin 4) (r : Run) (b : Body) (a : Nat),
    Ready s tr r { w := [fS b, fD b] } → s.core.access r.task true (effAddr (read s r) b 4) 4 = .ok (.page a) →
    s.core.isHead tr = true → r.pagePos = r.pageLog.length → a - 0x40000000 ≠ A.WDG_SVC →
    exec (.store tr .stw b) s = .next (retired s
      (s.core.pageWrite .program (a - 0x40000000) (BitVec.ofNat 32 ((read s r).getW (fD b)))
        (s.core.dev.task r.task).relTime) tr r
      ({ start r with noDorm := true, pageLog := r.pageLog ++ [0], pagePos := r.pagePos + 1 } : Run).advance))

/-- R98: branches go to PC + 4 × OFF24 where their condition holds, and to the next instruction where it does not. -/
def Obligations.Branches : Prop :=
  (∀ (s : State) (tr : Fin 4) (r : Run) (b : Body), ReadyTo s tr r {} (r.pc + offBytes b) →
    exec (.bra tr b) s = .next (retired s s.core tr r ((start r).goto (r.pc + offBytes b)))) ∧
  (∀ k : Fin 11, BranchOp (fun tr b slip => .branchIfCondition tr k b slip) { fl := condReads k }
    (fun v => condTrue k v.flags)) ∧
  (∀ on : Bool, BranchOp (fun tr b slip => .bl0tBl0f tr on b slip) { l := [0] } (fun v => v.getL 0 == on))

/-- R55, R99, R100: a call pushes the address after it while the return stack has room; a return at D > 0 pops; RET at
D = 0 ends its instance there, as a top-level return. -/
def Obligations.Calls : Prop :=
  (∀ (s : State) (tr : Fin 4) (r : Run) (b : Body), ReadyTo s tr r { rs := true } (r.pc + offBytes b) →
    roomToCall s r →
    exec (.call tr b) s = .next (retired s s.core tr r (({ start r with
      regs := { r.regs with rs := (read s r).rs.setIfInBounds ((read s r).d % 16) (r.pc + 4), d := (read s r).d + 1 },
      owned := { r.owned with rs := true }, noDorm := true } : Run).goto (r.pc + offBytes b)))) ∧
  (∀ (s : State) (tr : Fin 4) (r : Run) (b : Body) (a : Word), fldB b 23 20 = 0 → fldB b 15 0 = 0 →
    a = BitVec.ofNat 32 ((read s r).getW (fS b)) → a.toNat % 4 = 0 →
    ReadyTo s tr r { w := [fS b], rs := true } a → roomToCall s r →
    exec (.callr tr b) s = .next (retired s s.core tr r (({ start r with
      regs := { r.regs with rs := (read s r).rs.setIfInBounds ((read s r).d % 16) (r.pc + 4), d := (read s r).d + 1 },
      owned := { r.owned with rs := true }, noDorm := true } : Run).goto a))) ∧
  (∀ (s : State) (tr : Fin 4) (r : Run) (a : Word), (read s r).d ≠ 0 →
    a = (read s r).rs.toList.getD (((read s r).d - 1) % 16) 0 → ReadyTo s tr r { rs := true } a →
    exec (.ret tr 0) s = .next (retired s s.core tr r (({ start r with
      regs := { r.regs with rs := (read s r).rs, d := (read s r).d - 1 },
      owned := { r.owned with rs := true }, noDorm := true } : Run).goto a))) ∧
  (∀ (s : State) (tr : Fin 4) (r : Run), ReadyTo s tr r { rs := true } r.pc → (read s r).d = 0 →
      (let e : Exit := { next := r.pc, top := true }
       let c' := s.core.endRun tr (counted s.core r { start r with exit := some e }) e
       (c'.isHead tr = false → exec (.ret tr 0) s = .next { s with core := c' }) ∧
       (c'.isHead tr = true → exec (.ret tr 0) s = .next { s with core := c'.commitHead })))

/-- R102 to R105: the timers, and TEL, which reads ET, 0 while the slot is new. -/
def Obligations.Timers : Prop :=
  TimerOp .ton false tonStep ∧ TimerOp .tof false tofStep ∧ TimerOp .tp false tpStep ∧ TimerOp .rto true rtoStep ∧
  (∀ (s : State) (tr : Fin 4) (r : Run) (b : Body), Ready s tr r {} → fldB b 19 12 = 0 → SlotReady s r (fSlot b) →
    ∃ c' r', SlotReading s r c' r' ∧
      (let x := (slotSeen s.core (start r) (fSlot b)).1
       exec (.tel tr b) s = .next (retired s c' tr r (r'.putW (fD b) (if x.new then 0 else x.et)).advance)))

/-- R106 to R108: the counters. -/
def Obligations.Counters : Prop :=
  CounterOp (fun tr k b => .ctu tr k b) 2 (fun k pv n i =>
    let y := ctuStep (cntLo k) (cntHi k) pv n (i.getD 0 false) (i.getD 1 false)
    (y.1, [y.2, y.1.ovf])) ∧
  CounterOp (fun tr k b => .ctd tr k b) 2 (fun k pv n i =>
    let y := ctdStep (cntLo k) (cntHi k) pv n (i.getD 0 false) (i.getD 1 false)
    (y.1, [y.2, y.1.ovf])) ∧
  CounterOp (fun tr k b => .ctud tr k b) 4 (fun k pv n i =>
    let y := ctudStep (cntLo k) (cntHi k) pv n (i.getD 0 false) (i.getD 1 false) (i.getD 2 false) (i.getD 3 false)
    (y.1, [y.2.1, y.2.2, y.1.ovf]))

/-- R64, R109 to R111, R343: ALERT, CHKIN and RECEV at the head, and waiting for it elsewhere; TIME gives the
release-beat time, TSLIVE the live time, on a pair member the release-beat time. -/
def Obligations.HeadInstructions : Prop :=
  HeadOp .alert (fun b => fldB b 23 3 = 0) (fun _ => {}) (fun b _ => .alert (fldB b 2 0)) ∧
  HeadOp .chkin (fun b => b = 0) (fun _ => {}) (fun _ _ => .chkin) ∧
  HeadOp .recev (fun b => fldB b 23 16 = 0) (fun _ => { w := List.range 12 })
    (fun b v => .recev (fImm16 b) (v.w.toList.take 12)) ∧
  (∀ (s : State) (tr : Fin 4) (r : Run), Ready s tr r {} → s.core.isHead tr = false →
    exec (.chkin tr 0) s = .next { s with core := s.core.waitFor tr r .head }) ∧
  RegTime .time (fun s r => (s.core.dev.task r.task).relTime) ∧
  RegTime .tslive (fun s r => if s.core.dev.paired then (s.core.dev.task r.task).relTime else s.core.dev.tb)

/-- R54 to R56: STRAND ends an open instance; it opens one that is not, with its registers zeroed after a sealed
strand or for a sealed one; a dormant strand is skipped at the head. -/
def Obligations.Strands : Prop :=
  (∀ (s : State) (tr : Fin 4) (r : Run) (b : Body), s.powered = true → s.core.dev.run tr = some r → r.opened = true →
    r.exit = none →
    exec (.strand tr b) s = .next { s with core := s.core.endRun tr r { next := r.pc, via := r.via } }) ∧
  (∀ (s : State) (tr : Fin 4) (r : Run) (b : Body) (z : Bool), s.powered = true → s.core.dev.run tr = some r →
    r.opened = false → r.exit = none → r.retired < 511 → fldB b 10 0 = 0 → dormant s.core r (fSid b) (fSealed b) = none →
    (if fSealed b then some true else prevSealed s.core r) = some z →
    (let x : Run := { r with sid := fSid b, sealed := fSealed b, opened := true, via := none, delay := [] }
     exec (.strand tr b) s = .next (retired s s.core tr r (if z then x.zeroed else x).advance))) ∧
  (∀ (s : State) (tr : Fin 4) (r : Run) (b : Body) (next : Nat), s.powered = true → s.core.dev.run tr = some r →
    r.opened = false → r.exit = none → fldB b 10 0 = 0 → dormant s.core r (fSid b) (fSealed b) = some next →
    s.core.isHead tr = true →
    (let a := r.start + BitVec.ofNat 32 (4 * next)
     exec (.strand tr b) s = .next { s with core := s.core.setRun tr (some { r with
       start := a, pc := a, prevSealed := some true, skips := r.skips ++ [fSid b], wait := none }) }))

/-- R116 to R121: a complication whose entry is absent is an illegal operation; one whose entry reads clean from its
decode bank and whose sequence ends normally does what its micro-operations answer; a constant moved to Wd by two of
them is one word written. -/
def Obligations.Complications : Prop :=
  (∀ (s : State) (tr : Fin 4) (n : Fin 16) (r : Run) (b : Body), s.powered = true → s.core.dev.run tr = some r →
    r.opened = true → r.exit = none → s.core.dev.mov.bank.present.getLsbD n = false →
    exec (.complication tr n b) s = .next { s with core :=
      (if s.core.isHead tr = true then s.core.takeTrap tr r tILLEGAL_OP none else s.core.waitFor tr r .head) }) ∧
  (∀ (s : State) (tr : Fin 4) (n : Fin 16) (r : Run) (b : Body) (x : CpxEntry) (c' : Core) (r' : Run),
    s.core.dev.mov.bank.present.getLsbD n = true → s.core.dev.mov.bank.entries[n.val]? = some x →
    (∀ g ∈ Core.bankGroups s.core.dev n x.count, s.core.readClass g [] = .clean) →
    (x.eflags / 2 % 2 = 1 → pairOk (fD b) = true) → (x.eflags / 4 % 2 = 1 → pairOk (fS b) = true) →
    (Core.bufGroups (start r)).length + Core.microStores x ≤ 64 → ReadyTo s tr r (Core.microSrcs x b) r'.pc →
    Core.micro { train := tr, area := s.area, bits := b, entry := x, regs := read s r } x.ops.length 0 s.core (start r) {}
      = .next c' r' →
    r'.exit = none → r'.retired = r.retired → r'.issued = r.issued →
    exec (.complication tr n b) s = .next (retired s c' tr r r')) ∧
  (∀ (s : State) (tr : Fin 4) (n : Fin 16) (r : Run) (b : Body) (x : CpxEntry) (k d : Nat),
    s.core.dev.mov.bank.present.getLsbD n = true → s.core.dev.mov.bank.entries[n.val]? = some x →
    (∀ g ∈ Core.bankGroups s.core.dev n x.count, s.core.readClass g [] = .clean) →
    x.eflags = 0 → d < 8 → k < 65536 →
    x.ops = [BitVec.ofNat 32 (0xB0000000 + d * 2 ^ 24 + k), BitVec.ofNat 32 (0xA0000000 + d * 2 ^ 20)] →
    (Core.bufGroups (start r)).length ≤ 64 → Ready s tr r (Core.microSrcs x b) →
    exec (.complication tr n b) s = .next (retired s s.core tr r ((start r).putW (fD b) k).advance))

/-- R82: the reserved bits and operand checks of the encodings. -/
def Obligations.IllegalEncodings : Prop :=
  Checked .nop (fun b => b = 0) ∧ Checked .alert (fun b => fldB b 23 3 = 0) ∧ Checked .chkin (fun b => b = 0) ∧
  Checked .recev (fun b => fldB b 23 16 = 0) ∧ Checked .time legalTime ∧ Checked .tslive legalTime ∧
  Checked .getf (fun b => fldB b 19 0 = 0) ∧ Checked .tel (fun b => fldB b 19 12 = 0) ∧
  Checked .ldl (fun b => legalL b 7) ∧ Checked .lcon (fun b => legalL b 1) ∧ Checked .lcc (fun b => legalL b 10) ∧
  Checked .wtol (fun b => legalL b 15) ∧
  Checked (fun tr b => .addAddi tr false b) legalWR ∧ Checked (fun tr b => .addAddi tr true b) legalWI ∧
  Checked (fun tr b => .shlShli tr true b) (fun b => legalWI b && decide (fImm12 b ≤ 31)) ∧
  Checked .movl legalWK ∧ Checked .bfx legalWB ∧ Checked .bfi legalWB ∧
  Checked .bprm (fun b => pairOk (fS b) && selOk (fImm16 b)) ∧ Checked .addD legalD3 ∧
  Checked .cmpD (fun b => legalD3 b && fD b = 0) ∧ Checked .sxt (fun b => legalWR b && pairOk (fD b) && fT b = 0) ∧
  Checked .fcmp (fun b => legalWR b && fD b = 0) ∧
  Checked (fun tr b => .load tr .ldd b) (fun b => pairOk (fD b)) ∧
  Checked (fun tr b => .store tr .std b) (fun b => pairOk (fD b)) ∧
  Checked .callr (fun b => fldB b 23 20 = 0 && fldB b 15 0 = 0) ∧ Checked .ton (fun b => fldB b 16 12 = 0) ∧
  Checked .rto (fun b => fldB b 16 12 = 0 && decide (fL b ≤ 6)) ∧
  Checked (fun tr b => .ctu tr 3 b) (fun b => decide (fL b + 2 ≤ 8) && pairOk (fP b))

/-- R70, R96, R98, R100, Table 4.9: a trap leaves its registers. A load or store whose access is refused traps with the
code of the refusal; a branch or call out of the active half, a call to an address that is no multiple of 4, and a call
without room on the return stack trap. -/
def Obligations.Traps : Prop :=
  (∀ (c : Core) (t : Fin 4) (r : Run) (code : Nat) (index : Option Nat), r.sid < 4096 → r.task < 16 → code < 32 →
    (∀ i, index = some i → i < 16) →
    (let d := (c.takeTrap t r code index).dev
     d.rget A.MOV_TRAP_PC = r.pc ∧ d.fget F.MOV_TRAP_INFO_SID = r.sid ∧ d.fget F.MOV_TRAP_INFO_TASK = r.task ∧
     d.fget F.MOV_TRAP_INFO_CODE = code ∧ d.fbit F.MOV_CPX_TRAP_IN_CPX = index.isSome ∧
     d.fget F.MOV_CPX_TRAP_INDEX = index.getD 0 ∧ d.fbit F.MOV_EVT_TRAP = true)) ∧
  (∀ (s : State) (tr : Fin 4) (k : LoadKind) (r : Run) (b : Body) (code : Nat), (k = .ldd → pairOk (fD b) = true) →
    Ready s tr r { w := [fS b] } →
    s.core.access r.task false (effAddr (read s r) b (loadSize k)) (loadSize k) = .error code →
    exec (.load tr k b) s = .next (trapped s tr r code)) ∧
  (∀ (s : State) (tr : Fin 4) (k : StoreKind) (r : Run) (b : Body) (code : Nat), (k = .std → pairOk (fD b) = true) →
    Ready s tr r { w := fS b :: (if k = .std then pairW (fD b) else [fD b]) } →
    s.core.access r.task true (effAddr (read s r) b (storeSize k)) (storeSize k) = .error code →
    exec (.store tr k b) s = .next (trapped s tr r code)) ∧
  (∀ (s : State) (tr : Fin 4) (r : Run) (b : Body), ReadyTo s tr r {} r.pc →
    s.core.inHalf (r.pc + offBytes b) = false → exec (.bra tr b) s = .next (trapped s tr r tACCESS)) ∧
  (∀ (s : State) (tr : Fin 4) (r : Run) (b : Body), ReadyTo s tr r { rs := true } r.pc →
    s.core.inHalf (r.pc + offBytes b) = false → exec (.call tr b) s = .next (trapped s tr r tACCESS)) ∧
  (∀ (s : State) (tr : Fin 4) (r : Run) (b : Body), ReadyTo s tr r { rs := true } (r.pc + offBytes b) →
    ¬ roomToCall s r → exec (.call tr b) s = .next (trapped s tr r tRS_OVERFLOW)) ∧
  (∀ (s : State) (tr : Fin 4) (r : Run) (b : Body) (a : Word), fldB b 23 20 = 0 → fldB b 15 0 = 0 →
    a = BitVec.ofNat 32 ((read s r).getW (fS b)) → ReadyTo s tr r { w := [fS b], rs := true } a →
    (a.toNat % 4 ≠ 0 → exec (.callr tr b) s = .next (trapped s tr r tALIGN)) ∧
    (a.toNat % 4 = 0 → ¬ roomToCall s r → exec (.callr tr b) s = .next (trapped s tr r tRS_OVERFLOW)))

/-- R83: ADD and SUB are addition and subtraction modulo the width, with carry and signed overflow. -/
def Obligations.AddSubResults : Prop :=
  (∀ x y : BitVec 32, ResultIs (addRes 32 x.toNat y.toNat) (x + y) (x.uaddOverflow y) (x.saddOverflow y) 0) ∧
  (∀ x y : BitVec 64, ResultIs (addRes 64 x.toNat y.toNat) (x + y) (x.uaddOverflow y) (x.saddOverflow y) 0) ∧
  (∀ x y : BitVec 32, ResultIs (subRes 32 x.toNat y.toNat) (x - y) (!x.usubOverflow y) (x.ssubOverflow y) 0) ∧
  (∀ x y : BitVec 64, ResultIs (subRes 64 x.toNat y.toNat) (x - y) (!x.usubOverflow y) (x.ssubOverflow y) 0)

/-- R83, R88: MUL gives the low half. Division and remainder complete for all operands, truncate toward zero, and give
the limits with DZ or SAT where the quotient does not exist; C, V and U are 0, Z and N follow the result. -/
def Obligations.MulDivResults : Prop :=
  WordOp .divDivi false (divRes 32) ∧ WordOp .divuDivui true (divuRes 32) ∧
  WordOp .modModi false (modRes 32) ∧ WordOp .moduModui true (moduRes 32) ∧
  PairOp .divD (divRes 64) ∧ PairOp .divuD (divuRes 64) ∧ PairOp .modD (modRes 64) ∧ PairOp .moduD (moduRes 64) ∧
  DivResults 32 ∧ DivResults 64 ∧
  (∀ x y : BitVec 32, ResultIs (mulRes 32 x.toNat y.toNat) (x * y) (x.umulOverflow y) (x.smulOverflow y) 0) ∧
  (∀ x y : BitVec 64, ResultIs (mulRes 64 x.toNat y.toNat) (x * y) (x.umulOverflow y) (x.smulOverflow y) 0)

/-- R83, R91: logic and shifts are those of bit vectors; CLZ writes the number of leading zeros. -/
def Obligations.LogicResults : Prop :=
  RegOp .clz (fun b => legalWR b && fT b = 0) (fun b => { w := [fS b] })
    (fun b v r => r.putW (fD b) (clz32 (v.getW (fS b)))) ∧
  (∀ x y : BitVec 32, LogicIs (logicRes 32 (x.toNat &&& y.toNat)) (x &&& y) ∧
    LogicIs (logicRes 32 (x.toNat ||| y.toNat)) (x ||| y) ∧ LogicIs (logicRes 32 (x.toNat ^^^ y.toNat)) (x ^^^ y)) ∧
  (∀ (x : BitVec 32) (n : Nat), n < 32 →
    LogicIs (shlRes 32 x.toNat n) (x <<< n) ∧ LogicIs (shrRes 32 x.toNat n) (x >>> n) ∧
    LogicIs (sarRes 32 x.toNat n) (x.sshiftRight n) ∧ LogicIs (rolRes 32 x.toNat n) (x.rotateLeft n)) ∧
  (∀ x : BitVec 32, clz32 x.toNat = x.clz.toNat)

/-- R87, R89, R94: CMP, CMPI and CMP.D write FLAGS as SUB does and no register; the conditions after a compare of two
words are the relations between them, U being 0; after an unordered floating-point compare only NE, LO, LS and UN
hold. -/
def Obligations.CompareConditions : Prop :=
  RegOp (fun tr b => .cmpCmpi tr false b) legalWR (fun b => { w := [fS b, fT b] })
    (fun b v r => r.putF (subRes 32 (v.getW (fS b)) (v.getW (fT b))).2) ∧
  RegOp (fun tr b => .cmpCmpi tr true b) legalWI (fun b => { w := [fS b] })
    (fun b v r => r.putF (subRes 32 (v.getW (fS b)) (sext12 b)).2) ∧
  RegOp .cmpD (fun b => legalD3 b && fD b = 0) (fun b => { w := pairW (fS b) ++ pairW (fT b) })
    (fun b v r => r.putF (subRes 64 (v.getD (fS b)) (v.getD (fT b))).2) ∧
  (∀ (x y : BitVec 32) (f : Word),
    (let g := (subRes 32 x.toNat y.toNat).2.apply f
     condTrue 0 g = decide (x = y) ∧ condTrue 1 g = decide (x ≠ y) ∧ condTrue 2 g = x.slt y ∧ condTrue 3 g = y.sle x ∧
     condTrue 4 g = x.sle y ∧ condTrue 5 g = y.slt x ∧ condTrue 6 g = x.ult y ∧ condTrue 7 g = y.ule x ∧
     condTrue 8 g = x.ule y ∧ condTrue 9 g = y.ult x ∧ condTrue 10 g = false)) ∧
  (∀ (x y : BitVec 64) (f : Word), flagOf ((subRes 64 x.toNat y.toNat).2.apply f) 4 = false) ∧
  (∀ (k : Fin 11) (nv : Bool) (f : Word),
    condTrue k ((fcmpFlags .unordered nv).apply f) = decide (k.val ∈ [1, 6, 8, 10]))

/-- R61: a register read gives the value last written by the instance, and a write leaves the other registers. -/
def Obligations.RegisterFile : Prop :=
  (∀ (d : Dev) (r : Run) (i v : Nat), i < 16 → r.delay = [] → seenW d (r.putW i v) i = v % 2 ^ 32) ∧
  (∀ (d : Dev) (r : Run) (i j v : Nat), i ≠ j → i < 16 → seenW d (r.putW i v) j = seenW d r j) ∧
  (∀ (d : Dev) (r : Run) (i : Nat) (v : Bool), i < 8 → (d.seen (r.putL i v)).getL i = v) ∧
  (∀ (d : Dev) (r : Run) (i j : Nat) (v : Bool), i ≠ j → i < 8 → (d.seen (r.putL i v)).getL j = (d.seen r).getL j)

/-- R102, R103: the elapsed time of a timer never exceeds PT, and Q of TON, RTO, TOF and TP is what the timer diagrams
show: on after PT of a held input, accumulated, off after PT, and a pulse of PT. -/
def Obligations.TimerSteps : Prop :=
  (∀ (s : Slot) (t pt : Nat) (x r : Bool),
    (slotEval tonStep s t pt x r).2 = (x && decide (pt ≤ (slotEval tonStep s t pt x r).1.et)) ∧
    (x = false → (slotEval tonStep s t pt x r).1.et = 0)) ∧
  (∀ (s : Slot) (t pt : Nat) (x r : Bool), s.et ≤ pt → (slotEval tonStep s t pt x r).1.et ≤ pt) ∧
  (∀ (s : Slot) (t pt : Nat) (r : Bool), (slotEval tofStep s t pt true r).2 = true) ∧
  (∀ (s : Slot) (t pt : Nat) (x : Bool),
    (slotEval rtoStep s t pt x true).2 = false ∧ (slotEval rtoStep s t pt x true).1.et = 0) ∧
  (∀ (s : Slot) (t pt : Nat) (x : Bool), s.new = false → s.et ≤ pt → s.et ≤ (slotEval rtoStep s t pt x false).1.et) ∧
  (∀ (s : Slot) (t pt : Nat) (r : Bool), s.new = false → s.run = false → s.inPrev = false →
    (slotEval tpStep s t pt true r).2 = decide (0 < pt)) ∧
  (∀ (s : Slot) (t pt : Nat) (r : Bool), (slotEval tpStep { s with run := false } t pt false r).2 = false)

/-- R106 to R108: a counter stays within its type's limits, counts only on a rising edge, and an edge at a limit sets
OVF and does not count. -/
def Obligations.CounterSteps : Prop :=
  (∀ (lo hi pv : Int) (n : Cnt) (cu r : Bool), lo ≤ 0 → 0 ≤ hi → lo ≤ n.cv → n.cv ≤ hi →
    lo ≤ (ctuStep lo hi pv n cu r).1.cv ∧ (ctuStep lo hi pv n cu r).1.cv ≤ hi) ∧
  (∀ (lo hi pv : Int) (n : Cnt) (cd ld : Bool), lo ≤ pv → pv ≤ hi → lo ≤ n.cv → n.cv ≤ hi →
    lo ≤ (ctdStep lo hi pv n cd ld).1.cv ∧ (ctdStep lo hi pv n cd ld).1.cv ≤ hi) ∧
  (∀ (lo hi pv : Int) (n : Cnt), n.pcu = true → (ctuStep lo hi pv n true false).1 = { n with pcu := true }) ∧
  (∀ (lo hi pv : Int) (n : Cnt), n.pcu = false → n.cv = hi →
    (ctuStep lo hi pv n true false).1 = { n with ovf := true, pcu := true }) ∧
  (∀ (lo hi pv : Int) (n : Cnt), n.pcu = false → n.cv ≠ hi →
    (ctuStep lo hi pv n true false).1 = { n with cv := n.cv + 1, pcu := true } ∧
    (ctuStep lo hi pv n true false).2 = decide (pv ≤ n.cv + 1)) ∧
  (∀ (lo hi pv : Int) (n : Cnt) (ld : Bool), (ctudStep lo hi pv n true true true ld).1.cv = 0) ∧
  (∀ (lo hi pv : Int) (n : Cnt), n.pcu = false → n.pcd = false →
    (ctudStep lo hi pv n true true false false).1.cv = n.cv)

/-- R128, R134, R139, R148, R151: trim, holdover, slot selection, the island's faults and the wake. -/
def Obligations.TimeCommands : Prop :=
  ∀ s : State, s.powered = true →
    (∀ q v, s.core.dev.unlocked q 2 = true → ToDev (.regTrimWrite q v) s fun d =>
      signed 16 (d.fget F.REG_TRIM_TRIM) = clampI (-20000) 20000 (signed 16 v.toNat)) ∧
    (s.core.dev.holdoverDue = true → ToDev .holdoverEntry s fun d =>
      d.fbit F.REG_STAT_GT_HOLDOVER = true ∧ d.fbit F.REG_STAT_GT_LOCK = false ∧ d.gt.last = none) ∧
    (∀ q v, ToDev (.regSlotSelWrite q v) s fun d =>
      d.slotSnap.find? (fun x => x.1 = q) = some (q,
          Dev.slotWords (alGet (v.toNat % 4096) ({} : Slot) s.core.dev.slots))) ∧
    ToDev .calOscStop s (fun d => d.isl.oscStop = true ∧ d.isl.invalid = true ∧
      d.fbit F.REG_CAL_STAT_OSC_STOP = true ∧ d.fbit F.REG_CAL_STAT_INVALID = true ∧ d.fbit F.REG_FLT_CAL_OSC = true) ∧
    (∀ mv, ToDev (.vbakCheck mv) s fun d => d.fbit F.REG_CAL_STAT_VBAK_LOW = decide (mv < 2200)) ∧
    (∀ q v, s.core.dev.turnedAway q A.REG_CAL_WAKE = false → ToDev (.calWakeWrite q v) s fun d =>
      d.fget F.REG_CAL_WAKE_PERIOD = v.toNat % 2 ^ 24 ∧ d.gt.wakeArm = s.core.dev.armInstant q ∧ d.gt.wakeK = 0 ∧
      d.gt.wakeDue = false) ∧
    (s.core.dev.wakePeriod ≠ 0 → s.core.dev.gt.wakeArm + (s.core.dev.gt.wakeK + 1) * s.core.dev.wakePeriod ≤ s.core.dev.tb →
      ToDev .calWakeDue s fun d => d.gt.wakeDue = true ∧
        d.gt.wakeK = (s.core.dev.tb - s.core.dev.gt.wakeArm) / s.core.dev.wakePeriod)

/-- R141 to R147: the calendar's commands with its clock running and none in progress, and its second; a calendar at
its end moves by a commit alone. -/
def Obligations.CalendarCommands : Prop :=
  (∀ s : State, s.powered = true → s.core.dev.fbit F.REG_CAL_STAT_BUSY = false → s.core.dev.isl.oscStop = false →
    (∀ q, ToDev (.calLatch q) s fun d =>
      d.rnat A.REG_CAL_LSEC_LO = s.core.dev.isl.sec % 2 ^ 32 ∧ d.rnat A.REG_CAL_LTIME = calTime s.core.dev.isl.sec % 2 ^ 32 ∧
      d.rnat A.REG_CAL_LDATE = calDate s.core.dev.isl.sec % 2 ^ 32 ∧
      d.fget F.REG_CAL_LINFO_DOW = calDow s.core.dev.isl.sec ∧ d.isl = s.core.dev.isl) ∧
    (∀ q x, s.core.dev.staged = some x → ToDev (.calCommit q) s fun d =>
      d.isl.sec = x ∧ d.isl.edge = s.core.dev.tb ∧ d.isl.invalid = false ∧ d.isl.ended = false ∧
      d.isl.dst = s.core.dev.fbit F.REG_CAL_SFLAGS_DST ∧ d.fbit F.REG_EVT_CAL_DONE = true) ∧
    (∀ q, s.core.dev.staged = none → ToDev (.calCommit q) s fun d =>
      d.isl = s.core.dev.isl ∧ d.fbit F.REG_CAL_STAT_BAD_WRITE = true ∧ d.fbit F.REG_EVT_CAL_REFUSED = true) ∧
    (∀ q, s.core.dev.isl.ended = false → s.core.dev.isl.dst = false → s.core.dev.isl.sec + 3600 ≤ calMax →
      ToDev (.calDstPlus1h q) s fun d => d.isl.sec = s.core.dev.isl.sec + 3600 ∧ d.isl.dst = true) ∧
    (∀ q, s.core.dev.isl.ended = false → s.core.dev.isl.dst = true → 3600 ≤ s.core.dev.isl.sec →
      s.core.dev.isl.sec ≤ calMax →
      ToDev (.calDstMinus1h q) s fun d => d.isl.sec = s.core.dev.isl.sec - 3600 ∧ d.isl.dst = false) ∧
    (∀ q, s.core.dev.isl.ended = true →
      ToDev (.calDstPlus1h q) s (fun d => d.isl = s.core.dev.isl) ∧
      ToDev (.calDstMinus1h q) s fun d => d.isl = s.core.dev.isl)) ∧
  (∀ s : State, s.core.dev.isl.ended = false → s.core.dev.isl.sec < calMax → s.core.dev.gt.calPend = none →
    (s.core.dev.isl.commitAt ≠ some s.core.dev.tb → ToDev .calendarSecond s fun d =>
      d.isl.sec = s.core.dev.isl.sec + 1 ∧ d.isl.edge = s.core.dev.tb ∧ d.isl.oscStop = false ∧ d.isl.stopped = none) ∧
    (s.core.dev.isl.commitAt = some s.core.dev.tb → ToDev .calendarSecond s fun d =>
      d.isl.sec = s.core.dev.isl.sec ∧ d.isl.edge = s.core.dev.isl.edge)) ∧
  (∀ s : State, ToDev .islandPowerUp s fun d => d.isl = { edge := s.core.dev.tb })

/-- R127, R379, R380, R396: the supplies and RESET_N. BOOT begins with the time base at 0; OFF or held in reset the core
has no work memory. OTP stays where no burn is in progress. -/
def Obligations.SupplyCommands : Prop :=
  (∀ (s : State) (x : BootIn), s.core.dev.st = .off → ToCore (.suppliesValid x) s fun c =>
    c.dev.st = .boot ∧ c.dev.held = false ∧ c.dev.tb = 0) ∧
  (∀ (s : State) (x : BootIn), s.core.dev.held = true → ToCore (.resetNRise x) s fun c =>
    c.dev.st = .boot ∧ c.dev.held = false ∧ c.dev.tb = 0) ∧
  (∀ s : State, s.core.dev.st ≠ .off → s.core.dev.held = false → ToState .resetNFall s fun t =>
    t.core.dev.held = true ∧ t.core.dev.st = .boot ∧ t.core.dev.esc = {} ∧ t.core.dev.mov = {} ∧
    (∀ a, a < 0x10000000 → t.core.mem.cells.read a = 0) ∧ (s.core.dev.svc.burn = none → t.otp = s.otp)) ∧
  (∀ s : State, s.core.dev.st ≠ .off → ToState .supplyInvalid s fun t =>
    t.core.dev.st = .off ∧ t.core.dev.locks = [] ∧ t.core.dev.esc = {} ∧ t.core.dev.mov = {} ∧
    (∀ a, a < 0x10000000 → t.core.mem.cells.read a = 0) ∧ (s.core.dev.svc.burn = none → t.otp = s.otp)) ∧
  (∀ s : State, s.core.dev.st = .off → Stays .resetNFall s ∧ Stays .supplyInvalid s) ∧
  (∀ (s : State) (x : BootIn), s.core.dev.st ≠ .off → Stays (.suppliesValid x) s) ∧
  (∀ (s : State) (x : BootIn), s.core.dev.held = false → Stays (.resetNRise x) s)

/-- R6, R7, R382: the end of bring-up and of BOOT, and the SAFE flag. -/
def Obligations.StartCommands : Prop :=
  ∀ s : State, s.powered = true →
    (s.core.dev.lac.bringUp = true → ToDev .bringUpEnd s fun d => d.lac.bringUp = false) ∧
    (∀ cut, s.core.dev.st = .boot → s.core.dev.lac.bringUp = false → ToDev (.bootEnd cut) s fun d =>
      d.st = (if Core.bootSafe s.core.dev ≠ 0 then .safe
        else if s.core.dev.esc.image.isSome && s.core.dev.cfgBit 4 0 then .run else .stop) ∧
      d.fbit F.SVC_EVT_BOOT_DONE = true ∧ d.fbit F.KEP_STAT_SCAN_BUSY = true ∧ d.keep.scanStart = d.tb) ∧
    (∀ cut, s.core.dev.st ≠ .boot → Stays (.bootEnd cut) s) ∧
    (s.core.dev.svc.safeWrite = true → s.core.dev.fbit F.KEP_STAT_SEALED = false → ToDev .safeFlagWritten s fun d =>
      d.nv.safeFlag = true ∧ d.svc.safeWrite = false) ∧
    (s.core.dev.st = .safe → s.core.dev.svc.exitPend = true → s.core.dev.fbit F.KEP_STAT_SEALED = false →
      ToDev .safeFlagClearWritten s fun d => d.st = .stop ∧ d.nv.safeFlag = false)

/-- R14, R255, R379, R395: the warning and its end, the pace, and the supply of the field die. -/
def Obligations.WarningCommands : Prop :=
  (∀ s : State, s.powered = true → s.core.dev.fbit F.SVC_STAT_WARN = false → ToState .powerFailWarning s fun t =>
    t.core.dev.fbit F.SVC_STAT_WARN = true ∧ t.core.dev.st = s.core.dev.st ∧
    (s.core.dev.svc.burn = none → t.otp = s.otp)) ∧
  (∀ s : State, (s.powered = false ∨ s.core.dev.fbit F.SVC_STAT_WARN = true) → Stays .powerFailWarning s) ∧
  (∀ s : State, s.core.dev.fbit F.SVC_STAT_WARN = true → ToState .keepUnseal s fun t =>
    t.core.dev.fbit F.SVC_STAT_WARN = false ∧ t.core.dev.fbit F.KEP_STAT_SEALED = false ∧ t.otp = s.otp) ∧
  (∀ s : State, s.core.dev.fbit F.SVC_STAT_WARN = false → Stays .keepUnseal s) ∧
  (∀ (s : State) (p : BitVec 16), s.powered = true → ToDev (.paceWindowEnd p) s fun d =>
    d.fget F.SVC_PACE_PACE = p.toNat ∧
    d.fget F.SVC_PACE_PACE_MAX = max (s.core.dev.fget F.SVC_PACE_PACE_MAX) (min 0x7FFF p.toNat) ∧
    (s.core.dev.fget F.SVC_PACE_LIM_PACE_LIM < p.toNat → d.fbit F.SVC_PACE_SLOW = true ∧ d.fbit F.SVC_EVT_PACE = true)) ∧
  (∀ s : State, ToDev .vfieldLoss s fun d =>
    d.field.power = false ∧ d.field.released = false ∧ d.fbit F.FLD_STAT_RELEASED = false)

/-- R13, R36, R44, R45, R47, R59, R67, R172: the beat, what is due between beats, dispatch, and a completion timeout,
which lets the instance down and marks its retry; a timeout of the retry is lasting. -/
def Obligations.CycleCommands : Prop :=
  ∀ s : State, s.powered = true →
    BeatForm s ∧ HoldForm s ∧ OverrunForm s ∧ StretchForm s ∧ AckWaitForm s ∧ DispatchForm s ∧ TimeoutForm s

/-- R68: the head commits: WORKMEM takes every byte of its let-down buffer and keeps every other, and its task goes on
where the instance ended. A head that has not ended stays; a reserved opcode traps (R83). R45, R59: the next strand is
dispatched where the task stands, and a stretched task that has completed is released. -/
def Obligations.HeadCommit : Prop :=
  ∀ s : State, s.powered = true → DispatchForm s ∧ StretchForm s ∧
    (∀ (tr : Nat) (r : Run) (e : Exit) (l : List (Nat × Run)), s.core.dev.flight = (tr, r) :: l → r.exit = some e →
      e.top = false → r.task < 16 → s.core.mayCommit r.task = true → ToCore .headCommit s fun c =>
        (c.dev.task r.task).pc = e.next ∧
        (s.core.mem.errs = [] → (r.buf.map (·.1)).Nodup → ∀ a, c.mem.cells.read a =
          match r.buf.find? fun b => b.1 = a with
          | some b => b.2
          | none => s.core.mem.cells.read a)) ∧
    (∀ (tr : Nat) (r : Run) (e : Exit) (l : List (Nat × Run)), s.core.dev.flight = (tr, r) :: l → r.exit = some e →
      s.core.mayCommit r.task = false → exec .headCommit s = .next { s with core :=
        (if Core.marksWait s.core.dev r.task then s.core.waitFor tr r .mark else s.core) }) ∧
    (∀ (tr : Nat) (r : Run) (l : List (Nat × Run)), s.core.dev.flight = (tr, r) :: l → r.exit = none →
      exec .headCommit s = .next { s with core :=
        (if r.opened && Core.reservedOp (s.core.mem.cells.read (r.pc.toNat + 3)).toNat then
          s.core.takeTrap tr r tILLEGAL_OP none else s.core) }) ∧
    (s.core.dev.flight = [] → Stays .headCommit s)

/-- R36, R48: a beat carries out the steps of Table 2.1 in order. It stands at the first grid point that has had none;
its tick sets the time base to that point, its number is the point's multiple, the host's view swaps, and the reserve
of the interval that ends is written. -/
def Obligations.BeatTime : Prop :=
  (∀ s : State, s.powered = true → BeatForm s) ∧
  (∀ d : Dev, d.beatTick.tb = d.nextBeat ∧ d.beatTick.esc.lastBeat = some d.nextBeat ∧ d.beatTick.esc.pub = d.esc.pubNext ∧
    d.beatTick.rnat A.ESC_BNUM_LO = d.nextBeat / d.esc.period % 2 ^ 32) ∧
  ∀ d : Dev, 0 < d.esc.period →
    d.nextBeat % d.esc.period = 0 ∧ d.tb ≤ d.nextBeat ∧ d.nextBeat ≤ d.tb + d.esc.period ∧
    (∀ t, d.esc.lastBeat = some t → t ≤ d.tb → t < d.nextBeat) ∧
    d.reserveEnd.esc.lastBeat = some d.tb ∧ d.reserveEnd.esc.busy = 0 ∧
    d.reserveEnd.rnat A.ESC_RSV = min (2 ^ 32 - 1) (d.tb - d.esc.lastBeat.getD d.esc.bootEnd - d.esc.busy)

/-- R47: a task fault ends the task: under HALT it is halted and its ranges take their safe values at the next beat,
under SAFE the device goes to SAFE at the next beat. No other task stops. An overrun at its limit is such a fault, and
a lasting completion timeout. -/
def Obligations.TaskFaults : Prop :=
  (∀ s : State, s.powered = true → OverrunForm s ∧ TimeoutForm s) ∧
  ∀ (c : Core) (n cause : Nat) (pc : Word), n < 16 → 0 < cause → cause < 8 →
    (c.dev.fbit (F.ESC_TCFG_FAULT_POL n) = false →
      ((c.taskFault n cause pc).dev.task n).halted = true ∧ ((c.taskFault n cause pc).dev.task n).safeDue = true) ∧
    (c.dev.fbit (F.ESC_TCFG_FAULT_POL n) = true → (c.dev.st = .run ∨ c.dev.st = .stop) →
      (c.taskFault n cause pc).dev.esc.safeFault = true) ∧
    ((c.taskFault n cause pc).dev.task n).active = false ∧
    (c.taskFault n cause pc).dev.fget F.ESC_FLT_CAUSE
      = (if c.dev.fget F.ESC_FLT_CAUSE = 0 then cause else c.dev.fget F.ESC_FLT_CAUSE) ∧
    (∀ m, m < 16 → m ≠ n → ((c.taskFault n cause pc).dev.task m).active = (c.dev.task m).active)

/-- R159, R160, R165, R174 to R178: frames sent and passed on, folds and links. A cyclic frame leaves at TX_OFS and is
remembered under its SEQ; a frame passing between two other ports gains a hop, its residence and its link delay. -/
def Obligations.FrameCommands : Prop :=
  ∀ s : State, s.powered = true →
    (∀ l, s.core.dev.mayFrame l = true →
      s.core.dev.tb % s.core.dev.ringNs l = 10 * s.core.dev.fget F.LAC_CFG_TX_OFS → ToDev (.cyclicFrameSend l) s fun d =>
        d.fget F.LAC_SEQ_SEQ = s.core.dev.tb / s.core.dev.ringNs l % 65536 ∧
        (d.ring l).sentSeq = some (s.core.dev.tb / s.core.dev.ringNs l % 65536) ∧ (d.ring l).sentAt = s.core.dev.tb ∧
        (d.ring l).retried = false ∧ (d.ring l).awaited = s.core.dev.positions l ∧
        ((s.core.dev.ring l).closing = true → (d.ring l).lines = false)) ∧
    (∀ l, s.core.dev.mayFrame l = false →
      Stays (.cyclicFrameSend l) s ∧ (s.core.dev.st ≠ .boot → Stays (.timeFrameSend l) s)) ∧
    (∀ l, ((s.core.dev.st = .boot ∧ s.core.dev.held = false ∧ s.core.dev.manages l = true ∧
          s.core.dev.originates = true ∧ (s.core.dev.ring l).laidOut = true) ∨
        (l = true ∧ s.core.dev.mayFrame l = true ∧
          (s.core.dev.tb - 10 * s.core.dev.fget F.LAC_CFG_TX_OFS) % s.core.dev.ringNs true ≠ 0)) →
      s.core.dev.tb % s.core.dev.tbNs = 10 * s.core.dev.fget F.LAC_CFG_TX_OFS →
      (s.core.dev.ring l).lines = false → s.core.dev.portUsable (s.core.dev.sendingPort l) = true →
      (s.core.dev.role = 1 → s.core.dev.gtLock = true) →
      exec (.timeFrameSend l) s = .next (withDev s (s.core.dev.sendPort (s.core.dev.sendingPort l)
        (makeFrame (s.core.dev.ownHdr 4 (s.core.dev.tb / s.core.dev.tbNs % 65536) 0
          (s.core.dev.sendingPort l % 2 = 1) false) [])))) ∧
    (∀ (p : Fin 4) (bs : List Byte), 2 ≤ p.val → s.core.dev.portUsable p = true →
      s.core.dev.portUsable (otherPort p) = true → 38 ≤ bs.length → 1 ≤ (parseHdr bs).typ → (parseHdr bs).typ ≤ 4 →
      hcrcOk bs = true → fcrcOk bs = true → s.core.dev.lac.memb.errAt = [] →
      exec (.frameArrival p bs) s = .next (withDev s ((s.core.dev.bytesIn p bs.length).sendPort (otherPort p)
        (sealFrame (setBytes (setBytes bs 23 (leBytes 1 ((parseHdr bs).hops + 1))) 16
          (leBytes 4 ((parseHdr bs).corr + 120 * 64 + s.core.dev.fget (F.LAC_PORT_DELAY p)))))))) ∧
    (∀ (p : Fin 4) (bs : List Byte), 2 ≤ p.val → s.core.dev.portUsable p = false → Stays (.frameArrival p bs) s) ∧
    (∀ (p : Fin 4) (f : Returned) (l : Bool), s.core.dev.ringOfPort p = some l →
      (s.core.dev.ring l).sentSeq = some (parseHdr f.bytes).seq → 1 ≤ (parseHdr f.bytes).typ →
      (parseHdr f.bytes).typ ≤ 2 → 38 ≤ f.bytes.length → ToDev (.frameReturn p f) s fun d =>
        d.rnat A.LAC_TFRAME = (s.core.dev.tb - (s.core.dev.ring l).sentAt) % 2 ^ 32) ∧
    (∀ (p : Fin 4) (f : Returned), s.core.dev.ringOfPort p = none → s.core.dev.acts = false →
      Stays (.frameReturn p f) s) ∧
    (∀ l cw ccw, s.core.dev.manages l = true → (s.core.dev.ring l).sentSeq.isSome = true →
      ToDev (.frameAbort l cw ccw) s (fun d => (d.ring l).lines = true) ∧
      (s.core.dev.overdue l = true → ToDev (.frameNotReturned l cw ccw) s fun d => (d.ring l).lines = true)) ∧
    (∀ l cw ccw, s.core.dev.manages l = false → Stays (.frameAbort l cw ccw) s ∧ Stays (.frameNotReturned l cw ccw) s) ∧
    (∀ l cw ccw, s.core.dev.overdue l = false → Stays (.frameNotReturned l cw ccw) s) ∧
    (∀ p : Fin 4, s.core.dev.fbit (F.LAC_PORT_UP p) = true → s.core.dev.fbit (F.LAC_PORT_FOLD p) = false →
      ToDev (.lossOfSignal p) s fun d => d.fbit (F.LAC_PORT_UP p) = false ∧ d.fbit (F.LAC_PORT_FOLD p) = true ∧
        d.portUsable p = false) ∧
    (∀ p : Fin 4, s.core.dev.fbit (F.LAC_PORT_UP p) = false → Stays (.lossOfSignal p) s) ∧
    (∀ (p : Fin 4) (trips turns : List Nat), s.core.dev.fbit (F.LAC_PORT_UP p) = true →
      trips.length = 16 → turns.length = 16 → s.core.dev.probesDue p = true →
      ToDev (.linkDelayMeasurement p trips turns) s fun d =>
        let sum := ((trips.zip turns).map fun y => y.1 - y.2).sum
        ∃ x, 4 * sum / 5 ≤ x ∧ x ≤ (4 * sum + 4) / 5 ∧
          d.fget (F.LAC_PORT_DELAY p) = min x (2 ^ 20 - 1)) ∧
    (∀ (p : Fin 4) (trips turns : List Nat), (trips.zip turns).length ≠ 16 →
      Stays (.linkDelayMeasurement p trips turns) s) ∧
    (∀ p : Fin 4, s.core.dev.fbit (F.LAC_PORT_FOLD p) = true → s.core.dev.portInUse p = true →
      ToDev (.unfold p) s fun d => d.fbit (F.LAC_PORT_FOLD p) = false ∧ d.fbit (F.LAC_PORT_UP p) = true) ∧
    (∀ (p : Fin 4) (l : Bool), s.core.dev.ringOfPort p = some l → s.core.dev.fbit F.LAC_CTL_UNFOLD_AUTO = true →
      (s.core.dev.ring l).lines = true → s.core.dev.fbit (F.LAC_PORT_FOLD (otherPort p)) = false →
      ToDev (.unfold p) s fun d => (d.ring l).closing = true) ∧
    (∀ p : Fin 4, s.core.dev.portInUse p = true → ToDev (.portUp p) s fun d => d.fbit (F.LAC_PORT_UP p) = true) ∧
    (∀ p : Fin 4, s.core.dev.portInUse p = false → Stays (.portUp p) s)

/-- R156, R157, R172, R173, R179: bring-up and admission, and the end of a member's hold. -/
def Obligations.AdmissionCommands : Prop :=
  ∀ s : State, s.powered = true → HoldForm s ∧
    (∀ (p : Fin 4) (b : Nat) (ss : List Station), b < 128 → s.core.dev.ringOfPort p = none → p.val < 2 →
      s.core.dev.isMember = true → s.core.dev.role = 0 → ss.length < 127 →
      (∀ x ∈ ss, x.devId ≠ s.core.dev.factory.deviceId) → ToDev (.enum p b ss false) s fun d =>
        d.lac.memb.pos = ss.length + 1 ∧ d.fget F.LAC_ADDR_ADDR = b * 128 + ss.length + 1 ∧
        d.fbit F.LAC_ADDR_VALID = true) ∧
    (∀ (p : Fin 4) (b : Nat) (rev l : Bool), s.core.dev.ringOfPort p = some l → s.core.dev.lac.bringUp = false →
      Stays (.enum p b [] rev) s) ∧
    (∀ (p : Fin 4) (rows : List RingRow) (r : RingRow) (id : Nat), id < 65536 → s.core.dev.ringOfPort p = none →
      p.val < 2 → s.core.dev.isMember = true → rows.find? (fun x => x.devId = s.core.dev.factory.deviceId) = some r →
      ToDev (.layout p rows id) s fun d =>
        d.lac.memb.pos = r.pos ∧ d.lac.memb.layout = rows ∧
        (s.core.dev.role = 0 → d.fget F.LAC_LAYOUT_LAYOUT_ID = id)) ∧
    (∀ (p : Fin 4) (rows : List RingRow) (id : Nat) (l : Bool), s.core.dev.ringOfPort p = some l →
      s.core.dev.leads = true → Stays (.layout p rows id) s) ∧
    (∀ (p : Fin 4) (r : JoinReq), r.devId = s.core.dev.factory.deviceId → s.core.dev.isMember = true →
      s.core.dev.fget F.LAC_STAT_MEMBER < 2 → s.core.dev.lac.memb.joinAfter ≤ s.core.dev.tb →
      (s.core.dev.portUsable 0 || s.core.dev.portUsable 1) = true →
      s.core.dev.betweenFrames s.core.dev.memberNs = true →
          ToDev (.joinReq p r) s fun d => d.fget F.LAC_STAT_MEMBER = 1) ∧
    (∀ (p : Fin 4) (r : JoinReq) (l : Bool) (n : Nat), r.devId ≠ s.core.dev.factory.deviceId →
      s.core.dev.ringOfPort p = some l → s.core.dev.leads = true → r.tb = s.core.dev.fget F.LAC_TB_TB →
      r.rmul = s.core.dev.rmul → s.core.dev.joinPos l p r = some n →
      ToDev (.joinReq p r) s fun d => n ∈ (d.ring l).admitted ∧ (n, r.devId) ∈ (d.ring l).ids) ∧
    (∀ (p : Fin 4) (r : JoinReq) (l : Bool), r.devId ≠ s.core.dev.factory.deviceId → s.core.dev.ringOfPort p = some l →
      s.core.dev.leads = true → r.tb = s.core.dev.fget F.LAC_TB_TB → r.rmul = s.core.dev.rmul →
      s.core.dev.joinPos l p r = none → ToDev (.joinReq p r) s fun d =>
        d.ring l = s.core.dev.ring l ∧ d.fbit F.LAC_EVT_STRANGER = true) ∧
    (∀ (p : Fin 4) (a : JoinAck), a.devId = s.core.dev.factory.deviceId → s.core.dev.isMember = true → p.val < 2 →
      (a.pos = none → ToDev (.joinAck p a) s fun d => d.fget F.LAC_STAT_MEMBER = 0 ∧
        d.lac.memb.joinAfter = s.core.dev.tb + 64 * s.core.dev.memberNs) ∧
      (∀ n, a.pos = some n → ToDev (.joinAck p a) s fun d =>
        d.fget F.LAC_STAT_MEMBER = 2 ∧ d.fget F.LAC_STAT_HOLD_CNT = 0 ∧ d.lac.memb.pos = n ∧
        d.lac.memb.first = some a.firstSeq ∧ d.lac.memb.layout = a.layout))

/-- R180, R181, R183: the mailbox and the inbox. An entry goes from free to queued to done, and is free again when its
DONE bit is cleared. -/
def Obligations.MailboxCommands : Prop :=
  ∀ s : State, s.powered = true →
    (∀ (q : Requester) (e : Nat), (List.range 32).find? (fun e => s.core.dev.mbxState e = 0) = some e →
      ToDev (.mailboxGo q) s fun d => d.mbxState e = 1 ∧ d.fbit (F.LAC_STG_RESP_BUSY (Dev.stagingOf q)) = false ∧
        d.fget (F.LAC_STG_RESP_ENTRY (Dev.stagingOf q)) = e ∧
        ∃ w, d.lac.mbx = s.core.dev.lac.mbx ++ [w] ∧ w.entry = e) ∧
    (∀ q : Requester, (∀ e, e < 32 → s.core.dev.mbxState e ≠ 0) → ToDev (.mailboxGo q) s fun d =>
      d.lac.mbx = s.core.dev.lac.mbx ∧ d.fbit (F.LAC_STG_RESP_BUSY (Dev.stagingOf q)) = true ∧
      d.fbit F.LAC_EVT_MBX_BUSY = true) ∧
    (∀ (p : Fin 4) (m : MbxMsg), m.dest = s.core.dev.ownAddr → s.core.dev.fbit F.LAC_ADDR_VALID = true →
        s.core.dev.acts = true → m.kind = 3 →
      s.core.dev.fget F.LAC_INBOX_COUNT < 8 → ToDev (.mailboxRequest p m) s fun d =>
        d.fget F.LAC_INBOX_COUNT = s.core.dev.fget F.LAC_INBOX_COUNT + 1 ∧ d.fbit F.LAC_EVT_INBOX = true) ∧
    (∀ (p : Fin 4) (m : MbxMsg), m.dest = s.core.dev.ownAddr → s.core.dev.fbit F.LAC_ADDR_VALID = true →
        s.core.dev.acts = true → m.kind = 3 →
      8 ≤ s.core.dev.fget F.LAC_INBOX_COUNT →
      exec (.mailboxRequest p m) s = .next (withDev s (s.core.dev.sendMsg p (.mbxResp { m with result := 4, data := [] })))) ∧
    (∀ (p : Fin 4) (m : MbxMsg), m.src = s.core.dev.ownAddr → m.entry < 32 → m.result < 16 →
      s.core.dev.mbxState m.entry = 2 → ToDev (.mailboxResponse p m true) s fun d =>
        d.mbxState m.entry = 3 ∧ d.fget (F.LAC_MBX_CTRL_RESULT m.entry) = m.result ∧
        (d.rget A.LAC_MBX_DONE).getLsbD m.entry = true ∧ d.fbit F.LAC_EVT_MBX_DONE = true) ∧
    (∀ (p : Fin 4) (m : MbxMsg) (good : Bool), m.src = s.core.dev.ownAddr → s.core.dev.mbxState m.entry ≠ 2 →
      Stays (.mailboxResponse p m good) s) ∧
    (∀ (e : Fin 32) (w : MbxWait), s.core.dev.role = 0 → s.core.dev.mbxState e = 2 →
      s.core.dev.lac.mbx.find? (fun x => x.entry = e.val) = some w → w.at_ + 8 * s.core.dev.tbNs ≤ s.core.dev.tb →
      ToDev (.mailboxTimeout e) s fun d => d.mbxState e = 3 ∧ d.fget (F.LAC_MBX_CTRL_RESULT e) = 2) ∧
    (∀ e : Fin 32, s.core.dev.mbxState e ≠ 2 → Stays (.mailboxTimeout e) s) ∧
    (∀ (q : Requester) (mask : Word), ToDev (.mbxDoneClear q mask) s fun d => ∀ e, e < 32 →
      d.mbxState e = if mask.getLsbD e = true ∧ s.core.dev.mbxState e = 3 then 0 else s.core.dev.mbxState e) ∧
    (∀ (q : Requester) (v : Word), v.getLsbD 0 = true → ToDev (.inboxPop q v) s fun d =>
      d.fget F.LAC_INBOX_COUNT = s.core.dev.fget F.LAC_INBOX_COUNT - 1)

/-- R189, R190: the eleven WELT blocks arrive in order, failed ones are asked for again. -/
def Obligations.WeltBlocks : Prop :=
  (∀ st, BlockOp (fun h => .status h st) (.status st) fun c => c.statusArrive st) ∧
  (∀ n, BlockOp (fun h => .nak h n) (.nak n) fun c => c.onDev fun d => d.nakArrive n) ∧
  (∀ gs, BlockOp (fun h => .input h gs) (.input gs) fun c => c.onDev fun d => d.inputArrive gs) ∧
  (∀ x, BlockOp (fun h => .sched h x) (.sched x) fun c => c.schedArrive x) ∧
  (∀ n k, BlockOp (fun h => .mark h n k) (.mark n k) fun c => c.onDev fun d => d.markArrive n k) ∧
  (∀ es, BlockOp (fun h => .loadlog h es) (.loadlog es) fun c => c.onDev fun d => d.logArrive es) ∧
  (∀ xs, BlockOp (fun h => .copy h xs) (.copy xs) fun c => c.onDev fun d => d.copyArrive xs) ∧
  (∀ n rb g dg fl e, BlockOp (fun h => .copyEnd h n rb g dg fl e) (.copyEnd n rb g dg fl e) fun c =>
    c.copyEndArrive n rb dg fl e) ∧
  (∀ n rb dg fl g, BlockOp (fun h => .ack h n rb dg fl g) (.ack n rb dg fl g) fun c => c.ackArrive n rb dg fl) ∧
  (∀ im b, BlockOp (fun h => .seamBlock h im b) (.seam im b) fun c => c.seamArrive im b) ∧
  (∀ xs j, BlockOp (fun h => .resync h xs j) (.resync xs j) fun c => c.resyncArrive xs j)

/-- R44, R191 to R196, R199, R208, R209, R211: what a good block does at the member it reaches. -/
def Obligations.WeltBlockEffects : Prop :=
  (∀ (d : Dev) (st : WStatus), st.state < 5 → (d.seePeer st).fget F.WLT_STAT_PEER
    = (if d.wlt.dropped && decide (st.state = 2) then 0 else st.state)) ∧
  (∀ (d : Dev) (n : Nat), d.wlt.resent.contains n = true → (d.nakArrive n).fbit F.WLT_STAT_LINK_UP = false) ∧
  (∀ (d : Dev) (g : Nat) (x : BitVec 256), d.follows = true →
    (d.inputArrive [(g, x)]).wlt.mirror.readN (32 * g) 32 = leBytes 32 x.toNat ∧
    (∀ a, a < 32 * g ∨ 32 * g + 32 ≤ a → (d.inputArrive [(g, x)]).wlt.mirror.read a = d.wlt.mirror.read a)) ∧
  (∀ (c : Core) (x : WSched), c.dev.follows = false → c.schedArrive x = c) ∧
  (∀ (c : Core) (n t : Nat), n < 16 → c.dev.follows = true →
      (let k := c.schedArrive
        { beat := t / c.dev.esc.period, releases := [(n, t)], stretched := [], alerts := [], displaced := [] }
       k.dev.wlt.await = false ∧ (k.dev.task n).active = true ∧ (k.dev.task n).relTime = t)) ∧
  (∀ (d : Dev) (n k : Nat), d.follows = true →
    alGet n 0 (d.markArrive n k).wlt.limits = max k (alGet n 0 d.wlt.limits)) ∧
  (∀ (d : Dev) (es : List (Nat × Nat × Nat)), (d.logArrive es).wlt.loads
    = (if d.follows then d.wlt.loads ++ es else d.wlt.loads)) ∧
  (∀ (d : Dev) (xs : List WItem), (d.copyArrive xs).wlt.rcopy
    = (if d.follows then d.wlt.rcopy ++ xs else d.wlt.rcopy)) ∧
  (∀ (c : Core) (n rb : Nat) (dg : BitVec 64) (fl : Bool) (e : Nat), c.dev.follows = true → c.dev.wlt.joinBeat = none →
    (∀ x ∈ c.dev.wlt.own, x.task ≠ n) → (c.copyEndArrive n rb dg fl e).dev.wlt.held = c.dev.wlt.held ++
      [{ task := n, relBeat := rb, digest := dg, fault := fl, endCode := e, items := c.dev.wlt.rcopy }] ∧
    (c.copyEndArrive n rb dg fl e).dev.wlt.rcopy = [] ∧ (c.copyEndArrive n rb dg fl e).mem = c.mem) ∧
  (∀ (c : Core) (n rb : Nat) (dg : BitVec 64) (fl : Bool) (o : WCycle), c.dev.isHolder = true → n < 16 →
    c.dev.wlt.own = [o] → o.task = n → o.relBeat = rb → o.digest = dg →
    ((c.ackArrive n rb dg fl).dev.task n).waitAck = false ∧ (c.ackArrive n rb dg fl).dev.wlt.own = []) ∧
  (∀ (c : Core) (im : Image) (b : Nat), c.stagedImage = some im → c.dev.follows = true →
    (c.seamArrive im.hash b).dev.wlt.seamAt = some b) ∧
  (∀ (c : Core) (xs : List WItem) (b : Nat), c.dev.wltState = 1 →
      (c.resyncArrive xs (some b)).dev.wlt.joinBeat = some b) ∧
  (∀ (c : Core) (xs : List WItem) (j : Option Nat), c.dev.wltState ≠ 1 → c.resyncArrive xs j = c)

/-- R44, R182, R202 to R207: the lease and the crown, the link and its silence, and a partner that does not
acknowledge in time. -/
def Obligations.LeaseCommands : Prop :=
  ∀ s : State, s.powered = true → AckWaitForm s ∧
    (∀ (p : Fin 4) (ep : Nat) (l : Lease) (alt : Bool), newerEpoch (s.core.dev.rnat A.LAC_EPOCH) ep = true →
      Stays (.managementFrame p ep l alt) s) ∧
    (∀ (p : Fin 4) (ep : Nat) (l : Lease) (alt : Bool), newerEpoch (s.core.dev.rnat A.LAC_EPOCH) ep = false →
      s.core.dev.paired = true → l.pair = s.core.dev.ownAddr → s.core.dev.keeps l.pair alt = false →
      l.devId = s.core.dev.factory.deviceId →
      (l.sub = 3 → ToDev (.managementFrame p ep l alt) s fun d => d.wlt.grant = some l.lepoch) ∧
      (l.sub = 2 → s.core.dev.wltState = 4 → s.core.dev.leaseLc < l.lbeat → l.lbeat < 2 ^ 64 →
        ToDev (.managementFrame p ep l alt) s fun d => d.leaseLc = l.lbeat)) ∧
    (∀ (p : Fin 4) (ep : Nat) (l : Lease) (alt : Bool), newerEpoch (s.core.dev.rnat A.LAC_EPOCH) ep = false →
      s.core.dev.keeps l.pair alt = true → s.core.dev.leaseRow l.pair = none → l.sub = 1 →
      ToDev (.managementFrame p ep l alt) s fun d => d.leaseRow l.pair = some l) ∧
    (s.core.dev.isHolder = true → s.core.dev.acts = true → s.core.dev.fbit F.WLT_STAT_KEEPERLESS = false →
      s.core.dev.wlt.yield = false → s.core.dev.wlt.renewed ≠ some s.core.dev.leaseBeat →
      (let d := s.core.dev.mgmtSend (s.core.dev.leaseSay 1)
       exec .renew s = .next (withDev s (d.modWlt fun w => { w with renewed := some s.core.dev.leaseBeat })))) ∧
    (s.core.dev.isHolder = false → Stays .renew s ∧ Stays .leaseActsStop s) ∧
    (s.core.dev.isHolder = true → s.core.dev.fbit F.WLT_STAT_KEEPERLESS = false →
      s.core.dev.leaseLc + s.core.dev.leaseLen ≤ s.core.dev.leaseBeat + 1 → ToDev .leaseActsStop s fun d =>
        d.fbit F.WLT_STAT_LEASE_OK = false ∧ d.acts = false) ∧
    (∀ (pair : Nat) (alt : Bool) (r : Lease), s.core.dev.leaseRow pair = some r → r.pair = pair →
      s.core.dev.keeps pair alt = true → s.core.dev.wlt.lapsed.contains pair = false →
      r.lbeat + s.core.dev.leaseLen ≤ s.core.dev.leaseBeat →
      ((r.peer = 2 ∨ r.peer = 3) → ToDev (.leaseLapse pair alt) s fun d => d.leaseRow pair =
        some ⟨3, 0, pair, (r.lepoch + 1) % 2 ^ 32, s.core.dev.leaseBeat, s.core.dev.otherOf pair r.devId⟩) ∧
      (¬ (r.peer = 2 ∨ r.peer = 3) → ToDev (.leaseLapse pair alt) s fun d => pair ∈ d.wlt.lapsed)) ∧
    (∀ (pair : Nat) (alt : Bool), s.core.dev.leaseRow pair = none → Stays (.leaseLapse pair alt) s) ∧
    (∀ (q : Requester) (v : Word), v.getLsbD 31 = true → s.core.dev.isHolder = true →
      s.core.dev.fbit F.WLT_STAT_KEEPERLESS = false → s.core.dev.fget F.WLT_STAT_PEER = 2 →
      ToDev (.handover q v) s fun d => d.wlt.yield = true) ∧
    (s.core.dev.paired = true → s.core.dev.fbit F.WLT_STAT_LINK_UP = true → ToCore .weltLinkSilence s fun c =>
      c.dev.fbit F.WLT_STAT_LINK_UP = false ∧ (s.core.dev.wltState = 2 → c.dev.wltState = 3)) ∧
    (s.core.dev.fbit F.WLT_STAT_LINK_UP = false → Stays .weltLinkSilence s) ∧
    (∀ delay : BitVec 16, s.core.dev.paired = true → s.core.dev.fbit F.WLT_STAT_LINK_UP = false →
      1000 ≤ s.core.dev.wlt.goodStatus → ToDev (.weltLinkUp delay) s fun d =>
        d.fbit F.WLT_STAT_LINK_UP = true ∧ d.rnat A.WLT_DELAY = delay.toNat) ∧
    (∀ delay : BitVec 16, s.core.dev.wlt.goodStatus < 1000 → Stays (.weltLinkUp delay) s)

/-- R371, R372, R374: the tagged commands of the service port. While a burn is in progress the commands of images,
resole and OTP are answered BUSY (R377). -/
def Obligations.ServiceRequests : Prop :=
  (let up := Core.upStates
   RequestOp .read 0x10 up (fun s r c => c.serviceRead s.area r.payload) ∧
   RequestOp .write 0x11 up (fun _ r c => c.serviceWrite r.payload) ∧
   RequestOp .imageBegin 0x20 up (fun _ r c => c.unlessBurning fun c => c.imageBegin r.payload) ∧
   RequestOp .imageData 0x21 up (fun _ r c => c.unlessBurning fun c => c.imageData r.payload) ∧
   RequestOp .imageEnd 0x22 up (fun _ _ c => c.unlessBurning fun c => c.imageEnd) ∧
   RequestOp .resole 0x23 [.stop, .run] (fun _ r c => c.unlessBurning fun c => c.resole r.payload) ∧
   RequestOp .run 0x30 [.stop] (fun _ _ c => c.runCmd) ∧
   RequestOp .stop 0x31 [.run, .safe] (fun _ _ c => c.stopCmd) ∧
   RequestOp .step 0x32 [.stop] (fun _ _ c => c.stepCmd) ∧
   RequestOp .otpBurn 0x40 up (fun s _ c => c.unlessBurning fun c => c.otpBurn s.otp) ∧
   RequestOp .recorderRead 0x50 up (fun s r c => c.recorderRead s.area r.payload) ∧
   RequestOp .health 0x51 up (fun _ _ c => c.health)) ∧
  (∀ (c : Core) (f : Core → Core), c.dev.svc.burn.isSome = true →
      c.unlessBurning f = c.onDev fun d => d.respond sBUSY []) ∧
  (∀ (c : Core) (f : Core → Core), c.dev.svc.burn = none → c.unlessBurning f = f c)

/-- R30, R218, R221, R230, R358, R374, R377: what an accepted command of the service port does. -/
def Obligations.ServiceEffects : Prop :=
  (∀ (c : Core) (a : Nat) (bs : List Byte), c.dev.st = .stop → 0x8000 ≤ a → a + bs.length ≤ 0x1E0000 → bs ≠ [] →
    bs.length ≤ 1024 → c.serviceWrite (leBytes 4 a ++ bs) = (c.put a bs).onDev fun d => d.respond sOK []) ∧
  (∀ (c : Core) (a : Nat) (bs : List Byte), c.dev.st ≠ .stop → 0x8000 ≤ a → a + bs.length ≤ 0x1E0000 → bs ≠ [] →
    bs.length ≤ 1024 → c.serviceWrite (leBytes 4 a ++ bs) = c.onDev fun d => d.respond sSTATE []) ∧
  (∀ (c : Core) (im : Image), c.notHolder = false → c.dev.esc.image = some im → (c.halfRec im.half).state = 4 →
    c.dev.esc.stepReq = false → c.dev.esc.stepping = false → c.dev.esc.safeFault = false →
    c.runCmd.dev = { c.dev with esc := { c.dev.esc with runReq := true } }) ∧
  (∀ c : Core, c.dev.esc.image = none → c.runCmd = c.onDev fun d => d.respond sSTATE []) ∧
  (∀ c : Core, c.notHolder = false → c.dev.st = .run → c.stopCmd.dev.esc.stopReq = true) ∧
  (∀ c : Core, c.notHolder = false → c.dev.st = .safe → c.stopCmd.dev.svc.exitPend = true) ∧
  (∀ c : Core, c.notHolder = false → c.dev.esc.stepReq = false → c.dev.esc.stepping = false → c.dev.esc.runReq = false →
    c.stepCmd.dev = { c.dev with esc := { c.dev.esc with stepReq := true } }) ∧
  (∀ (c : Core) (h : List Byte), h.length ≠ 256 → c.imageBegin h = c.onDev fun d => d.respond sBAD_ARG []) ∧
  (∀ (c : Core) (p : List Byte), c.dev.svc.intake = none → c.imageData p = c.onDev fun d => d.respond sSTATE []) ∧
  (∀ (c : Core) (x : Intake) (p : List Byte), c.dev.svc.intake = some x → x.kind ≠ 3 → 5 ≤ p.length → p.length ≤ 1028 →
    c.dev.fbit F.KEP_STAT_SEALED = true → c.imageData p = c.onDev fun d => d.respond sBUSY []) ∧
  (∀ (c : Core) (x : Intake) (ofs : Nat) (bs : List Byte), c.dev.svc.intake = some x →
    c.dev.fbit F.KEP_STAT_SEALED = false → bs ≠ [] → bs.length ≤ 1024 →
    ofs = x.rcvd → ofs < 2 ^ 22 → x.rcvd + bs.length ≤ hLe x.hdr 20 4 →
        (x.rcvd = 0 ∨ ofs ≠ x.lastOff ∨ bs ≠ x.lastBytes) →
    ∃ y, (c.imageData (leBytes 4 ofs ++ bs)).dev.svc.intake = some y ∧ y.rcvd = x.rcvd + bs.length ∧
      y.lastBytes = bs ∧ y.hdr = x.hdr) ∧
  (∀ c : Core, c.dev.svc.intake = none → c.imageEnd = c.onDev fun d => d.respond sSTATE []) ∧
  (∀ (c : Core) (x : Intake), c.dev.svc.intake = some x → c.dev.fbit F.KEP_STAT_SEALED = false →
    x.rcvd < hLe x.hdr 20 4 → c.imageEnd.dev.svc.intake = none ∧ c.imageEnd.dev.fget F.SVC_INTK_REFUSAL = 0x20 ∧
    c.imageEnd.dev.fget F.SVC_INTK_STATE = 2) ∧
  (∀ (c : Core) (p : List Byte), p.length ≠ 16 → c.resole p = c.onDev fun d => d.respond sBAD_ARG []) ∧
  (∀ (c : Core) (o : Otp), c.dev.svc.staged = none → (c.otpBurn o).dev.fget F.SVC_INTK_REFUSAL = 0x34) ∧
  (∀ (c : Core) (o : Otp) (bs : List Byte) (slot : Nat), c.dev.svc.staged = some (bs, slot) → Core.gensUsed o < 8 →
    slot < 4 → 3 < hLe bs 449 1 → (BitVec.ofNat 4 (hLe bs 448 1)).getLsbD slot = false →
    (c.otpBurn o).dev.svc.burn = some (c.dev.tb, Core.gensUsed o) ∧
    (c.otpBurn o).dev.fbit F.SVC_STAT_BURNING = true) ∧
  (∀ (c : Core) (ar : Area) (p : List Byte), p.length ≠ 8 →
    c.recorderRead ar p = c.onDev fun d => d.respond sBAD_ARG [])

/-- R236, R239, R371 to R373, R377: the sessions of the service port, burns, and the timed commands of resole and
migration. -/
def Obligations.SessionCommands : Prop :=
  ∀ s : State, s.powered = true →
    (∀ seq, ToDev (.ident seq) s fun d => d.svc.nd = some (Config.nonce s.core.dev.free, s.core.dev.tb)) ∧
    (∀ seq p, ToDev (.openSession seq p) s fun d => d.svc.nd = none) ∧
    (∀ (seq : BitVec 16) (p : List Byte) (n : BitVec 128) (t : Nat), p.length = 48 → s.core.dev.lockedOut = false →
      s.core.dev.svc.nd = some (n, t) → s.core.dev.tb ≤ t + 10000000000 →
      (let key := leBytes 32 s.otp.serviceKey.toNat
       let good := hmacSha256 key (ascii4 "OPEN" ++ beBytes 16 n.toNat ++ p.take 16 ++ s.core.dev.devIdBytes) = p.drop 16
       (good → ToDev (.openSession seq p) s fun d => d.svc.sess.isSome = true ∧ d.svc.lockUntil = none ∧
          d.fbit F.SVC_STAT_SESSION = true ∧ d.fget F.SVC_SESS_FAILS = 0) ∧
       (¬ good → ToDev (.openSession seq p) s fun d => d.svc.sess = s.core.dev.svc.sess ∧
          (∃ t', d.svc.lockUntil = some t' ∧ s.core.dev.tb + 1000000000 ≤ t' ∧ t' ≤ s.core.dev.tb + 64000000000) ∧
          d.fbit F.SVC_EVT_AUTH_FAIL = true))) ∧
    (∀ seq p, s.core.dev.lockedOut = true → ToDev (.openSession seq p) s fun d =>
      d.svc.sess = s.core.dev.svc.sess ∧ d.svc.lockUntil = s.core.dev.svc.lockUntil) ∧
    (s.core.dev.lockedOut = true → Stays .lockoutEnd s) ∧
    (s.core.dev.lockedOut = false → ToDev .lockoutEnd s fun d => d.svc.lockUntil = none) ∧
    (∀ x, s.core.dev.svc.sess = some x → x.lastAt + 10000000000 ≤ s.core.dev.tb → ToDev .sessionTimeout s fun d =>
      d.svc.sess = none ∧ d.svc.intake = none ∧ d.fbit F.SVC_STAT_SESSION = false) ∧
    (s.core.dev.svc.sess = none → Stays .sessionTimeout s) ∧
    (s.core.dev.rslArmed = false → Stays .preCarryPass s ∧ Stays .resoleTimeout s) ∧
    (∀ im, s.core.dev.fget F.SVC_RSL_STATE = 1 → s.core.dev.activeTasks = [] → s.core.stagedImage = some im →
      s.core.carryIdentity = false → ToCore .preCarryPass s fun c =>
        c.dev.fget F.SVC_RSL_STATE = 2 ∧ c.dev.moverDirty = [] ∧ c.dev.svc.frozen = false) ∧
    (s.core.dev.rslArmed = true → s.core.dev.svc.rslAt + s.core.dev.rslTmo * 1000000 ≤ s.core.dev.tb →
      s.core.dev.paired = false → ToDev .resoleTimeout s fun d =>
        d.fget F.SVC_RSL_STATE = 4 ∧ d.fbit F.SVC_EVT_RESOLE_DEFERRED = true) ∧
    (s.core.dev.fbit F.SVC_MIGR_BUSY = true → s.core.dev.keep.migrating = false →
      s.core.dev.fbit F.KEP_STAT_SEALED = false → ToCore .migration s fun c => c.dev.keep.migrating = true) ∧
    (s.core.dev.fbit F.SVC_MIGR_BUSY = false → Stays .migration s) ∧
    (∀ im, s.core.dev.keep.migrating = true → s.core.dev.fbit F.KEP_STAT_SEALED = false → s.core.dev.keep.pend = none →
      s.core.dev.esc.image = some im → ToCore .migrationCommit s fun c => c.dev.keep.migrating = false ∧
        c.dev.fbit F.SVC_MIGR_BUSY = false ∧ c.dev.fbit F.SVC_MIGR_DONE = true ∧ c.dev.rget A.KEP_VER = im.keepVer) ∧
    (s.core.dev.keep.migrating = false → Stays .migrationCommit s) ∧
    (∀ reason, reason ≠ 1 → reason ≠ 2 →
      exec (.serviceFrameDropped reason) s = .next (withDev s (s.core.dev.tally 0xF01))) ∧
    (∀ reason, reason = 1 → ToDev (.serviceFrameDropped reason) s fun d =>
      d.svc = s.core.dev.svc ∧ d.fbit F.SVC_EVT_AUTH_FAIL = true)

/-- R377: a burn that has taken its 48 ms writes its generation and its keys, and only from 0 to 1; before that, or
once a warning has stopped it, nothing is written. -/
def Obligations.BurnDone : Prop :=
  ∀ (s : State) (ok : Bool) (t g slot : Nat) (bs : List Byte), s.powered = true → s.core.dev.svc.burn = some (t, g) →
    s.core.dev.svc.staged = some (bs, slot) →
    (s.core.dev.tb < t + 48000000 ∨ s.core.dev.svc.torn = true → Stays (.otpBurnDone ok) s) ∧
    (t + 48000000 ≤ s.core.dev.tb → s.core.dev.svc.torn = false → ToState (.otpBurnDone ok) s fun u =>
      u.otp = (if ok then Core.burnGen (Core.burnKeys s.otp bs) g (BitVec.ofNat 4096 (leNat bs))
        else Core.spentGen (Core.burnKeys s.otp bs) g bs) ∧
      s.otp.Burned u.otp ∧ u.area = s.area ∧ u.core.mem = s.core.mem ∧ u.core.dev.svc.burn = none ∧
      u.core.dev.fbit F.SVC_STAT_BURNING = false)

/-- R245, R247, R248, R251, R254, R257, R258, R261: WORKMEM and KEEP. A scrub or re-read corrects, poisons or leaves a
group; a record's commit writes its slots; the records requests are answered; the start-up scan fills the list of
records. -/
def Obligations.KeepCommands : Prop :=
  ∀ s : State, s.powered = true →
    (∀ g e1 e2, 0x10000 ≤ g → g < 0x1000_0000 / 32 → Stays (.scrubRead g e1 e2) s) ∧
    (∀ g e1 e2, g < 0x10000 → s.core.dev.fbit F.WKM_CTL_SCRUB_EN = false → Stays (.scrubRead g e1 e2) s) ∧
    (∀ g e1 e2, g < 0x10000 → s.core.dev.fbit F.WKM_CTL_SCRUB_EN = true → s.core.poisoned g = false →
      g ∉ s.core.dev.unwatched → s.core.readClass g e1 = .clean → exec (.scrubRead g e1 e2) s =
        .next (withDev s ((s.core.dev.tally 0x502).fset F.WKM_SCRUB_NEXT ((g + 1) % 0x10000)))) ∧
    (∀ e1 e2, s.core.dev.fbit F.WKM_CTL_SCRUB_EN = true → ToDev (.scrubRead 0x1880888 e1 e2) s fun d =>
      d.fbit F.WKM_EVT_SCRUB_PASS = true ∧
      (s.core.dev.fget F.WKM_SCRUB_PASSES < 65535 → d.fget F.WKM_SCRUB_PASSES = s.core.dev.fget F.WKM_SCRUB_PASSES + 1)) ∧
    (∀ g e1 e2 k v, g < 0x10000 → s.core.dev.fbit F.WKM_CTL_SCRUB_EN = true → s.core.poisoned g = false →
      g ∉ s.core.dev.unwatched → s.core.readClass g e1 = .correctable k v →
      s.core.dev.watch.length < 32 → (∀ w ∈ s.core.dev.watch, w.1 ≠ g) → ToCore (.scrubRead g e1 e2) s fun c =>
        c.mem = (if s.core.mem.errsOf g = [] then s.core.mem else Core.writeBack s.core.mem g k v) ∧
        c.dev.watch = s.core.dev.watch ++ [(g, s.core.dev.tb + 100000000)] ∧ c.dev.fbit F.WKM_EVT_CORR = true) ∧
    (∀ g e1 e2 k v, g < 0x10000 → s.core.dev.fbit F.WKM_CTL_SCRUB_EN = true → s.core.poisoned g = false →
      g ∉ s.core.dev.unwatched → s.core.readClass g e1 = .correctable k v →
      32 ≤ s.core.dev.watch.length → (∀ w ∈ s.core.dev.watch, w.1 ≠ g) → ToDev (.scrubRead g e1 e2) s fun d =>
        d.watch = s.core.dev.watch ∧ d.unwatched = s.core.dev.unwatched ++ [g]) ∧
    (∀ g e1 e2, g < 0x10000 → s.core.dev.fbit F.WKM_CTL_SCRUB_EN = true → s.core.poisoned g = false →
      g ∈ s.core.dev.unwatched → s.core.readClass g e1 = .clean → ToDev (.scrubRead g e1 e2) s fun d =>
        d.unwatched = s.core.dev.unwatched.filter (· ≠ g) ∧ d.watch = s.core.dev.watch) ∧
    (∀ g e1 e2, g < 0x10000 → s.core.dev.fbit F.WKM_CTL_SCRUB_EN = true → g ∉ s.core.dev.unwatched →
      s.core.mem.poisonOf g = none → s.core.mem.poisonFree ≠ none →
      (s.core.readClass g e1).bad = true → (s.core.readClass g e2).bad = true → ToCore (.scrubRead g e1 e2) s fun c =>
        c.mem.poisonOf g = some 0 ∧ c.mem.cells = s.core.mem.cells ∧ c.dev.fbit F.WKM_FLT_POISONED = true ∧
        c.dev.fbit F.WKM_EVT_UNCORR = true) ∧
    (∀ g e1 e2, (∀ w ∈ s.core.dev.watch, w.1 = foldGroup g → s.core.dev.tb < w.2) → Stays (.watchReread g e1 e2) s) ∧
    (∀ g e1 e2 t, (foldGroup g, t) ∈ s.core.dev.watch → t ≤ s.core.dev.tb → s.core.readClass g e1 = .clean →
      ToDev (.watchReread g e1 e2) s fun d => d.watch = s.core.dev.watch.filter fun w => w.1 ≠ foldGroup g) ∧
    (s.core.dev.keep.power = none → s.core.dev.keep.pend = none → Stays .keepRecordCommit s) ∧
    (∀ p, s.core.dev.keep.power = none → s.core.dev.keep.pend = some p → p.slots.length ≤ ringSlots →
      ToDev .keepRecordCommit s fun d =>
        d.keep.pend = none ∧ d.keep.head = (p.start + p.slots.length) % ringSlots ∧ d.rnat A.KEP_KSEQ = p.kseq % 2 ^ 32 ∧
        d.keep.nextKseq = (p.kseq + 1) % 2 ^ 32 ∧ d.fbit F.KEP_STAT_KEEPING = false ∧
        d.fbit F.KEP_EVT_KEEP_DONE = true ∧
        ∀ i x, p.slots[i]? = some x → Core.ringAt d.nv (p.start + i) = x.1) ∧
    (∀ (q : Requester) (len : BitVec 8), s.core.dev.acts = true → s.core.recordsBusy = true →
      ToDev (.recordWrite q len) s fun d => d.rnat (A.KEP_RRESP (Dev.stagingOf q)) = 2 ^ 28 ∧
        d.keep = s.core.dev.keep ∧ d.fbit F.KEP_EVT_REC_REFUSED = true) ∧
    (∀ (q : Requester) (len : BitVec 8), s.core.dev.acts = true → s.core.recordsBusy = false →
      (∀ x ∈ s.core.dev.keep.idx, x.key ≠ s.core.dev.rnat (A.KEP_RKEY (Dev.stagingOf q))) →
      512 ≤ s.core.dev.keep.idx.length → ToDev (.recordWrite q len) s fun d =>
        d.rnat (A.KEP_RRESP (Dev.stagingOf q)) = 2 * 2 ^ 28 ∧ d.keep = s.core.dev.keep) ∧
    (∀ (q : Requester) (len : BitVec 8), s.core.dev.acts = true → s.core.recordsBusy = false →
      s.core.dev.keep.idx.length < 512 →
      (s.core.dev.keep.writes.filter fun t => s.core.dev.tb < t + 1000000000).length ≤ 8000 →
      ToCore (.recordWrite q len) s fun c => c.dev.rnat (A.KEP_RRESP (Dev.stagingOf q)) = 0 ∧
        ∃ x, c.dev.keep.idx.find? (fun y => y.key = s.core.dev.rnat (A.KEP_RKEY (Dev.stagingOf q))) = some x ∧
          x.len = min 224 len.toNat ∧ c.mem.cells.readN (recordsBase + 256 * x.page) x.len =
            ((List.range 56).flatMap fun k => leBytes 4 (s.core.dev.rnat (A.KEP_RDATA (Dev.stagingOf q) k))).take x.len) ∧
    (∀ q : Requester, s.core.recordsBusy = true → ToDev (.recordRead q) s fun d =>
      d.rnat (A.KEP_RRESP (Dev.stagingOf q)) = 2 ^ 28 ∧ d.fbit F.KEP_EVT_REC_REFUSED = true) ∧
    (∀ q : Requester, s.core.recordsBusy = false →
      s.core.dev.keep.idx.find? (fun x => x.key = s.core.dev.rnat (A.KEP_RKEY (Dev.stagingOf q)) && x.len ≠ 0) = none →
      ToDev (.recordRead q) s fun d => d.rnat (A.KEP_RRESP (Dev.stagingOf q)) = 4 * 2 ^ 28) ∧
    (∀ (q : Requester) (x : RecLive), s.core.recordsBusy = false → x.len ≤ 224 →
      (∀ g ∈ pageGroups x.page x.len, s.core.readClass (0x1000000 + g) [] = .clean) →
      s.core.dev.keep.idx.find? (fun x => x.key = s.core.dev.rnat (A.KEP_RKEY (Dev.stagingOf q)) && x.len ≠ 0) = some x →
      ToDev (.recordRead q) s fun d =>
        d.rnat (A.KEP_RRESP (Dev.stagingOf q)) = (x.len * 2 ^ 16 + x.ver) % 2 ^ 32 ∧
        d.rnat (A.KEP_RSEQ (Dev.stagingOf q)) = x.seq % 2 ^ 32 ∧
        ∀ k, 4 * k + 4 ≤ x.len → d.rnat (A.KEP_RDATA (Dev.stagingOf q) k) =
          s.core.mem.cells.le (recordsBase + 256 * x.page + 4 * k) 4) ∧
    (s.core.dev.fbit F.KEP_STAT_SCAN_BUSY = true → ToDev .startUpScanDone s fun d =>
      d.fbit F.KEP_STAT_SCAN_BUSY = false ∧ d.fbit F.KEP_EVT_SCAN_DONE = true ∧
      (s.core.mem.errs = [] → d.keep.idx = s.core.scanRecords)) ∧
    (s.core.dev.fbit F.KEP_STAT_SCAN_BUSY = false → Stays .startUpScanDone s) ∧
    (∀ (q : Requester) (v : Word), s.core.dev.unlocked q 5 = true →
      ToDev (.wkmInjWrite q false v) s (fun d => d.fget F.WKM_INJ_ADDR_GROUP = v.toNat / 32 % 65536) ∧
      ToDev (.wkmInjWrite q true v) s fun d => d.fbit F.WKM_INJ_ARM = v.getLsbD 31 ∧
        d.fget F.WKM_INJ_POS1 = v.toNat / 65536 % 64 ∧ d.fget F.WKM_INJ_POS0 = v.toNat / 256 % 64 ∧
        d.fget F.WKM_INJ_XOR = v.toNat % 256) ∧
    (∀ (q : Requester) (v : Word) (ctl : Bool), s.core.dev.unlocked q 5 = false → ToDev (.wkmInjWrite q ctl v) s fun d =>
      d.rget A.WKM_INJ = s.core.dev.rget A.WKM_INJ ∧ d.rget A.WKM_INJ_ADDR = s.core.dev.rget A.WKM_INJ_ADDR ∧
      d.fbit F.WKM_STAT_LOCKED_WR = true)

/-- R266, R267, R269, R272, R273, R276, R278, R280, R282: FIELD: its output frames, the silence of the link, its
channels and its supply. -/
def Obligations.FieldCommands : Prop :=
  (∀ s : State, s.powered = true →
    (∀ resIn resOut : Fin 3, ToDev (.fieldInputFrame resIn resOut) s fun d =>
      d.field.resIn = some resIn.val ∧ d.field.resOut = resOut.val ∧ (resIn.val < 2 → d.field.power = true)) ∧
    (∀ res : Fin 3, s.core.dev.field.pend = none → Stays (.outputFrameBetweenBeats res) s) ∧
    (∀ x, s.core.dev.field.pend = some x →
      ToDev (.outputFrameBetweenBeats 0) s (fun d => d.field.pend = none ∧ d.field.last = x ∧ x ∈ d.field.held ∧
        d.field.lastSent = s.core.dev.tb) ∧
      ToDev (.outputFrameBetweenBeats 2) s fun d =>
        d.field.pend = none ∧ d.field.last = s.core.dev.field.last ∧ d.field.held = s.core.dev.field.held) ∧
    (s.core.dev.tb < s.core.dev.field.lastSent + 1000000 → Stays .fieldKeepAlive s) ∧
    ((s.core.dev.st = .stop ∨ s.core.dev.st = .run ∨ s.core.dev.st = .safe) → s.core.dev.field.released = true →
      s.core.dev.field.power = true → s.core.dev.field.pend = none →
      s.core.dev.field.lastSent + 1000000 ≤ s.core.dev.tb →
      ToDev .fieldKeepAlive s fun d =>
        if 2 ≤ s.core.dev.field.resOut then
          d.field.last = s.core.dev.field.last ∧ d.field.held = s.core.dev.field.held
        else
        d.field.lastSent = s.core.dev.tb ∧ d.field.last.duty = s.core.dev.field.last.duty ∧
        d.field.last.code = s.core.dev.field.last.code ∧ d.field.last ∈ d.field.held) ∧
    (∀ x, (s.core.dev.field.held.filter fun x => x.edge ≤ s.core.dev.tb).getLast? = some x →
      s.core.dev.field.silent = false → s.core.dev.field.released = true → s.core.dev.field.power = true →
      ToDev .outputFrameApply s fun d => d.field.applied = x ∧
        d.field.held = s.core.dev.field.held.filter fun x => !decide (x.edge ≤ s.core.dev.tb)) ∧
    ((s.core.dev.field.held.filter fun x => x.edge ≤ s.core.dev.tb) = [] → ToDev .outputFrameApply s fun d =>
      d.field.applied = s.core.dev.field.applied) ∧
    (s.core.dev.field.released = true → s.core.dev.field.silent = false →
      s.core.dev.field.lastGood + 950000 * s.core.dev.fget F.FLD_SILENCE_MS ≤ s.core.dev.tb →
      ToDev .silenceExpiry s fun d => d.field.silent = true ∧ d.field.held = [] ∧
        (d.fieldDrives = true → ∀ n : Fin 8, d.doDriven n = if d.fget F.FLD_DOSTAT_THERM / 2 ^ n.val % 2 = 1 then 0 else d.doSafe n)) ∧
    (s.core.dev.field.silent = true → Stays .silenceExpiry s) ∧
    (8 ≤ s.core.dev.field.fails → s.core.dev.fbit F.FLD_STAT_DIE_DOWN = false → ToDev .fieldDieDown s fun d =>
      d.fbit F.FLD_STAT_DIE_DOWN = true ∧ d.fbit F.FLD_EVT_DIE_DOWN = true) ∧
    (s.core.dev.field.fails < 8 → Stays .fieldDieDown s) ∧
    (∀ (n : Fin 16) (level : Bool), ToDev (.diFilterAccept n level) s fun d => ∀ m,
      (d.fget F.FLD_DILIVE_DI).testBit m = if m = n.val then level else (s.core.dev.fget F.FLD_DILIVE_DI).testBit m) ∧
    (∀ n : Fin 8, ToDev (.doOverload n) s fun d =>
      (∀ m, (d.fget F.FLD_DOSTAT_OVL).testBit m = (decide (m = n.val) || (s.core.dev.fget F.FLD_DOSTAT_OVL).testBit m)) ∧
      d.fbit F.FLD_EVT_OVERLOAD = true) ∧
    (∀ n : Fin 8, ToDev (.doOverloadClear n) s fun d => ∀ m,
      (d.fget F.FLD_DOSTAT_OVL).testBit m = (decide (m ≠ n.val) && (s.core.dev.fget F.FLD_DOSTAT_OVL).testBit m)) ∧
    (∀ n : Fin 8, ToDev (.doThermalShutdown n) s fun d =>
      (d.fget F.FLD_DOSTAT_THERM).testBit n.val = true ∧ d.field.hot.getLsbD n.val = true ∧ d.doDriven n = 0) ∧
    (∀ n : Fin 8, ToDev (.doThermalRestart n) s fun d => d.field.hot.getLsbD n.val = false ∧
      (d.fget F.FLD_DOSTAT_THERM).testBit n.val
        = (s.core.dev.fbit (F.FLD_DOCFG_LATCH n) && (s.core.dev.fget F.FLD_DOSTAT_THERM).testBit n.val)) ∧
    (∀ (q : Requester) (v : Word), ToDev (.fldDorestartWrite q v) s fun d => ∀ n, n < 8 →
      (d.fget F.FLD_DOSTAT_THERM).testBit n = ((s.core.dev.fget F.FLD_DOSTAT_THERM).testBit n &&
        !(v.getLsbD n && s.core.dev.fbit (F.FLD_DOCFG_LATCH n) && !s.core.dev.field.hot.getLsbD n))) ∧
    (∀ (n : Fin 4) (rb head : Nat), ToDev (.aoEvaluation n rb head) s fun d =>
      d.fget (F.FLD_AOSTAT_READBACK n) = min rb 65535 ∧ d.fget (F.FLD_AOHEAD_HEAD n) = min head 65535 ∧
      d.fbit (F.FLD_AOSTAT_HEAD_LOW n) = decide (head < 1500)) ∧
    (∀ (n : Fin 4) (rb head : Nat), s.core.dev.fbit (F.FLD_AOSTAT_OPEN n) = false →
      (vget s.core.dev.field.det n {}).openN = 39 → 0x800 ≤ vget s.core.dev.field.applied.code n 0 → rb < 546 →
      ToDev (.aoEvaluation n rb head) s fun d =>
        d.fbit (F.FLD_AOSTAT_OPEN n) = true ∧ d.fbit F.FLD_EVT_OPEN = true) ∧
    (∀ (q : Requester) (n : Fin 4), ToDev (.complianceClear q n) s fun d => d.fbit (F.FLD_AOSTAT_COMPLIANCE n) = false ∧
      (s.core.dev.fbit (F.FLD_AOSTAT_COMPLIANCE n) = true → vget d.field.det n {} = {})) ∧
    (∀ (q : Requester) (n : Fin 4) (r : RecLive), s.core.dev.keep.idx.find? (fun r => r.key = 0x46444100 + n.val) = some r →
      r.len = 4 → (∀ g ∈ pageGroups r.page 4, s.core.readClass (0x1000000 + g) [] = .clean) →
      ToDev (.aoTrimReload q n) s fun d => vget d.field.aoUser n none =
        some (s.core.mem.cells.le (recordsBase + 256 * r.page) 2,
            s.core.mem.cells.le (recordsBase + 256 * r.page + 2) 2)) ∧
    (∀ (q : Requester) (n : Fin 4), s.core.dev.keep.idx.find? (fun r => r.key = 0x46444100 + n.val) = none →
      ToDev (.aoTrimReload q n) s fun d => vget d.field.aoUser n none = none) ∧
    (∀ (n : Fin 4) (code : BitVec 16), s.core.dev.fbit (F.FLD_AICFG_EN n) = false →
        ToDev (.aiConversion n code) s fun d =>
      d.fget (F.FLD_AIVAL_Q n) = 3 ∧ d.fget (F.FLD_AIVAL_CODE n) = s.core.dev.fget (F.FLD_AIVAL_CODE n)) ∧
    (∀ (n : Fin 4) (code : BitVec 16), s.core.dev.fbit (F.FLD_AICFG_EN n) = true →
        s.core.dev.fget (F.FLD_AICFG_AVG n) = 0 →
      vget s.core.dev.field.aiSum n (0, 0) = (0, 0) → ToDev (.aiConversion n code) s fun d =>
        d.fget (F.FLD_AIVAL_CODE n) = s.core.dev.aiCode n code.toNat ∧
        d.fget (F.FLD_AIVAL_Q n) = Dev.aiQuality (s.core.dev.aiCode n code.toNat)) ∧
    ToDev .vfUv s (fun d => d.fbit F.FLD_STAT_VF_UV = true ∧ d.fbit F.FLD_EVT_VF_UV = true ∧
      ∀ n, d.doDriven n = 0 ∧ d.aoDriven n = 0)) ∧
  (∀ s : State, s.core.dev.fbit F.FLD_STAT_VF_UV = true → ToDev .vfUvRecovery s fun d =>
    d.fbit F.FLD_STAT_VF_UV = false ∧ d.field.power = true) ∧
  (∀ s : State, s.core.dev.fbit F.FLD_STAT_VF_UV = false → s.core.dev.field.power = true → Stays .vfUvRecovery s)

/-- R285 to R297: LOOP. A step at its due instant computes OUT, the integrator and the stored PV from the registers and
the measured value; a lasting state fault puts the loop at its safe output; mode and enable writes. -/
def Obligations.LoopCommands : Prop :=
  ∀ (s : State) (n : Fin 64), s.powered = true →
    (∀ e1 e2, s.core.dev.loopSteps n = false → Stays (.loopStep n e1 e2) s) ∧
    (∀ e1 e2, s.core.dev.tb / s.core.dev.loopPeriod n * s.core.dev.loopPeriod n ≤ (s.core.dev.loopSt n).lastDue →
      Stays (.loopStep n e1 e2) s) ∧
    (s.core.dev.loopSteps n = true → s.core.dev.loopPeriod n ≠ 0 →
      (s.core.dev.loopSt n).lastDue < s.core.dev.tb / s.core.dev.loopPeriod n * s.core.dev.loopPeriod n →
      (∀ e2, ToDev (.loopStep n [] e2) s fun d =>
        (d.loopSt n).lastDue = s.core.dev.tb / s.core.dev.loopPeriod n * s.core.dev.loopPeriod n ∧
        d.fsgn (F.LOP_PV_PV n) = (s.core.loopPV n).2 ∧
        let o := s.core.loopCompute n (s.core.loopIn n (s.core.loopPV n).2)
        d.fsgn (F.LOP_OUT_OUT n) = o.out ∧ d.loopI n = o.i) ∧
      (∀ e1 e2, (classify e1).bad = true → (classify e2).bad = true → ToDev (.loopStep n e1 e2) s fun d =>
        d.fbit (F.LOP_STS_FAULT n) = true ∧ d.fbit (F.LOP_CFG_AUTO n) = false ∧ d.fbit F.LOP_EVT_FAULT = true ∧
        d.fsgn (F.LOP_OUT_OUT n) = s.core.dev.fsgn (F.LOP_SAFE_SAFE n))) ∧
    (∀ q : Requester, s.core.dev.turnedAway q (A.LOP_CFG n) = false → s.core.loopBad n = false →
      (∀ auto, ToDev (.loopModeWrite q n auto) s fun d => d.fbit (F.LOP_CFG_AUTO n) = auto ∧
        (s.core.dev.fbit (F.LOP_CFG_AUTO n) = true → auto = false →
          d.fget (F.LOP_SP_MAN n) = s.core.dev.fget (F.LOP_OUT_OUT n)) ∧
        (s.core.dev.fbit (F.LOP_CFG_AUTO n) = false → auto = true → (d.loopSt n).preset = true)) ∧
      (s.core.dev.unlocked q 8 = true → ∀ en, ToDev (.loopEnableWrite q n en) s fun d => d.fbit (F.LOP_CFG_EN n) = en ∧
        (s.core.dev.fbit (F.LOP_CFG_EN n) = false → en = true → d.fbit (F.LOP_STS_FAULT n) = false ∧
          (d.loopSt n).first = true ∧ (d.loopSt n).preset = true ∧ (d.loopSt n).cold = true)) ∧
      (s.core.dev.unlocked q 8 = false → ∀ en, ToDev (.loopEnableWrite q n en) s fun d =>
        d.fbit (F.LOP_CFG_EN n) = s.core.dev.fbit (F.LOP_CFG_EN n) ∧ d.fbit F.LOP_STAT_LOCKED_WR = true) ∧
      ToDev (.plausibilityClear q n) s (fun d => d.fbit (F.LOP_STS_PLAUSIBILITY n) = false ∧
        d.fget (F.LOP_STS_CNT n) = 0 ∧ (d.loopSt n).hold = false)) ∧
    (∀ q : Requester, s.core.dev.turnedAway q (A.LOP_CFG n) = false → s.core.loopBad n = true →
      ∀ auto, ToDev (.loopModeWrite q n auto) s fun d =>
        d.rget (A.LOP_CFG n) = s.core.dev.rget (A.LOP_CFG n) ∧ d.fbit F.LOP_STAT_CFG_REFUSED = true) ∧
    (∀ q : Requester, s.core.dev.turnedAway q (A.LOP_CFG n) = true → ∀ b,
      exec (.loopModeWrite q n b) s = .next (withDev s ((s.core.dev.hostSeen q).lockedWr 8)) ∧
      exec (.loopEnableWrite q n b) s = .next (withDev s ((s.core.dev.hostSeen q).lockedWr 8)))

/-- R303 to R322: SAFE: the lane and its loss, inputs and test pulses, SS1 and the encoders, the outputs, the safety
reset, requests, confirmation and the signature. -/
def Obligations.SafeCommands : Prop :=
  ∀ s : State, s.powered = true →
    (∀ x : LaneIn, x.crc = true → (s.core.dev.safe.laneIn = none ∨ s.core.dev.safe.laneIn = some x.cnt) →
      ToDev (.safetyLaneInboundFrame x) s fun d =>
        d.safe.laneIn = some (x.cnt + 1) ∧ d.safe.laneFail = false ∧ d.safe.laneBad = false ∧
        d.fbit F.SAF_STAT_LANE_OK = true ∧ (d.axis 0).inc = x.inc0 ∧ (d.axis 1).inc = x.inc1 ∧
        d.fget F.SAF_OP_READBACK = x.readback.toNat ∧
        d.fget F.SAF_SI_FILT = if s.core.dev.fbit F.FLD_STAT_VF_UV then 0 else s.core.dev.safe.dieFilt.toNat) ∧
    (∀ x : LaneIn, x.crc = false → s.core.dev.safe.laneFail = false → ToDev (.safetyLaneInboundFrame x) s fun d =>
      d.safe.laneFail = true ∧ d.safe.laneBad = s.core.dev.safe.laneBad ∧ d.fbit F.SAF_EVT_LANE = true ∧
      d.fget F.SAF_SI_FILT = s.core.dev.fget F.SAF_SI_FILT) ∧
    (∀ (x : LaneIn) (a : Fin 2), x.crc = false → s.core.dev.safe.laneFail = true → s.core.dev.safe.laneBad = false →
      s.core.dev.safe.absent = false → s.core.dev.safe.blockOk = true → s.core.dev.axConfigured a = true →
      ToDev (.safetyLaneInboundFrame x) s fun d =>
        d.safe.laneBad = true ∧ d.fbit F.SAF_STAT_LANE_OK = false ∧ d.axState a = 2) ∧
    ToDev (.safetyLaneOutboundFrame true) s (fun d => d.safe.dieSq = BitVec.ofNat 4 (s.core.dev.fget F.SAF_STAT_SQ) ∧
      d.safe.dieOpen = s.core.dev.fbit F.SAF_STAT_CUTOFF_OPEN ∧ d.safe.dieLast = s.core.dev.tb) ∧
    exec (.safetyLaneOutboundFrame false) s = .next (withDev s (s.core.dev.tally 0x900)) ∧
    (s.core.dev.safe.dieLast + 950000 ≤ s.core.dev.tb → ToDev .safetyLaneTimeout s fun d =>
      d.safe.dieSq = 0 ∧ d.safe.dieOpen = true ∧ d.sqDriven = 0) ∧
    (s.core.dev.tb < s.core.dev.safe.dieLast + 950000 → Stays .safetyLaneTimeout s) ∧
    (∀ (n : Fin 8) (level : Bool), s.core.dev.siStp n = 0 → ToDev (.siFilterAccept n level) s fun d =>
      d.safe.dieAt = s.core.dev.tb ∧ ∀ m, m < 8 →
        d.safe.dieFilt.getLsbD m = if m = n.val then level else s.core.dev.safe.dieFilt.getLsbD m) ∧
    (∀ (n : Fin 8) (level : Bool), s.core.dev.safe.blockOk = true → s.core.dev.siStp n ≠ 0 →
      s.core.dev.tb < vget s.core.dev.safe.dieBlank (s.core.dev.siStp n - 1) 0 → Stays (.siFilterAccept n level) s) ∧
    (∀ (stp : Fin 2) (low : BitVec 8), (s.core.dev.safe.blockOk = true → ToDev (.testPulse stp low) s fun d =>
        vget d.safe.dieBlank stp 0 = s.core.dev.tb + 300000 ∧ ∀ n ∈ s.core.dev.tied stp,
          (if low.getLsbD n then d.safe.tpGood.getLsbD n else d.safe.tpMiss.getLsbD n) = true) ∧
      (s.core.dev.safe.blockOk = false → Stays (.testPulse stp low) s ∧ Stays (.testPulseExtra stp low) s) ∧
      ((∀ n ∈ s.core.dev.tied stp, s.core.dev.safe.tpMiss.getLsbD n = false) → Stays (.testPulseExtra stp low) s) ∧
      (∀ n ∈ s.core.dev.tied stp, s.core.dev.safe.blockOk = true → s.core.dev.safe.tpMiss.getLsbD n = true →
        low.getLsbD n = false → ToDev (.testPulseExtra stp low) s fun d =>
          (d.fget F.SAF_SI_TPF).testBit n = true ∧ d.safe.tpMiss.getLsbD n = false ∧ d.fbit F.SAF_EVT_TP_FAULT = true)) ∧
    (∀ (p : Fin 4) (t : Nat), vget s.core.dev.safe.diffAt p none = some t → s.core.dev.safe.blockOk = true →
      s.core.dev.siDual (2 * p) = true → s.core.dev.safe.disc.getLsbD p = false →
      t + 9500000 * s.core.dev.spLe (132 + p) 1 < s.core.dev.tb → ToDev (.discrepancyExpiry p) s fun d =>
        d.safe.disc.getLsbD p = true ∧ d.fbit F.SAF_EVT_DISC = true) ∧
    (∀ p : Fin 4, vget s.core.dev.safe.diffAt p none = none → Stays (.discrepancyExpiry p) s) ∧
    (∀ a : Fin 2, s.core.dev.axState a ≠ 1 → Stays (.ss1Evaluation a) s) ∧
    (∀ a : Fin 2, s.core.dev.axState a = 1 → s.core.dev.safe.blockOk = true → s.core.dev.safe.absent = false →
      s.core.dev.axConfigured a = true → s.core.dev.ss1Causes a ≠ [] →
      4 * s.core.dev.axLe a 20 2 ≤ (s.core.dev.axis a).ss1N + 1 → ToDev (.ss1Evaluation a) s fun d =>
        d.axState a = 2 ∧ d.fbit F.SAF_EVT_STO = true) ∧
    (∀ (a : Fin 2) (w : Word) (ok : Bool), ToDev (.ssiFrame a w ok) s fun d => vget d.safe.dieSsi a (0, false) = (w,
        !ok)) ∧
    (∀ (a : Fin 2) (illegal z : Bool), (s.core.dev.safe.blockOk = false ∨ s.core.dev.axConfigured a = false ∨
      s.core.dev.axBit a 0 = false) → Stays (.encoderEvaluation a illegal z) s) ∧
    (∀ (a : Fin 2) (illegal z : Bool), s.core.dev.safe.blockOk = true → s.core.dev.axConfigured a = true →
      s.core.dev.axBit a 0 = true → ToDev (.encoderEvaluation a illegal z) s fun d =>
        d.fget (F.SAF_POS_P a) = s.core.dev.axPos a % 2 ^ 32 ∧
        d.axSpeed a = signed 16 (unsigned 16 (signed 32
          ((s.core.dev.axis a).inc - (s.core.dev.axis a).hist.getD 3 ((s.core.dev.axis a).hist.getLastD 0)).toNat)) ∧
        (illegal = true → d.fbit (F.SAF_AX_ENC_OK a) = false ∧
          (d.axis a).failN = min 3 ((s.core.dev.axis a).failN + 1))) ∧
    (∀ (n : Fin 4) (fell ret : Bool), s.core.dev.fget F.SAF_STAT_SQ / 2 ^ n.val % 2 = 1 → s.core.dev.safe.opRetry = none →
      ToDev (.offPulse n fell ret) s fun d => d.safe.opRetry = (if fell then none else some n.val) ∧
        (ret = false → d.fbit F.SAF_EVT_OP_NORET = true)) ∧
    (∀ (n : Fin 4) (fell ret : Bool), s.core.dev.fget F.SAF_STAT_SQ / 2 ^ n.val % 2 = 0 →
        Stays (.offPulse n fell ret) s) ∧
    (∀ (n : Fin 4) (ret : Bool), s.core.dev.safe.opRetry = some n.val →
      ToDev (.offPulseExtra n true ret) s (fun d => d.safe.opRetry = none) ∧
      ToDev (.offPulseExtra n false ret) s fun d => d.safe.opRetry = none ∧ d.fbit F.SAF_STAT_CUTOFF_OPEN = true ∧
        d.fget F.SAF_STAT_SQ = 0 ∧ d.fbit F.SAF_EVT_STUCK_ON = true ∧ 2 ≤ d.axState 0 ∧ 2 ≤ d.axState 1) ∧
    (∀ (n : Fin 4) (fell ret : Bool), s.core.dev.safe.opRetry ≠ some n.val → Stays (.offPulseExtra n fell ret) s) ∧
    (∀ n : Fin 4, ToDev (.sqThermalShutdown n) s fun d => d.safe.dieTherm.getLsbD n = true ∧ d.sqDriven.getLsbD n = false) ∧
    (∀ cut, s.core.dev.safe.resetPend = false → Stays (.safetyReset none cut) s) ∧
    (∀ cut, s.core.dev.resetReady = false →
      (s.core.dev.safe.resetPend = true → ToDev (.safetyReset none cut) s fun d =>
        d.safe.resetPend = false ∧ d.fbit F.SAF_STAT_RESET_REFUSED = true) ∧
      ToDev (.safetyReset (some (.service, 1)) cut) s fun d =>
        d.safe.resetPend = false ∧ d.fbit F.SAF_STAT_RESET_REFUSED = true) ∧
    (∀ a : Fin 2, s.core.dev.resetReady = true → s.core.dev.safe.absent = false → s.core.dev.axConfigured a = true →
      s.core.dev.axState a = 3 → ToDev (.safetyReset (some (.service, 1)) true) s fun d =>
        d.axState a = 0 ∧ d.fbit F.SAF_EVT_RESET = true) ∧
    (∀ v, ToDev (.safReqWrite .program v) s fun d =>
      d.rget A.SAF_REQ = (s.core.dev.rget A.SAF_REQ &&& ~~~ 0xFFF#32) ||| (v &&& 0xFFF#32)) ∧
    (∀ v, ToDev (.safConfirmWrite .service v) s fun d =>
      (v = s.core.dev.rget A.SAF_SIG → d.nv.csig = v ∧ d.rget A.SAF_CSIG = v ∧ d.fbit F.SAF_STAT_UNCONFIRMED = false) ∧
      (v ≠ s.core.dev.rget A.SAF_SIG → d.nv = s.core.dev.nv ∧ d.fbit F.SAF_STAT_LOCKED_WR = true)) ∧
    (∀ (q : Requester) (v : Word), (q ≠ .program → exec (.safReqWrite q v) s
        = .next (withDev s ((s.core.dev.hostSeen q).lockedWr 9))) ∧
      (q ≠ .service → exec (.safConfirmWrite q v) s = .next (withDev s ((s.core.dev.hostSeen q).lockedWr 9)))) ∧
    (∀ res : Fin 3, (s.core.dev.safe.blockOk = false → Stays (.signatureCheck res) s) ∧
      (s.core.dev.safe.blockOk = true → res.val ≤ 1 → ToDev (.signatureCheck res) s fun d => d.safe.sigBad = false) ∧
      (s.core.dev.safe.blockOk = true → res.val = 2 → s.core.dev.safe.sigBad = false →
        ToDev (.signatureCheck res) s fun d => d.safe.sigBad = true ∧ d.fbit F.SAF_STAT_PARAM_OK = false ∧
          d.fbit F.SAF_EVT_PARAM = true))

/-- R326 to R336: CAN: frames received and sent, errors and bus-off, the commands and object writes, and the
time-triggered service. -/
def Obligations.CanCommands : Prop :=
  ∀ (s : State) (k : Fin 2), s.powered = true →
    (∀ f e1 e2, s.core.dev.canActive k = false → Stays (.canFrameReceived k f e1 e2) s) ∧
    (∀ f e2, s.core.dev.canActive k = true → (s.core.dev.canStores = false ∨ s.core.dev.frameTarget k f = none) →
      ToDev (.canFrameReceived k f [] e2) s fun d => ∀ n w, n < 128 → w < 24 → d.obj k n w = s.core.dev.obj k n w) ∧
    (∀ f e2 first n, s.core.dev.canActive k = true → s.core.dev.canStores = true →
      s.core.dev.frameTarget k f = some (first, n) → n < 128 → ToDev (.canFrameReceived k f [] e2) s fun d =>
        if s.core.dev.objBit k n 3 31 then d.objBit k first 3 30 = true ∧ d.fbit (F.CAN_EVT_RX_OVR k) = true ∧
          ∀ w, w < 24 → w ≠ 3 → d.obj k n w = s.core.dev.obj k n w
        else d.objBit k n 3 31 = true ∧ (d.obj k n 6).extractLsb' 0 29 = f.id ∧ d.objBit k n 6 29 = f.ide ∧
          d.obj k n 4 = BitVec.ofNat 32 f.sof) ∧
    (∀ sof o e1 e2, (s.core.dev.canActive k = false ∨ s.core.dev.canListen k = true ∨
      s.core.dev.canWinner k sof = none) → Stays (.canTransmissionEnd k sof o e1 e2) s) ∧
    (∀ sof e2 n, s.core.dev.canActive k = true → s.core.dev.canListen k = false →
      s.core.dev.canWinner k sof = some n → n < 128 →
      ToDev (.canTransmissionEnd k sof 0 [] e2) s (fun d => d.objBit k n 3 31 = false ∧ d.objBit k n 3 28 = true ∧
        d.objBit k n 3 27 = false ∧ d.fbit (F.CAN_EVT_TXOK k) = true ∧ ∀ r ∈ (d.canc k).reqs, r.1 ≠ n) ∧
      ∀ o : Fin 3, o ≠ 0 → s.core.dev.fget (F.CAN_CFG_RETX k) = 2 → ToDev (.canTransmissionEnd k sof o [] e2) s fun d =>
        d.objBit k n 3 31 = false ∧ d.objBit k n 3 28 = false ∧ d.objBit k n 3 27 = true) ∧
    (∀ kind tx inc, s.core.dev.canActive k = false → Stays (.canBusError k kind tx inc) s) ∧
    (∀ kind tx inc, s.core.dev.canActive k = true → kind < 16 → ToDev (.canBusError k kind tx inc) s fun d =>
      d.fget (F.CAN_BUS_LAST_ERR k) = kind ∧
      d.fget (F.CAN_ERR_TEC k) = (if tx && !s.core.dev.canListen k then min 511 (s.core.dev.fget (F.CAN_ERR_TEC k) + inc)
        else s.core.dev.fget (F.CAN_ERR_TEC k)) ∧
      d.fget (F.CAN_ERR_REC k) = (if !tx && !s.core.dev.canListen k then min 511 (s.core.dev.fget (F.CAN_ERR_REC k) + inc)
        else s.core.dev.fget (F.CAN_ERR_REC k)) ∧
      (s.core.dev.canListen k = false → 255 < d.fget (F.CAN_ERR_TEC k) → d.canState k = 2)) ∧
    (s.core.dev.canState k = 3 → ToDev (.canRecoveryDone k) s fun d => d.canState k = 0 ∧ d.fget (F.CAN_ERR_TEC k) = 0 ∧
      d.fget (F.CAN_ERR_REC k) = 0 ∧ d.fbit (F.CAN_EVT_RECOVERED k) = true) ∧
    (s.core.dev.canState k ≠ 3 → Stays (.canRecoveryDone k) s) ∧
    (∀ q : Requester, s.core.dev.turnedAway q A.CAN_CTL = false → ∀ v : Word,
      ((v.getLsbD (8 + k) = true → s.core.dev.canState k = 2 → ToDev (.canRecover q v) s fun d =>
          d.canState k = 3 ∧ d.fget (F.CAN_BUS_RSEQ k) = 0) ∧
        (v.getLsbD (8 + k) = true → s.core.dev.canState k ≠ 2 → ToDev (.canRecover q v) s fun d =>
          d.canState k = s.core.dev.canState k ∧ d.fbit F.CAN_STAT_CFG_REFUSED = true)) ∧
      (s.core.dev.unlocked q 10 = true → ToDev (.canInitWrite q v) s fun d => d.canInit k = v.getLsbD k ∧
        (s.core.dev.canInit k ≠ v.getLsbD k → (d.canc k).integrated = false)) ∧
      (s.core.dev.unlocked q 10 = false → ToDev (.canInitWrite q v) s fun d =>
        d.canInit k = s.core.dev.canInit k ∧ d.fbit F.CAN_STAT_LOCKED_WR = true)) ∧
    (∀ (q : Requester) (o : Fin 128), s.core.dev.turnedAway q (A.CAN_CMD k) = false →
      (s.core.dev.objBit k o 0 31 = true → s.core.dev.objBit k o 0 30 = true → s.core.dev.objBit k o 2 26 = false →
        s.core.dev.objBit k o 2 31 = false → s.core.dev.objBit k o 3 31 = false → ToDev (.canRequest q k o) s fun d =>
          d.objBit k o 3 31 = true ∧ (o.val, s.core.dev.tb) ∈ (d.canc k).reqs) ∧
      (s.core.dev.objBit k o 0 31 = false → ToDev (.canRequest q k o) s fun d =>
        d.fbit F.CAN_STAT_CFG_REFUSED = true ∧ d.can = s.core.dev.can) ∧
      (s.core.dev.objBit k o 0 30 = true → s.core.dev.objBit k o 3 31 = true →
        ToDev (.canCancel q k o false) s (fun d => d.objBit k o 3 31 = false ∧ d.objBit k o 3 27 = true ∧
          ∀ r ∈ (d.canc k).reqs, r.1 ≠ o.val) ∧
        ToDev (.canCancel q k o true) s fun d => o.val ∈ (d.canc k).cancels ∧ d.regs = s.core.dev.regs) ∧
      (∀ way, s.core.dev.objBit k o 0 30 = true → s.core.dev.objBit k o 3 31 = false → Stays (.canCancel q k o way) s) ∧
      (s.core.dev.objBit k o 0 30 = false → ToDev (.canFree q k o) s fun d => d.objBit k o 3 31 = false) ∧
      (s.core.dev.objBit k o 0 30 = true → ToDev (.canFree q k o) s fun d =>
        d.fbit F.CAN_STAT_CFG_REFUSED = true ∧ d.can = s.core.dev.can)) ∧
    (∀ (q : Requester) (a : Nat) (v : Word), (a < 0xA1000 ∨ 0xA7000 ≤ a) → Stays (.canObjectWrite q a v) s) ∧
    (∀ (q : Requester) (n : Fin 128) (w : Nat) (v : Word), s.core.dev.turnedAway q A.CAN_CTL = false → w < 24 →
      (8 ≤ w → (s.core.dev.objBit k n 0 30 && s.core.dev.objBit k n 3 31) = false →
        ToDev (.canObjectWrite q (objAddr k n w) v) s fun d => d.obj k n w = v) ∧
      ((w = 1 ∨ w = 2) → s.core.dev.objBit k n 0 31 = true → ToDev (.canObjectWrite q (objAddr k n w) v) s fun d =>
        d.obj k n w = s.core.dev.obj k n w ∧ d.fbit F.CAN_STAT_CFG_REFUSED = true) ∧
      (w = 0 → s.core.dev.objBit k n 0 31 = false → v.getLsbD 31 = false →
        ToDev (.canObjectWrite q (objAddr k n w) v) s fun d => d.obj k n w = v)) ∧
    (∀ won, s.core.dev.fget (F.CAN_CFG_TT_MODE k) ≠ 1 → Stays (.ttCycleStart k won) s) ∧
    (s.core.dev.fget (F.CAN_CFG_TT_MODE k) = 1 → s.core.dev.canActive k = true → s.core.dev.canListen k = false →
      s.core.dev.ttDue k = true → s.core.dev.ttTaken k = false →
      ToDev (.ttCycleStart k true) s (fun d => d.fget (F.CAN_TTSTAT_ROLE k) = 1 ∧
        (d.canc k).ttStart = some s.core.dev.tb ∧ d.fget (F.CAN_TTSTAT_CYCCNT k)
          = (s.core.dev.fget (F.CAN_TTSTAT_CYCCNT k) + 1) % (s.core.dev.fget (F.CAN_CFG_NCYC_M1 k) + 1)) ∧
      ToDev (.ttCycleStart k false) s fun d => d.fget (F.CAN_TTSTAT_ROLE k) = 3) ∧
    (∀ o : Fin 128, (s.core.dev.canc k).ttStart = none → Stays (.ttTimeMark k o) s) ∧
    (∀ (o : Fin 128) (t : Nat), (s.core.dev.canc k).ttStart = some t → s.core.dev.fget (F.CAN_CFG_TT_MODE k) ≠ 0 →
      (s.core.dev.canc k).noRef = false → s.core.dev.objBit k o 0 31 = true → s.core.dev.objBit k o 0 30 = true →
      s.core.dev.objBit k o 2 26 = true → o.val ∉ (s.core.dev.canc k).marked →
      s.core.dev.fget (F.CAN_TTSTAT_CYCCNT k) % (bitsOf (s.core.dev.obj k o 1).toNat 13 8 + 1)
        = bitsOf (s.core.dev.obj k o 1).toNat 5 0 →
      t + bitsOf (s.core.dev.obj k o 2).toNat 15 0 * 1000 ≤ s.core.dev.tb → ToDev (.ttTimeMark k o) s fun d =>
        d.objBit k o 3 31 = true ∧ o.val ∈ (d.canc k).marked ∧ (o.val, s.core.dev.tb) ∈ (d.canc k).reqs) ∧
    ((s.core.dev.canc k).lastRef = none → Stays (.ttRefMiss k) s) ∧
    (∀ t, (s.core.dev.canc k).lastRef = some t → s.core.dev.fget (F.CAN_CFG_TT_MODE k) = 2 →
      s.core.dev.canActive k = true → (s.core.dev.canc k).noRef = false →
      t + s.core.dev.fget (F.CAN_TTCYC_CYCLE k) * 2000 ≤ s.core.dev.tb → ToDev (.ttRefMiss k) s fun d =>
        (d.canc k).noRef = true ∧ d.fbit (F.CAN_EVT_TT_REF_MISS k) = true) ∧
    ((s.core.dev.canInit k = true ∨ (s.core.dev.canc k).integrated = true) → Stays (.canIntegration k) s) ∧
    (s.core.dev.canInit k = false → (s.core.dev.canc k).integrated = false → ToDev (.canIntegration k) s fun d =>
      (d.canc k).integrated = true ∧ (d.canc k).lastRef = some s.core.dev.tb)

/-- R341 to R347, R353 to R356, R360, R361, R363, R364: the watchdog's window and the clock checks, the recorder's
queue and area, and TALLY's snapshot, counters, samples and windows. -/
def Obligations.WatchCommands : Prop :=
  ∀ s : State, s.powered = true →
    (∀ v, v ≠ 0xA5#32 → ToDev (.watchdogService v) s fun d =>
      d.fbit F.WDG_STAT_BAD_VALUE = true ∧ d.wdg = s.core.dev.wdg ∧ d.wdgState = s.core.dev.wdgState) ∧
    (s.core.dev.wdgState = 1 →
      (1000 * s.core.dev.wdg.period ≤ s.core.dev.wdgElapsed →
        (ToDev (.watchdogService 0xA5) s fun d => faulted s.core.dev d (if s.core.dev.wdg.dupTasks ≠ 0 then 4 else 1)) ∧
        ToDev .watchdogClose s fun d => faulted s.core.dev d (if s.core.dev.wdg.dupTasks ≠ 0 then 4 else 1)) ∧
      (s.core.dev.wdgElapsed < 1000 * s.core.dev.wdg.period → Stays .watchdogClose s ∧
        ((s.core.dev.wdgElapsed < 1000 * s.core.dev.wdg.opn → ToDev (.watchdogService 0xA5) s fun d =>
          faulted s.core.dev d 2) ∧
        (1000 * s.core.dev.wdg.opn ≤ s.core.dev.wdgElapsed → s.core.dev.wdg.dupTasks ≠ 0 →
          ToDev (.watchdogService 0xA5) s fun d => faulted s.core.dev d 4) ∧
        (1000 * s.core.dev.wdg.opn ≤ s.core.dev.wdgElapsed → s.core.dev.wdg.dupTasks = 0 →
          s.core.dev.fget F.WDG_MASK_CHK ≠ s.core.dev.fget F.WDG_MASK_EXP → ToDev (.watchdogService 0xA5) s fun d =>
            faulted s.core.dev d 3) ∧
        (1000 * s.core.dev.wdg.opn ≤ s.core.dev.wdgElapsed → s.core.dev.wdg.dupTasks = 0 →
          s.core.dev.fget F.WDG_MASK_CHK = s.core.dev.fget F.WDG_MASK_EXP → ToDev (.watchdogService 0xA5) s fun d =>
            d.wdg.r = s.core.dev.tb ∧ d.wdgState = 1 ∧ d.fget F.WDG_MASK_CHK = 0 ∧
            d.rnat A.WDG_LSVC_LO = s.core.dev.tb % 2 ^ 32 ∧ d.fbit F.WDG_EVT_SERVICED = true)))) ∧
    (s.core.dev.wdgState ≠ 1 → Stays .watchdogClose s) ∧
    (s.core.dev.clockChecks = true → ToDev .rcStop s (fun d => faulted s.core.dev d 5) ∧
      (s.core.dev.tbStopped = false → ToDev .tbStop s fun d => d.tbStopped = true ∧ d.st = .safe) ∧
      ∀ n, ToDev (.ratio n) s fun d => d.fget F.WDG_RATIO_RC = min 2047 n ∧
        (n < 870 ∨ 1178 < n → faulted s.core.dev d 7)) ∧
    (s.core.dev.clockChecks = false → Stays .rcStop s ∧ Stays .tbStop s ∧ ∀ n, Stays (.ratio n) s) ∧
    (∀ (src : Fin 64) (code : BitVec 16) (snap : List Word), 25 ≤ src.val → Stays (.recorderOccurrence src code snap) s) ∧
    (∀ (src : Fin 64) (code : BitVec 16) (snap : List Word), src.val < 25 → s.core.dev.rcd.queue = [] →
      (∀ x ∈ s.core.dev.rcd.lastW, x.1 ≠ src.val) → (Dev.privileged src || !s.core.dev.fbit F.REC_STAT_ORD_FULL) = true →
      ToDev (.recorderOccurrence src code snap) s fun d =>
        d.rcd.queue = [⟨src, code.toNat, s.core.dev.tsNow, 0, 0, snap.take 12⟩]) ∧
    ((s.core.dev.rcd.queue = [] ∨ s.core.dev.rcd.scanning = true ∨ s.core.dev.fbit F.KEP_STAT_SEALED = true) →
      Stays .recordDequeue s) ∧
    (∀ e, s.core.dev.rcd.queue = [e] → s.core.dev.rcd.scanning = false → s.core.dev.fbit F.KEP_STAT_SEALED = false →
      s.core.dev.rcd.lostN = 0 →
      (Dev.privileged e.source = true → s.core.dev.fbit F.REC_STAT_PRIV_CIRC = false →
        ToState .recordDequeue s fun t => t.otp = s.otp ∧ t.core.mem = s.core.mem ∧ t.core.dev.rcd.queue = [] ∧
          (let seq := nextSeq (s.core.dev.rnat A.REC_HEAD)
           let slot := 3840 + s.core.dev.fget F.REC_PNEXT_SLOT
           t.area.at_ slot = recordOf (recordBytes seq e) ∧ (∀ k, k ≠ slot → t.area.at_ k = s.area.at_ k) ∧
           t.core.dev.rnat A.REC_HEAD = seq % 2 ^ 32)) ∧
      (Dev.privileged e.source = false → s.core.dev.fbit F.REC_STAT_ORD_FULL = false → e.source < 64 →
        ToState .recordDequeue s fun t => t.core.dev.rcd.queue = [] ∧
          (let slot := s.core.dev.fget F.REC_ORD_N_N
           t.area.at_ slot = recordOf (recordBytes (nextSeq (s.core.dev.rnat A.REC_HEAD)) e) ∧
           (∀ k, k ≠ slot → t.area.at_ k = s.area.at_ k) ∧
           (slot < 3840 → t.core.dev.fget F.REC_ORD_N_N = slot + 1))) ∧
      (Dev.privileged e.source = false → s.core.dev.fbit F.REC_STAT_ORD_FULL = true → e.source < 64 →
        ToState .recordDequeue s fun t => t.core.dev.rcd.queue = [] ∧ t.area = s.area)) ∧
    (∀ slot, (s.core.dev.rcd.merged.find? fun m => m.1 = slot) = none → Stays (.mergedHeaderWriteback slot) s) ∧
    (∀ slot n dl, (s.core.dev.rcd.merged.find? fun m => m.1 = slot) = some (slot, n, dl) →
      s.core.dev.fbit F.KEP_STAT_SEALED = false → ToState (.mergedHeaderWriteback slot) s fun t =>
        (t.area.at_ slot).extractLsb' 96 16 = BitVec.ofNat 16 n ∧ (t.area.at_ slot).extractLsb' 112 16 = BitVec.ofNat 16 dl ∧
        (t.area.at_ slot).extractLsb' 0 96 = (s.area.at_ slot).extractLsb' 0 96 ∧
        (∀ k, k ≠ slot → t.area.at_ k = s.area.at_ k) ∧ ∀ m ∈ t.core.dev.rcd.merged, m.1 ≠ slot) ∧
    (s.core.dev.rcd.scanning = true → ToDev .recorderScanDone s fun d => d.rcd.scanning = false ∧
      d.fget F.REC_ORD_N_N = s.area.ordUsed ∧ d.fbit F.REC_STAT_ORD_FULL = decide (s.area.ordUsed = 3840)) ∧
    (s.core.dev.rcd.scanning = false → Stays .recorderScanDone s) ∧
    (∀ q : Requester, q ≠ .host → ToDev (.snap q) s fun d =>
      (∀ i, i < 128 → d.rget (A.TAL_SL i) = s.core.dev.rget (A.TAL_L_LO 0 0 + 4 * i)) ∧
      (∀ k, k < 8 → d.rget (A.TAL_SP (2 * k)) = s.core.dev.rget (A.TAL_PCNT_LO k) ∧
        d.rget (A.TAL_SP (2 * k + 1)) = s.core.dev.rget (A.TAL_PCNT_HI k)) ∧
      d.rnat A.TAL_STB_LO = s.core.dev.tb % 2 ^ 32 ∧ d.rnat A.TAL_SBEAT_LO = s.core.dev.beatCnt % 2 ^ 32 ∧
      d.rnat A.TAL_SNAPSEQ = (s.core.dev.rnat A.TAL_SNAPSEQ + 1) % 2 ^ 32 ∧ d.fbit F.TAL_EVT_SNAP = true) ∧
    (∀ (q : Requester) (k : Fin 8) (v : Word), ToDev (.talPselWrite q k v) s fun d =>
      d.fget (F.TAL_PSEL_EVENT k) = v.toNat % 4096 ∧ d.rget (A.TAL_PCNT_LO k) = 0 ∧ d.rget (A.TAL_PCNT_HI k) = 0) ∧
    (∀ (q : Requester) (v : Word), ToDev (.talSctlWrite q v) s fun d =>
      d.fget F.TAL_STAT_SAMPLES = 0 ∧ d.fbit F.TAL_STAT_SFULL = false ∧ d.fget F.TAL_SNEXT_ENTRY = 0 ∧ d.sampleCnt = 0 ∧
      d.rget A.TAL_SCTL &&& 0xEFFFFFFF#32 = v &&& 0xEFFFFFFF#32) ∧
    ToDev .bandwidthWindowEnd s fun d => ∀ p, p < 9 →
      d.rnat (A.TAL_BW_TX p) = s.core.dev.bwTx.toList.getD p 0 % 2 ^ 32 ∧
      d.rnat (A.TAL_BW_RX p) = s.core.dev.bwRx.toList.getD p 0 % 2 ^ 32 ∧
      d.bwTx.toList.getD p 0 = 0 ∧ d.bwRx.toList.getD p 0 = 0

/-- R21, R366 to R370, R383: the host port: its input buffer, its doorbell, unmapped writes, the link and the
configuration space. -/
def Obligations.HostCommands : Prop :=
  ∀ s : State, s.powered = true →
    (∀ (off : Nat) (bs : List Byte), ToDev (.hostInputWrite off bs) s fun d =>
      (∀ i x, bs[i]? = some x → off + i < 4096 → d.hst.inBuf.read (off + i) = x) ∧
      ∀ a, a < off ∨ off + bs.length ≤ a → d.hst.inBuf.read a = s.core.dev.hst.inBuf.read a) ∧
    (∀ (v : Word) (n : Fin 16) (k : Nat), k < 8 → v.getLsbD k = true → s.core.dev.fbit (F.ESC_TCFG_EN n) = true →
      s.core.dev.fbit (F.ESC_TCFG_TRIG n) = true → s.core.dev.fget (F.ESC_TCFG_ALERT n) = 8 + k →
      (s.core.dev.task n).halted = false → ToDev (.hostDoorbell v) s fun d => (d.task n).pendingAlert = true) ∧
    (∀ off, Dev.bar0Mapped off = true → Stays (.hostUnmappedWrite off) s) ∧
    (∀ off, Dev.bar0Mapped off = false → ToDev (.hostUnmappedWrite off) s fun d =>
      d.fbit F.HST_FLT_UNMAPPED = true ∧ d.fbit F.HST_EVT_UNMAPPED = true) ∧
    ToDev .pciePerst s (fun d => d.fbit F.HST_STAT_LINK_UP = false ∧ d.fbit F.HST_STAT_BUS_MASTER = false ∧
      d.fbit F.HST_STAT_MSIX_EN = false ∧ d.hst.funcMask = false ∧ d.rget A.HST_PBA = resetWord A.HST_PBA ∧
      (∀ v, v < 32 → d.rget (A.HST_MSIX_VC v) = resetWord (A.HST_MSIX_VC v) ∧
        d.rget (A.HST_MSIX_ALO v) = resetWord (A.HST_MSIX_ALO v)) ∧ d.hst.inBuf = s.core.dev.hst.inBuf) ∧
    (∀ speed : Fin 4, ToDev (.pcieLinkUp speed) s fun d => d.fbit F.HST_STAT_LINK_UP = true ∧
      d.fget F.HST_STAT_SPEED = clampN 1 2 (min speed.val s.core.dev.hst.targetSpeed)) ∧
    (s.core.dev.fbit F.HST_STAT_LINK_UP = true → ToDev .pcieLinkDown s fun d =>
      d.fbit F.HST_STAT_LINK_UP = false ∧ d.fget F.HST_STAT_SPEED = 0 ∧ d.fbit F.HST_EVT_LINK_DOWN = true ∧
      d.hst = s.core.dev.hst) ∧
    (s.core.dev.fbit F.HST_STAT_LINK_UP = false → Stays .pcieLinkDown s) ∧
    (∀ (bm me fm : Bool) (t : Nat), ToDev (.configurationWrite bm me fm t) s fun d =>
      d.fbit F.HST_STAT_BUS_MASTER = bm ∧ d.fbit F.HST_STAT_MSIX_EN = me ∧ d.hst.funcMask = fm ∧
      d.hst.targetSpeed = clampN 1 2 t)

/-- R76, R386 to R389: register writes and reads. The access codes decide what a write changes; a locked page keeps its
protected fields; the key opens one requester's lock; a low-word read latches its high words. -/
def Obligations.RegisterCommands : Prop :=
  ∀ (s : State) (q : Requester), s.powered = true →
    (∀ (p : Fin 16) (v : Word), s.core.dev.turnedAway q (p.val * 0x10000 + 0x1C) = false →
      ToDev (.pageKeyWrite q p v) s fun d => d.unlocked q p = decide (v = 0x6A5A#32) ∧
        ∀ q' p', (q', p') ≠ (q, p.val) → d.unlocked q' p' = s.core.dev.unlocked q' p') ∧
    (∀ (a : Nat) (v : Word), a % 4 = 0 → a / 0x10000 < 16 → s.core.dev.turnedAway q a = true →
      exec (.registerWrite q ⟨a, 4⟩ v) s = .next (withDev s ((s.core.dev.hostSeen q).lockedWr (a / 0x10000)))) ∧
    (∀ (a : Nat) (v : Word), a % 4 = 0 → a / 0x10000 < 16 → s.core.dev.turnedAway q a = false → a % 0x10000 ≠ 0x1C →
      ¬ (0xA1000 ≤ a ∧ a < 0xA7000) → a ≠ A.CAN_CTL →
      (regRow a = none → exec (.registerWrite q ⟨a, 4⟩ v) s = .next (withDev s (s.core.dev.hostSeen q))) ∧
      (∀ r, regRow a = some r → r.rw ||| r.rwl ||| r.w1c ||| r.wo = 0 →
        exec (.registerWrite q ⟨a, 4⟩ v) s = .next (withDev s (s.core.dev.hostSeen q))) ∧
      (∀ r, regRow a = some r → r.rw ||| r.w1c ||| r.wo = 0 → r.rwl ≠ 0 → s.core.dev.unlocked q (a / 0x10000) = false →
        exec (.registerWrite q ⟨a, 4⟩ v) s = .next (withDev s ((s.core.dev.hostSeen q).lockedWr (a / 0x10000)))) ∧
      (∀ r, regRow a = some r → r.w1c ≠ 0 → a % 0x10000 = 0x10 → a / 0x10000 ≠ 0xD →
        ToDev (.registerWrite q ⟨a, 4⟩ v) s fun d =>
          d.rget a = Dev.coded r (s.core.dev.unlocked q (a / 0x10000)) (s.core.dev.rget a) v)) ∧
    (∀ v : Word, (s.core.dev.unlocked q 0 = true → ToDev (.movCtlWrite q v) s fun d =>
        d.rget A.MOV_CTL = (s.core.dev.rget A.MOV_CTL &&& ~~~ 0x10B#32) ||| (v &&& 0x10B#32)) ∧
      (s.core.dev.unlocked q 0 = false → ToDev (.movCtlWrite q v) s fun d =>
        d.rget A.MOV_CTL = s.core.dev.rget A.MOV_CTL ∧ d.fbit ⟨A.MOV_STAT, 31, 31⟩ = true)) ∧
    (∀ a : Nat, q ≠ .host → Dev.isHigh a = false → ToDev (.lowWordRead q (.page a)) s fun d =>
      d.regs = s.core.dev.regs ∧ (∀ h ∈ Dev.highsOf a, d.latched q h = s.core.pageWord q (s.core.dev.headTask q) h) ∧
      ∀ q' h, q' ≠ q → d.latched q' h = s.core.dev.latched q' h) ∧
    (∀ a : Nat, q ≠ .host → Dev.isHigh a = true → Stays (.lowWordRead q (.page a)) s)

/-! ### The block as a whole -/

/-- A step takes the command at the front of the queue and runs it with the rest of the queue; with none waiting the
time base counts 10 ns while the core is powered and its clock runs, and nothing else changes (log entry 5, the
model's choice). -/
def Obligations.StepTakesTheFront : Prop :=
  (∀ (s : State) (c : Instr) (cs : List Instr), s.pending = c :: cs → step s = exec c { s with pending := cs }) ∧
  (∀ s : State, s.pending = [] → s.powered = true → s.core.dev.tbStopped = false →
    step s = .next (withDev s { s.core.dev with tb := s.core.dev.tb + 10 })) ∧
  (∀ s : State, s.pending = [] → (s.powered = false ∨ s.core.dev.tbStopped = true) → step s = .next s)

/-- The state after reset: no supplies, nothing waiting, nothing stored, every register at the reset word of its row,
and the invariants hold. Some of the words that Tables 17.3 and 17.4 give are named one by one; the value of a
register to which the spec gives none is log entry 1, and what memory reads before it is written is log entry 3, the
model's choices. -/
def Obligations.ResetState : Prop :=
  let d := State.reset.core.dev
  d.st = .off ∧ State.reset.pending = [] ∧ d.esc.image = none ∧ d.flight = [] ∧ d.locks = [] ∧
  (∀ a, State.reset.core.mem.cells.read a = 0) ∧ (∀ a, d.rget a = resetWord a) ∧
  d.rget A.MOV_CTL = 0x103#32 ∧ d.rget A.ESC_RSV_MIN = 0xFFFFFFFF#32 ∧
  d.rget A.SAF_STAT = 0x8000#32 ∧ d.rget A.CAN_CTL = 3#32 ∧ d.rget A.TAL_CTL = 1#32 ∧
  State.reset.canonical = true ∧ State.reset.Inv State.reset.otp

/-- Every command of the block answers a next state, and leaves the commands that wait behind it as they are. A command
that needs the core finds it OFF or held in reset and changes nothing. -/
def Obligations.EveryCommandAnswers : Prop :=
  (∀ (c : Instr) (s : State), ∃ t, exec c s = .next t ∧ t.pending = s.pending) ∧
  (∀ (s : State) (tr : Fin 4) (b : Body) (q : Requester) (a : Nat) (v : Word), s.powered = false →
    Stays (.nop tr b) s ∧ Stays (.call tr b) s ∧ Stays .headCommit s ∧ Stays .beat s ∧ Stays (.registerWrite q ⟨a, 4⟩ v) s)

/-- What every step keeps: OTP holds every bit it held (Table 16.4), the recorder area stays in canonical form, and the
waiting commands stay well formed. -/
def Obligations.InvariantKept : Prop :=
  ∀ (o : Otp) (s t : State), s.Inv o → step s = .next t → t.Inv o

/-- Work memory, MRAM and register file stay in the one canonical form in which equal contents are equal data, over
every step. -/
def Obligations.CanonicalKept : Prop :=
  ∀ s t : State, s.canonical = true → step s = .next t → t.canonical = true

/-- What commands of single blocks leave alone: beside events, counts, recorder occurrences and messages, they change
the state named here and the registers of their own pages. -/
def Obligations.DeviceFrames : Prop :=
  ∀ s : State, s.powered = true →
    (∀ mv, ToDev (.vbakCheck mv) s fun d => Noted s.core.dev d ∧ within [2] s.core.dev d) ∧
    ToDev .calOscStop s (fun d => Noted { s.core.dev with isl := d.isl } d ∧ within [2] s.core.dev d) ∧
    (∀ p, ToDev (.paceWindowEnd p) s fun d => Noted s.core.dev d ∧ within [15] s.core.dev d) ∧
    (∀ (p : Fin 4) (trips turns : List Nat), ToDev (.linkDelayMeasurement p trips turns) s fun d =>
      Noted { s.core.dev with lac := d.lac, free := d.free } d ∧ within [3] s.core.dev d) ∧
    (∀ c ∈ [Instr.doOverload 0, .doOverload 7, .doOverloadClear 0, .doOverloadClear 7], ToDev c s fun d =>
      Noted s.core.dev d ∧ within [7] s.core.dev d) ∧
    (∀ (n : Fin 8) (m : Fin 4) (rb head : Nat), ∀ c ∈ [Instr.doThermalShutdown n, .doThermalRestart n,
      .aoEvaluation m rb head, .vfUvRecovery, .silenceExpiry, .outputFrameApply], ToDev c s fun d =>
        Noted { s.core.dev with field := d.field, free := d.free } d ∧ within [7] s.core.dev d) ∧
    (∀ c ∈ [Instr.vfUv, .vfieldLoss], ToDev c s fun d =>
      Noted { s.core.dev with field := d.field, safe := d.safe, free := d.free } d ∧ within [7, 9] s.core.dev d) ∧
    (∀ (x : LaneIn) (b : Bool) (n : Fin 8) (p : Fin 4) (a : Fin 2) (w : Word) (z : Bool) (r : Fin 3),
      ∀ c ∈ [Instr.safetyLaneInboundFrame x, .safetyLaneOutboundFrame b, .safetyLaneTimeout, .siFilterAccept n b,
        .testPulse a x.raw, .testPulseExtra a x.raw, .discrepancyExpiry p, .ss1Evaluation a, .ssiFrame a w b,
        .encoderEvaluation a b z, .offPulse p b z, .sqThermalShutdown p, .signatureCheck r], ToDev c s fun d =>
          Noted { s.core.dev with safe := d.safe, free := d.free } d ∧ within [9] s.core.dev d) ∧
    (∀ (k : Fin 2) (kind inc : Nat) (tx : Bool) (o : Fin 128), ∀ c ∈ [Instr.canBusError k kind tx inc,
      .canRecoveryDone k, .ttTimeMark k o, .ttRefMiss k, .canIntegration k], ToDev c s fun d =>
        Noted { s.core.dev with can := d.can } d ∧ within [10] s.core.dev d) ∧
    (∀ (v : Word) (n : Nat), ∀ c ∈ [Instr.watchdogService v, .watchdogClose, .rcStop, .ratio n], ToDev c s fun d =>
      Noted { s.core.dev with wdg := d.wdg, esc := { s.core.dev.esc with safeFault := d.esc.safeFault } } d ∧
      within [11] s.core.dev d) ∧
    (∀ (src : Fin 64) (code : BitVec 16) (snap : List Word), ToDev (.recorderOccurrence src code snap) s fun d =>
      Noted s.core.dev d ∧ within [] s.core.dev d) ∧
    (∀ (off : Nat) (bs : List Byte) (speed : Fin 4), ∀ c ∈ [Instr.hostInputWrite off bs, .hostUnmappedWrite off,
      .pciePerst, .pcieLinkUp speed, .pcieLinkDown], ToDev c s fun d =>
        Noted { s.core.dev with hst := d.hst, bwRx := d.bwRx } d ∧ within [] s.core.dev d)
end

