-- ==== Sys2Proof/Laws/Lists.lean ====
section
/-! SUPPORT. The association lists of registers, memory cells and slots: what a key holds after each operation, and that
each operation keeps the canonical form. -/

namespace Sys2Proof.Machine

variable {α : Type}

@[simp] theorem alGet_nil (k : Nat) (d : α) : alGet k d [] = d := rfl

/-- A key that has just been put holds the value put. -/
@[simp] theorem alGet_alPut_same (k : Nat) (d x : α) (l : List (Nat × α)) : alGet k d (alPut k x l) = x := by
  induction l with
  | nil => simp [alPut, alGet]
  | cons p rest ih =>
    obtain ⟨a, v⟩ := p
    by_cases h : a = k
    · simp [alPut, alGet, h]
    · by_cases h' : k < a <;> simp [alPut, alGet, h, h', ih]

/-- Putting one key leaves every other key as it was. -/
theorem alGet_alPut_ne {k k' : Nat} (h : k' ≠ k) (d x : α) (l : List (Nat × α)) :
    alGet k' d (alPut k x l) = alGet k' d l := by
  induction l with
  | nil => simp [alPut, alGet, Ne.symm h]
  | cons p rest ih =>
    obtain ⟨a, v⟩ := p
    by_cases ha : a = k
    · simp [alPut, alGet, ha, Ne.symm h]
    · by_cases hl : k < a
      · simp [alPut, alGet, ha, hl, Ne.symm h]
      · simp [alPut, alGet, ha, hl, ih]

/-- A deleted key holds the default. -/
@[simp] theorem alGet_alDel_same (k : Nat) (d : α) (l : List (Nat × α)) : alGet k d (alDel k l) = d := by
  induction l with
  | nil => rfl
  | cons p rest ih =>
    obtain ⟨a, v⟩ := p
    by_cases h : a = k <;> simp [alDel, alGet, h, ih]

/-- Deleting one key leaves every other key as it was. -/
theorem alGet_alDel_ne {k k' : Nat} (h : k' ≠ k) (d : α) (l : List (Nat × α)) :
    alGet k' d (alDel k l) = alGet k' d l := by
  induction l with
  | nil => rfl
  | cons p rest ih =>
    obtain ⟨a, v⟩ := p
    by_cases ha : a = k
    · simp [alDel, alGet, ha, Ne.symm h, ih]
    · simp [alDel, alGet, ha, ih]

variable [DecidableEq α]

/-- A key that has just been set holds the value set. -/
@[simp] theorem alGet_alSet_same (d x : α) (k : Nat) (l : List (Nat × α)) : alGet k d (alSet d k x l) = x := by
  unfold alSet; split <;> simp_all

/-- Setting one key leaves every other key as it was. -/
theorem alGet_alSet_ne {k k' : Nat} (h : k' ≠ k) (d d' x : α) (l : List (Nat × α)) :
    alGet k' d' (alSet d k x l) = alGet k' d' l := by
  unfold alSet; split
  · exact alGet_alDel_ne h d' l
  · exact alGet_alPut_ne h d' x l

/-! ### The canonical form -/

/-- Whether a lower bound lies below a key. -/
def belowKey : Option Nat → Nat → Bool
  | none, _ => true
  | some b, a => decide (b < a)

theorem alWf_cons (dflt : Nat → α) (lo : Option Nat) (a : Nat) (v : α) (rest : List (Nat × α)) :
    alWf dflt lo ((a, v) :: rest) = (belowKey lo a && decide (v ≠ dflt a) && alWf dflt (some a) rest) := by
  cases lo <;> rfl

/-- A canonical list is canonical under any lower bound below its own. -/
theorem alWf_lower (dflt : Nat → α) {lo : Option Nat} {b : Nat} (h : belowKey lo b = true) {l : List (Nat × α)}
    (hl : alWf dflt (some b) l = true) : alWf dflt lo l = true := by
  cases l with
  | nil => cases lo <;> rfl
  | cons p rest =>
    obtain ⟨a, v⟩ := p
    rw [alWf_cons] at hl ⊢
    simp only [Bool.and_eq_true] at hl ⊢
    refine ⟨⟨?_, hl.1.2⟩, hl.2⟩
    cases lo with
    | none => rfl
    | some c => simp only [belowKey, decide_eq_true_eq] at h hl ⊢; omega

/-- Deleting a key keeps the canonical form. -/
theorem alWf_alDel (dflt : Nat → α) (k : Nat) {l : List (Nat × α)} :
    ∀ {lo : Option Nat}, alWf dflt lo l = true → alWf dflt lo (alDel k l) = true := by
  induction l with
  | nil => intro lo h; exact h
  | cons p rest ih =>
    obtain ⟨a, v⟩ := p
    intro lo h
    rw [alWf_cons] at h
    simp only [Bool.and_eq_true] at h
    unfold alDel
    split
    · exact ih (alWf_lower dflt h.1.1 h.2)
    · rw [alWf_cons]; simp only [Bool.and_eq_true]; exact ⟨h.1, ih h.2⟩

/-- Putting a value that is not the key's default keeps the canonical form. -/
theorem alWf_alPut (dflt : Nat → α) {k : Nat} {x : α} (hx : x ≠ dflt k) {l : List (Nat × α)} :
    ∀ {lo : Option Nat}, belowKey lo k = true → alWf dflt lo l = true → alWf dflt lo (alPut k x l) = true := by
  induction l with
  | nil => intro lo hk _; simp [alPut, alWf_cons, hk, hx, alWf]
  | cons p rest ih =>
    obtain ⟨a, v⟩ := p
    intro lo hk h
    rw [alWf_cons] at h
    simp only [Bool.and_eq_true] at h
    unfold alPut
    by_cases ha : a = k
    · subst ha
      simp [alWf_cons, h.1.1, hx, h.2]
    · by_cases hl : k < a
      · have hv : v ≠ dflt a := of_decide_eq_true h.1.2
        have hb : belowKey (some k) a = true := decide_eq_true hl
        simp [ha, hl, alWf_cons, hk, hx, hb, hv, h.2]
      · have hak : belowKey (some a) k = true := by simp only [belowKey, decide_eq_true_eq]; omega
        have hv : v ≠ dflt a := of_decide_eq_true h.1.2
        simp [ha, hl, alWf_cons, h.1.1, hv, ih hak h.2]

/-- Setting a key keeps the canonical form. -/
theorem alWf_alSet (dflt : Nat → α) (k : Nat) (x : α) {l : List (Nat × α)} (h : alWf dflt none l = true) :
    alWf dflt none (alSet (dflt k) k x l) = true := by
  unfold alSet; split
  · exact alWf_alDel dflt k h
  · next hx => exact alWf_alPut dflt hx rfl h

end Sys2Proof.Machine
end

