-- ==== Sys2Proof/Laws/Registers.lean ====
section
/-! SUPPORT. Registers and their fields: a read after a write, of the same place and of another. -/

namespace Sys2Proof.Machine

/-! ### Bit fields of numbers -/

/-- A field is narrower than its width. -/
theorem bitsOf_lt (n hi lo : Nat) : bitsOf n hi lo < 2 ^ (hi + 1 - lo) := Nat.mod_lt _ (Nat.two_pow_pos _)

/-- A number as the bits above a field, the field, and the bits below it. -/
theorem split_field (n hi lo : Nat) :
    n = (n / 2 ^ (lo + (hi + 1 - lo)) * 2 ^ (hi + 1 - lo) + bitsOf n hi lo) * 2 ^ lo + n % 2 ^ lo := by
  have h1 := Nat.div_add_mod n (2 ^ lo)
  have h2 := Nat.div_add_mod (n / 2 ^ lo) (2 ^ (hi + 1 - lo))
  rw [Nat.div_div_eq_div_mul, ← Nat.pow_add] at h2
  unfold bitsOf
  rw [show n / 2 ^ (lo + (hi + 1 - lo)) * 2 ^ (hi + 1 - lo) + n / 2 ^ lo % 2 ^ (hi + 1 - lo) = n / 2 ^ lo by
    rw [Nat.mul_comm]; exact h2, Nat.mul_comm]
  exact h1.symm

/-- A number with a field replaced, as the same three parts. -/
theorem setBits_parts (n hi lo v : Nat) :
    setBits n hi lo v
      = (n / 2 ^ (lo + (hi + 1 - lo)) * 2 ^ (hi + 1 - lo) + v % 2 ^ (hi + 1 - lo)) * 2 ^ lo + n % 2 ^ lo := by
  have h := split_field n hi lo
  unfold setBits
  generalize bitsOf n hi lo = x at *
  generalize n / 2 ^ (lo + (hi + 1 - lo)) * 2 ^ (hi + 1 - lo) = y at *
  generalize v % 2 ^ (hi + 1 - lo) = z at *
  rw [Nat.add_mul] at h ⊢
  omega

/-- The field just replaced. -/
theorem bitsOf_setBits_same (n hi lo v : Nat) : bitsOf (setBits n hi lo v) hi lo = v % 2 ^ (hi + 1 - lo) := by
  rw [setBits_parts]
  unfold bitsOf
  rw [Nat.add_comm (_ * 2 ^ lo), Nat.add_mul_div_right _ _ (Nat.two_pow_pos _),
    Nat.div_eq_of_lt (Nat.mod_lt _ (Nat.two_pow_pos _)), Nat.zero_add, Nat.add_comm, Nat.add_mul_mod_self_right,
    Nat.mod_mod]

/-- Whether two fields of one word have no bit in common. -/
abbrev apart (f g : Fld) : Prop := f.hi < g.lo ∨ g.hi < f.lo

/-- A field above the one replaced is unchanged. -/
theorem bitsOf_setBits_above (n hi lo v hi' lo' : Nat) (hl : lo ≤ hi) (h : hi < lo') :
    bitsOf (setBits n hi lo v) hi' lo' = bitsOf n hi' lo' := by
  rw [setBits_parts]
  conv => rhs; rw [split_field n hi lo]
  obtain ⟨k, rfl⟩ : ∃ k, lo' = lo + (hi + 1 - lo) + k := ⟨lo' - (hi + 1), by omega⟩
  have cut (y x r : Nat) (hx : x < 2 ^ (hi + 1 - lo)) (hr : r < 2 ^ lo) :
      ((y * 2 ^ (hi + 1 - lo) + x) * 2 ^ lo + r) / 2 ^ (lo + (hi + 1 - lo) + k) = y / 2 ^ k := by
    rw [Nat.pow_add, Nat.pow_add, Nat.mul_assoc, ← Nat.div_div_eq_div_mul, ← Nat.div_div_eq_div_mul,
      Nat.add_comm (_ * 2 ^ lo), Nat.add_mul_div_right _ _ (Nat.two_pow_pos _), Nat.div_eq_of_lt hr, Nat.zero_add,
      Nat.add_comm (y * _), Nat.add_mul_div_right _ _ (Nat.two_pow_pos _), Nat.div_eq_of_lt hx, Nat.zero_add]
  unfold bitsOf
  rw [cut _ _ _ (Nat.mod_lt _ (Nat.two_pow_pos _)) (Nat.mod_lt _ (Nat.two_pow_pos _)),
    cut _ _ _ (Nat.mod_lt _ (Nat.two_pow_pos _)) (Nat.mod_lt _ (Nat.two_pow_pos _))]

/-- A field below the one replaced is unchanged. -/
theorem bitsOf_setBits_below (n hi lo v hi' lo' : Nat) (h : hi' < lo) :
    bitsOf (setBits n hi lo v) hi' lo' = bitsOf n hi' lo' := by
  rw [setBits_parts]
  conv => rhs; rw [split_field n hi lo]
  unfold bitsOf
  by_cases hl : lo' ≤ hi'
  · obtain ⟨k, hk⟩ : ∃ k, lo = lo' + (hi' + 1 - lo') + k := ⟨lo - (hi' + 1), by omega⟩
    have cut (y r : Nat) : (y * 2 ^ lo + r) / 2 ^ lo' % 2 ^ (hi' + 1 - lo') = r / 2 ^ lo' % 2 ^ (hi' + 1 - lo') := by
      have e : y * 2 ^ lo = (y * 2 ^ k * 2 ^ (hi' + 1 - lo')) * 2 ^ lo' := by
        rw [hk, Nat.pow_add, Nat.pow_add]; ac_rfl
      rw [e, Nat.add_comm, Nat.add_mul_div_right _ _ (Nat.two_pow_pos _), Nat.add_mul_mod_self_right]
    rw [cut, cut]
  · rw [show hi' + 1 - lo' = 0 by omega]; simp [Nat.mod_one]

namespace Dev

/-! ### Words -/

@[simp] theorem rget_rset_same (d : Dev) (a : Nat) (w : Word) : (d.rset a w).rget a = w :=
  alGet_alSet_same (resetWord a) w a d.regs

theorem rget_rset_ne (d : Dev) {a a' : Nat} (h : a' ≠ a) (w : Word) : (d.rset a w).rget a' = d.rget a' :=
  alGet_alSet_ne h (resetWord a) (resetWord a') w d.regs

theorem rget_rset (d : Dev) (a a' : Nat) (w : Word) : (d.rset a w).rget a' = if a' = a then w else d.rget a' := by
  split
  · next h => subst h; exact d.rget_rset_same a' w
  · next h => exact d.rget_rset_ne h w

@[simp] theorem rnat_rsetN_same (d : Dev) (a n : Nat) : (d.rsetN a n).rnat a = n % 2 ^ 32 := by
  simp [rnat, rsetN]

theorem rget_rsetN_ne (d : Dev) {a a' : Nat} (h : a' ≠ a) (n : Nat) : (d.rsetN a n).rget a' = d.rget a' :=
  d.rget_rset_ne h _

theorem rnat_lt (d : Dev) (a : Nat) : d.rnat a < 2 ^ 32 := (d.rget a).isLt

/-! ### Fields -/

/-- The bits of a word written through a field, in the field's register. -/
theorem rnat_fset_same (d : Dev) (f : Fld) (hw : f.lo ≤ f.hi ∧ f.hi < 32) (v : Nat) :
    (d.fset f v).rnat f.addr = setBits (d.rnat f.addr) f.hi f.lo v := by
  unfold fset
  rw [rnat_rsetN_same]
  apply Nat.mod_eq_of_lt
  have hn := d.rnat_lt f.addr
  generalize d.rnat f.addr = n at *
  rw [setBits_parts]
  have e : 2 ^ 32 = 2 ^ (32 - (f.hi + 1)) * 2 ^ (f.hi + 1 - f.lo) * 2 ^ f.lo := by
    rw [← Nat.pow_add, ← Nat.pow_add]; congr 1; omega
  have hx : n / 2 ^ (f.lo + (f.hi + 1 - f.lo)) < 2 ^ (32 - (f.hi + 1)) := by
    rw [Nat.div_lt_iff_lt_mul (Nat.two_pow_pos _), ← Nat.pow_add]
    refine Nat.lt_of_lt_of_eq hn ?_
    congr 1; omega
  have hy : v % 2 ^ (f.hi + 1 - f.lo) < 2 ^ (f.hi + 1 - f.lo) := Nat.mod_lt _ (Nat.two_pow_pos _)
  have hz : n % 2 ^ f.lo < 2 ^ f.lo := Nat.mod_lt _ (Nat.two_pow_pos _)
  generalize n / 2 ^ (f.lo + (f.hi + 1 - f.lo)) = x at *
  generalize v % 2 ^ (f.hi + 1 - f.lo) = y at *
  generalize n % 2 ^ f.lo = z at *
  generalize 2 ^ (f.hi + 1 - f.lo) = A at *
  generalize 2 ^ f.lo = B at *
  generalize 2 ^ (32 - (f.hi + 1)) = C at *
  rw [e]
  calc (x * A + y) * B + z < (x * A + y) * B + B := by omega
    _ = (x * A + y + 1) * B := by rw [Nat.add_mul (x * A + y) 1 B, Nat.one_mul]
    _ ≤ ((x + 1) * A) * B := Nat.mul_le_mul_right _ (by rw [Nat.add_mul, Nat.one_mul]; omega)
    _ ≤ (C * A) * B := Nat.mul_le_mul_right _ (Nat.mul_le_mul_right _ hx)

/-- A field just written holds the value's low bits. -/
theorem fget_fset_same (d : Dev) (f : Fld) (hw : f.lo ≤ f.hi ∧ f.hi < 32) (v : Nat) :
    (d.fset f v).fget f = v % 2 ^ (f.hi + 1 - f.lo) := by
  rw [fget, rnat_fset_same d f hw, bitsOf_setBits_same]

/-- Writing a field of one register leaves every other register. -/
theorem rget_fset_ne (d : Dev) {f : Fld} {a : Nat} (h : a ≠ f.addr) (v : Nat) : (d.fset f v).rget a = d.rget a :=
  d.rget_rset_ne h _

theorem fget_fset_ne (d : Dev) {f g : Fld} (h : g.addr ≠ f.addr) (v : Nat) : (d.fset f v).fget g = d.fget g := by
  rw [fget, fget, rnat, rnat, rget_fset_ne d h]

/-- Writing one field of a register leaves the fields beside it. -/
theorem fget_fset_apart (d : Dev) {f g : Fld} (ha : g.addr = f.addr) (hw : f.lo ≤ f.hi ∧ f.hi < 32) (h : apart f g)
    (v : Nat) : (d.fset f v).fget g = d.fget g := by
  rw [fget, fget, ha, rnat_fset_same d f hw]
  rcases h with h | h
  · exact bitsOf_setBits_above _ _ _ _ _ _ hw.1 h
  · exact bitsOf_setBits_below _ _ _ _ _ _ h

/-- A one-bit field just written. -/
theorem fbit_fput_same (d : Dev) (f : Fld) (hw : f.lo = f.hi ∧ f.hi < 32) (b : Bool) : (d.fput f b).fbit f = b := by
  unfold fbit fput
  rw [fget_fset_same d f ⟨Nat.le_of_eq hw.1, hw.2⟩, hw.1]
  cases b <;> simp

end Dev

end Sys2Proof.Machine
end

