-- ==== Sys2Proof/Laws/State.lean ====
section
/-! SUPPORT. One lemma per field of the device per update, true by unfolding, so that no later proof opens a record
update. -/

namespace Sys2Proof.Machine

namespace Dev

variable (d : Dev)

/-! ### rset changes the registers alone -/

@[simp] theorem rset_st (a : Nat) (w : Word) : (d.rset a w).st = d.st := rfl
@[simp] theorem rset_held (a : Nat) (w : Word) : (d.rset a w).held = d.held := rfl
@[simp] theorem rset_tb (a : Nat) (w : Word) : (d.rset a w).tb = d.tb := rfl
@[simp] theorem rset_locks (a : Nat) (w : Word) : (d.rset a w).locks = d.locks := rfl
@[simp] theorem rset_latches (a : Nat) (w : Word) : (d.rset a w).latches = d.latches := rfl
@[simp] theorem rset_slotSnap (a : Nat) (w : Word) : (d.rset a w).slotSnap = d.slotSnap := rfl
@[simp] theorem rset_free (a : Nat) (w : Word) : (d.rset a w).free = d.free := rfl
@[simp] theorem rset_sent (a : Nat) (w : Word) : (d.rset a w).sent = d.sent := rfl
@[simp] theorem rset_settings (a : Nat) (w : Word) : (d.rset a w).settings = d.settings := rfl
@[simp] theorem rset_keyHash (a : Nat) (w : Word) : (d.rset a w).keyHash = d.keyHash := rfl
@[simp] theorem rset_keyRevoked (a : Nat) (w : Word) : (d.rset a w).keyRevoked = d.keyRevoked := rfl
@[simp] theorem rset_factory (a : Nat) (w : Word) : (d.rset a w).factory = d.factory := rfl
@[simp] theorem rset_esc (a : Nat) (w : Word) : (d.rset a w).esc = d.esc := rfl
@[simp] theorem rset_mov (a : Nat) (w : Word) : (d.rset a w).mov = d.mov := rfl
@[simp] theorem rset_slots (a : Nat) (w : Word) : (d.rset a w).slots = d.slots := rfl
@[simp] theorem rset_rcd (a : Nat) (w : Word) : (d.rset a w).rcd = d.rcd := rfl
@[simp] theorem rset_wdg (a : Nat) (w : Word) : (d.rset a w).wdg = d.wdg := rfl
@[simp] theorem rset_hst (a : Nat) (w : Word) : (d.rset a w).hst = d.hst := rfl
@[simp] theorem rset_watch (a : Nat) (w : Word) : (d.rset a w).watch = d.watch := rfl
@[simp] theorem rset_unwatched (a : Nat) (w : Word) : (d.rset a w).unwatched = d.unwatched := rfl
@[simp] theorem rset_nv (a : Nat) (w : Word) : (d.rset a w).nv = d.nv := rfl
@[simp] theorem rset_keep (a : Nat) (w : Word) : (d.rset a w).keep = d.keep := rfl
@[simp] theorem rset_isl (a : Nat) (w : Word) : (d.rset a w).isl = d.isl := rfl
@[simp] theorem rset_gt (a : Nat) (w : Word) : (d.rset a w).gt = d.gt := rfl
@[simp] theorem rset_lac (a : Nat) (w : Word) : (d.rset a w).lac = d.lac := rfl
@[simp] theorem rset_field (a : Nat) (w : Word) : (d.rset a w).field = d.field := rfl
@[simp] theorem rset_loops (a : Nat) (w : Word) : (d.rset a w).loops = d.loops := rfl
@[simp] theorem rset_safe (a : Nat) (w : Word) : (d.rset a w).safe = d.safe := rfl
@[simp] theorem rset_can (a : Nat) (w : Word) : (d.rset a w).can = d.can := rfl
@[simp] theorem rset_svc (a : Nat) (w : Word) : (d.rset a w).svc = d.svc := rfl
@[simp] theorem rset_wlt (a : Nat) (w : Word) : (d.rset a w).wlt = d.wlt := rfl
@[simp] theorem rset_checkN (a : Nat) (w : Word) : (d.rset a w).checkN = d.checkN := rfl
@[simp] theorem rset_primes (a : Nat) (w : Word) : (d.rset a w).primes = d.primes := rfl
@[simp] theorem rset_primeTasks (a : Nat) (w : Word) : (d.rset a w).primeTasks = d.primeTasks := rfl
@[simp] theorem rset_tbStopped (a : Nat) (w : Word) : (d.rset a w).tbStopped = d.tbStopped := rfl
@[simp] theorem rset_moverDirty (a : Nat) (w : Word) : (d.rset a w).moverDirty = d.moverDirty := rfl
@[simp] theorem rset_beatCnt (a : Nat) (w : Word) : (d.rset a w).beatCnt = d.beatCnt := rfl
@[simp] theorem rset_samplePend (a : Nat) (w : Word) : (d.rset a w).samplePend = d.samplePend := rfl
@[simp] theorem rset_sampleCnt (a : Nat) (w : Word) : (d.rset a w).sampleCnt = d.sampleCnt := rfl
@[simp] theorem rset_bwTx (a : Nat) (w : Word) : (d.rset a w).bwTx = d.bwTx := rfl
@[simp] theorem rset_bwRx (a : Nat) (w : Word) : (d.rset a w).bwRx = d.bwRx := rfl

/-! ### rsetN changes the registers alone -/

@[simp] theorem rsetN_st (a n : Nat) : (d.rsetN a n).st = d.st := rfl
@[simp] theorem rsetN_held (a n : Nat) : (d.rsetN a n).held = d.held := rfl
@[simp] theorem rsetN_tb (a n : Nat) : (d.rsetN a n).tb = d.tb := rfl
@[simp] theorem rsetN_locks (a n : Nat) : (d.rsetN a n).locks = d.locks := rfl
@[simp] theorem rsetN_latches (a n : Nat) : (d.rsetN a n).latches = d.latches := rfl
@[simp] theorem rsetN_slotSnap (a n : Nat) : (d.rsetN a n).slotSnap = d.slotSnap := rfl
@[simp] theorem rsetN_free (a n : Nat) : (d.rsetN a n).free = d.free := rfl
@[simp] theorem rsetN_sent (a n : Nat) : (d.rsetN a n).sent = d.sent := rfl
@[simp] theorem rsetN_settings (a n : Nat) : (d.rsetN a n).settings = d.settings := rfl
@[simp] theorem rsetN_keyHash (a n : Nat) : (d.rsetN a n).keyHash = d.keyHash := rfl
@[simp] theorem rsetN_keyRevoked (a n : Nat) : (d.rsetN a n).keyRevoked = d.keyRevoked := rfl
@[simp] theorem rsetN_factory (a n : Nat) : (d.rsetN a n).factory = d.factory := rfl
@[simp] theorem rsetN_esc (a n : Nat) : (d.rsetN a n).esc = d.esc := rfl
@[simp] theorem rsetN_mov (a n : Nat) : (d.rsetN a n).mov = d.mov := rfl
@[simp] theorem rsetN_slots (a n : Nat) : (d.rsetN a n).slots = d.slots := rfl
@[simp] theorem rsetN_rcd (a n : Nat) : (d.rsetN a n).rcd = d.rcd := rfl
@[simp] theorem rsetN_wdg (a n : Nat) : (d.rsetN a n).wdg = d.wdg := rfl
@[simp] theorem rsetN_hst (a n : Nat) : (d.rsetN a n).hst = d.hst := rfl
@[simp] theorem rsetN_watch (a n : Nat) : (d.rsetN a n).watch = d.watch := rfl
@[simp] theorem rsetN_unwatched (a n : Nat) : (d.rsetN a n).unwatched = d.unwatched := rfl
@[simp] theorem rsetN_nv (a n : Nat) : (d.rsetN a n).nv = d.nv := rfl
@[simp] theorem rsetN_keep (a n : Nat) : (d.rsetN a n).keep = d.keep := rfl
@[simp] theorem rsetN_isl (a n : Nat) : (d.rsetN a n).isl = d.isl := rfl
@[simp] theorem rsetN_gt (a n : Nat) : (d.rsetN a n).gt = d.gt := rfl
@[simp] theorem rsetN_lac (a n : Nat) : (d.rsetN a n).lac = d.lac := rfl
@[simp] theorem rsetN_field (a n : Nat) : (d.rsetN a n).field = d.field := rfl
@[simp] theorem rsetN_loops (a n : Nat) : (d.rsetN a n).loops = d.loops := rfl
@[simp] theorem rsetN_safe (a n : Nat) : (d.rsetN a n).safe = d.safe := rfl
@[simp] theorem rsetN_can (a n : Nat) : (d.rsetN a n).can = d.can := rfl
@[simp] theorem rsetN_svc (a n : Nat) : (d.rsetN a n).svc = d.svc := rfl
@[simp] theorem rsetN_wlt (a n : Nat) : (d.rsetN a n).wlt = d.wlt := rfl
@[simp] theorem rsetN_checkN (a n : Nat) : (d.rsetN a n).checkN = d.checkN := rfl
@[simp] theorem rsetN_primes (a n : Nat) : (d.rsetN a n).primes = d.primes := rfl
@[simp] theorem rsetN_primeTasks (a n : Nat) : (d.rsetN a n).primeTasks = d.primeTasks := rfl
@[simp] theorem rsetN_tbStopped (a n : Nat) : (d.rsetN a n).tbStopped = d.tbStopped := rfl
@[simp] theorem rsetN_moverDirty (a n : Nat) : (d.rsetN a n).moverDirty = d.moverDirty := rfl
@[simp] theorem rsetN_beatCnt (a n : Nat) : (d.rsetN a n).beatCnt = d.beatCnt := rfl
@[simp] theorem rsetN_samplePend (a n : Nat) : (d.rsetN a n).samplePend = d.samplePend := rfl
@[simp] theorem rsetN_sampleCnt (a n : Nat) : (d.rsetN a n).sampleCnt = d.sampleCnt := rfl
@[simp] theorem rsetN_bwTx (a n : Nat) : (d.rsetN a n).bwTx = d.bwTx := rfl
@[simp] theorem rsetN_bwRx (a n : Nat) : (d.rsetN a n).bwRx = d.bwRx := rfl

/-! ### fset changes the registers alone -/

@[simp] theorem fset_st (f : Fld) (v : Nat) : (d.fset f v).st = d.st := rfl
@[simp] theorem fset_held (f : Fld) (v : Nat) : (d.fset f v).held = d.held := rfl
@[simp] theorem fset_tb (f : Fld) (v : Nat) : (d.fset f v).tb = d.tb := rfl
@[simp] theorem fset_locks (f : Fld) (v : Nat) : (d.fset f v).locks = d.locks := rfl
@[simp] theorem fset_latches (f : Fld) (v : Nat) : (d.fset f v).latches = d.latches := rfl
@[simp] theorem fset_slotSnap (f : Fld) (v : Nat) : (d.fset f v).slotSnap = d.slotSnap := rfl
@[simp] theorem fset_free (f : Fld) (v : Nat) : (d.fset f v).free = d.free := rfl
@[simp] theorem fset_sent (f : Fld) (v : Nat) : (d.fset f v).sent = d.sent := rfl
@[simp] theorem fset_settings (f : Fld) (v : Nat) : (d.fset f v).settings = d.settings := rfl
@[simp] theorem fset_keyHash (f : Fld) (v : Nat) : (d.fset f v).keyHash = d.keyHash := rfl
@[simp] theorem fset_keyRevoked (f : Fld) (v : Nat) : (d.fset f v).keyRevoked = d.keyRevoked := rfl
@[simp] theorem fset_factory (f : Fld) (v : Nat) : (d.fset f v).factory = d.factory := rfl
@[simp] theorem fset_esc (f : Fld) (v : Nat) : (d.fset f v).esc = d.esc := rfl
@[simp] theorem fset_mov (f : Fld) (v : Nat) : (d.fset f v).mov = d.mov := rfl
@[simp] theorem fset_slots (f : Fld) (v : Nat) : (d.fset f v).slots = d.slots := rfl
@[simp] theorem fset_rcd (f : Fld) (v : Nat) : (d.fset f v).rcd = d.rcd := rfl
@[simp] theorem fset_wdg (f : Fld) (v : Nat) : (d.fset f v).wdg = d.wdg := rfl
@[simp] theorem fset_hst (f : Fld) (v : Nat) : (d.fset f v).hst = d.hst := rfl
@[simp] theorem fset_watch (f : Fld) (v : Nat) : (d.fset f v).watch = d.watch := rfl
@[simp] theorem fset_unwatched (f : Fld) (v : Nat) : (d.fset f v).unwatched = d.unwatched := rfl
@[simp] theorem fset_nv (f : Fld) (v : Nat) : (d.fset f v).nv = d.nv := rfl
@[simp] theorem fset_keep (f : Fld) (v : Nat) : (d.fset f v).keep = d.keep := rfl
@[simp] theorem fset_isl (f : Fld) (v : Nat) : (d.fset f v).isl = d.isl := rfl
@[simp] theorem fset_gt (f : Fld) (v : Nat) : (d.fset f v).gt = d.gt := rfl
@[simp] theorem fset_lac (f : Fld) (v : Nat) : (d.fset f v).lac = d.lac := rfl
@[simp] theorem fset_field (f : Fld) (v : Nat) : (d.fset f v).field = d.field := rfl
@[simp] theorem fset_loops (f : Fld) (v : Nat) : (d.fset f v).loops = d.loops := rfl
@[simp] theorem fset_safe (f : Fld) (v : Nat) : (d.fset f v).safe = d.safe := rfl
@[simp] theorem fset_can (f : Fld) (v : Nat) : (d.fset f v).can = d.can := rfl
@[simp] theorem fset_svc (f : Fld) (v : Nat) : (d.fset f v).svc = d.svc := rfl
@[simp] theorem fset_wlt (f : Fld) (v : Nat) : (d.fset f v).wlt = d.wlt := rfl
@[simp] theorem fset_checkN (f : Fld) (v : Nat) : (d.fset f v).checkN = d.checkN := rfl
@[simp] theorem fset_primes (f : Fld) (v : Nat) : (d.fset f v).primes = d.primes := rfl
@[simp] theorem fset_primeTasks (f : Fld) (v : Nat) : (d.fset f v).primeTasks = d.primeTasks := rfl
@[simp] theorem fset_tbStopped (f : Fld) (v : Nat) : (d.fset f v).tbStopped = d.tbStopped := rfl
@[simp] theorem fset_moverDirty (f : Fld) (v : Nat) : (d.fset f v).moverDirty = d.moverDirty := rfl
@[simp] theorem fset_beatCnt (f : Fld) (v : Nat) : (d.fset f v).beatCnt = d.beatCnt := rfl
@[simp] theorem fset_samplePend (f : Fld) (v : Nat) : (d.fset f v).samplePend = d.samplePend := rfl
@[simp] theorem fset_sampleCnt (f : Fld) (v : Nat) : (d.fset f v).sampleCnt = d.sampleCnt := rfl
@[simp] theorem fset_bwTx (f : Fld) (v : Nat) : (d.fset f v).bwTx = d.bwTx := rfl
@[simp] theorem fset_bwRx (f : Fld) (v : Nat) : (d.fset f v).bwRx = d.bwRx := rfl

/-! ### fput changes the registers alone -/

@[simp] theorem fput_st (f : Fld) (b : Bool) : (d.fput f b).st = d.st := rfl
@[simp] theorem fput_held (f : Fld) (b : Bool) : (d.fput f b).held = d.held := rfl
@[simp] theorem fput_tb (f : Fld) (b : Bool) : (d.fput f b).tb = d.tb := rfl
@[simp] theorem fput_locks (f : Fld) (b : Bool) : (d.fput f b).locks = d.locks := rfl
@[simp] theorem fput_latches (f : Fld) (b : Bool) : (d.fput f b).latches = d.latches := rfl
@[simp] theorem fput_slotSnap (f : Fld) (b : Bool) : (d.fput f b).slotSnap = d.slotSnap := rfl
@[simp] theorem fput_free (f : Fld) (b : Bool) : (d.fput f b).free = d.free := rfl
@[simp] theorem fput_sent (f : Fld) (b : Bool) : (d.fput f b).sent = d.sent := rfl
@[simp] theorem fput_settings (f : Fld) (b : Bool) : (d.fput f b).settings = d.settings := rfl
@[simp] theorem fput_keyHash (f : Fld) (b : Bool) : (d.fput f b).keyHash = d.keyHash := rfl
@[simp] theorem fput_keyRevoked (f : Fld) (b : Bool) : (d.fput f b).keyRevoked = d.keyRevoked := rfl
@[simp] theorem fput_factory (f : Fld) (b : Bool) : (d.fput f b).factory = d.factory := rfl
@[simp] theorem fput_esc (f : Fld) (b : Bool) : (d.fput f b).esc = d.esc := rfl
@[simp] theorem fput_mov (f : Fld) (b : Bool) : (d.fput f b).mov = d.mov := rfl
@[simp] theorem fput_slots (f : Fld) (b : Bool) : (d.fput f b).slots = d.slots := rfl
@[simp] theorem fput_rcd (f : Fld) (b : Bool) : (d.fput f b).rcd = d.rcd := rfl
@[simp] theorem fput_wdg (f : Fld) (b : Bool) : (d.fput f b).wdg = d.wdg := rfl
@[simp] theorem fput_hst (f : Fld) (b : Bool) : (d.fput f b).hst = d.hst := rfl
@[simp] theorem fput_watch (f : Fld) (b : Bool) : (d.fput f b).watch = d.watch := rfl
@[simp] theorem fput_unwatched (f : Fld) (b : Bool) : (d.fput f b).unwatched = d.unwatched := rfl
@[simp] theorem fput_nv (f : Fld) (b : Bool) : (d.fput f b).nv = d.nv := rfl
@[simp] theorem fput_keep (f : Fld) (b : Bool) : (d.fput f b).keep = d.keep := rfl
@[simp] theorem fput_isl (f : Fld) (b : Bool) : (d.fput f b).isl = d.isl := rfl
@[simp] theorem fput_gt (f : Fld) (b : Bool) : (d.fput f b).gt = d.gt := rfl
@[simp] theorem fput_lac (f : Fld) (b : Bool) : (d.fput f b).lac = d.lac := rfl
@[simp] theorem fput_field (f : Fld) (b : Bool) : (d.fput f b).field = d.field := rfl
@[simp] theorem fput_loops (f : Fld) (b : Bool) : (d.fput f b).loops = d.loops := rfl
@[simp] theorem fput_safe (f : Fld) (b : Bool) : (d.fput f b).safe = d.safe := rfl
@[simp] theorem fput_can (f : Fld) (b : Bool) : (d.fput f b).can = d.can := rfl
@[simp] theorem fput_svc (f : Fld) (b : Bool) : (d.fput f b).svc = d.svc := rfl
@[simp] theorem fput_wlt (f : Fld) (b : Bool) : (d.fput f b).wlt = d.wlt := rfl
@[simp] theorem fput_checkN (f : Fld) (b : Bool) : (d.fput f b).checkN = d.checkN := rfl
@[simp] theorem fput_primes (f : Fld) (b : Bool) : (d.fput f b).primes = d.primes := rfl
@[simp] theorem fput_primeTasks (f : Fld) (b : Bool) : (d.fput f b).primeTasks = d.primeTasks := rfl
@[simp] theorem fput_tbStopped (f : Fld) (b : Bool) : (d.fput f b).tbStopped = d.tbStopped := rfl
@[simp] theorem fput_moverDirty (f : Fld) (b : Bool) : (d.fput f b).moverDirty = d.moverDirty := rfl
@[simp] theorem fput_beatCnt (f : Fld) (b : Bool) : (d.fput f b).beatCnt = d.beatCnt := rfl
@[simp] theorem fput_samplePend (f : Fld) (b : Bool) : (d.fput f b).samplePend = d.samplePend := rfl
@[simp] theorem fput_sampleCnt (f : Fld) (b : Bool) : (d.fput f b).sampleCnt = d.sampleCnt := rfl
@[simp] theorem fput_bwTx (f : Fld) (b : Bool) : (d.fput f b).bwTx = d.bwTx := rfl
@[simp] theorem fput_bwRx (f : Fld) (b : Bool) : (d.fput f b).bwRx = d.bwRx := rfl

/-! ### finc changes the registers alone -/

@[simp] theorem finc_st (f : Fld) (n : Nat) : (d.finc f n).st = d.st := rfl
@[simp] theorem finc_held (f : Fld) (n : Nat) : (d.finc f n).held = d.held := rfl
@[simp] theorem finc_tb (f : Fld) (n : Nat) : (d.finc f n).tb = d.tb := rfl
@[simp] theorem finc_locks (f : Fld) (n : Nat) : (d.finc f n).locks = d.locks := rfl
@[simp] theorem finc_latches (f : Fld) (n : Nat) : (d.finc f n).latches = d.latches := rfl
@[simp] theorem finc_slotSnap (f : Fld) (n : Nat) : (d.finc f n).slotSnap = d.slotSnap := rfl
@[simp] theorem finc_free (f : Fld) (n : Nat) : (d.finc f n).free = d.free := rfl
@[simp] theorem finc_sent (f : Fld) (n : Nat) : (d.finc f n).sent = d.sent := rfl
@[simp] theorem finc_settings (f : Fld) (n : Nat) : (d.finc f n).settings = d.settings := rfl
@[simp] theorem finc_keyHash (f : Fld) (n : Nat) : (d.finc f n).keyHash = d.keyHash := rfl
@[simp] theorem finc_keyRevoked (f : Fld) (n : Nat) : (d.finc f n).keyRevoked = d.keyRevoked := rfl
@[simp] theorem finc_factory (f : Fld) (n : Nat) : (d.finc f n).factory = d.factory := rfl
@[simp] theorem finc_esc (f : Fld) (n : Nat) : (d.finc f n).esc = d.esc := rfl
@[simp] theorem finc_mov (f : Fld) (n : Nat) : (d.finc f n).mov = d.mov := rfl
@[simp] theorem finc_slots (f : Fld) (n : Nat) : (d.finc f n).slots = d.slots := rfl
@[simp] theorem finc_rcd (f : Fld) (n : Nat) : (d.finc f n).rcd = d.rcd := rfl
@[simp] theorem finc_wdg (f : Fld) (n : Nat) : (d.finc f n).wdg = d.wdg := rfl
@[simp] theorem finc_hst (f : Fld) (n : Nat) : (d.finc f n).hst = d.hst := rfl
@[simp] theorem finc_watch (f : Fld) (n : Nat) : (d.finc f n).watch = d.watch := rfl
@[simp] theorem finc_unwatched (f : Fld) (n : Nat) : (d.finc f n).unwatched = d.unwatched := rfl
@[simp] theorem finc_nv (f : Fld) (n : Nat) : (d.finc f n).nv = d.nv := rfl
@[simp] theorem finc_keep (f : Fld) (n : Nat) : (d.finc f n).keep = d.keep := rfl
@[simp] theorem finc_isl (f : Fld) (n : Nat) : (d.finc f n).isl = d.isl := rfl
@[simp] theorem finc_gt (f : Fld) (n : Nat) : (d.finc f n).gt = d.gt := rfl
@[simp] theorem finc_lac (f : Fld) (n : Nat) : (d.finc f n).lac = d.lac := rfl
@[simp] theorem finc_field (f : Fld) (n : Nat) : (d.finc f n).field = d.field := rfl
@[simp] theorem finc_loops (f : Fld) (n : Nat) : (d.finc f n).loops = d.loops := rfl
@[simp] theorem finc_safe (f : Fld) (n : Nat) : (d.finc f n).safe = d.safe := rfl
@[simp] theorem finc_can (f : Fld) (n : Nat) : (d.finc f n).can = d.can := rfl
@[simp] theorem finc_svc (f : Fld) (n : Nat) : (d.finc f n).svc = d.svc := rfl
@[simp] theorem finc_wlt (f : Fld) (n : Nat) : (d.finc f n).wlt = d.wlt := rfl
@[simp] theorem finc_checkN (f : Fld) (n : Nat) : (d.finc f n).checkN = d.checkN := rfl
@[simp] theorem finc_primes (f : Fld) (n : Nat) : (d.finc f n).primes = d.primes := rfl
@[simp] theorem finc_primeTasks (f : Fld) (n : Nat) : (d.finc f n).primeTasks = d.primeTasks := rfl
@[simp] theorem finc_tbStopped (f : Fld) (n : Nat) : (d.finc f n).tbStopped = d.tbStopped := rfl
@[simp] theorem finc_moverDirty (f : Fld) (n : Nat) : (d.finc f n).moverDirty = d.moverDirty := rfl
@[simp] theorem finc_beatCnt (f : Fld) (n : Nat) : (d.finc f n).beatCnt = d.beatCnt := rfl
@[simp] theorem finc_samplePend (f : Fld) (n : Nat) : (d.finc f n).samplePend = d.samplePend := rfl
@[simp] theorem finc_sampleCnt (f : Fld) (n : Nat) : (d.finc f n).sampleCnt = d.sampleCnt := rfl
@[simp] theorem finc_bwTx (f : Fld) (n : Nat) : (d.finc f n).bwTx = d.bwTx := rfl
@[simp] theorem finc_bwRx (f : Fld) (n : Nat) : (d.finc f n).bwRx = d.bwRx := rfl

/-! ### fincWrap changes the registers alone -/

@[simp] theorem fincWrap_st (f : Fld) (n : Nat) : (d.fincWrap f n).st = d.st := rfl
@[simp] theorem fincWrap_held (f : Fld) (n : Nat) : (d.fincWrap f n).held = d.held := rfl
@[simp] theorem fincWrap_tb (f : Fld) (n : Nat) : (d.fincWrap f n).tb = d.tb := rfl
@[simp] theorem fincWrap_locks (f : Fld) (n : Nat) : (d.fincWrap f n).locks = d.locks := rfl
@[simp] theorem fincWrap_latches (f : Fld) (n : Nat) : (d.fincWrap f n).latches = d.latches := rfl
@[simp] theorem fincWrap_slotSnap (f : Fld) (n : Nat) : (d.fincWrap f n).slotSnap = d.slotSnap := rfl
@[simp] theorem fincWrap_free (f : Fld) (n : Nat) : (d.fincWrap f n).free = d.free := rfl
@[simp] theorem fincWrap_sent (f : Fld) (n : Nat) : (d.fincWrap f n).sent = d.sent := rfl
@[simp] theorem fincWrap_settings (f : Fld) (n : Nat) : (d.fincWrap f n).settings = d.settings := rfl
@[simp] theorem fincWrap_keyHash (f : Fld) (n : Nat) : (d.fincWrap f n).keyHash = d.keyHash := rfl
@[simp] theorem fincWrap_keyRevoked (f : Fld) (n : Nat) : (d.fincWrap f n).keyRevoked = d.keyRevoked := rfl
@[simp] theorem fincWrap_factory (f : Fld) (n : Nat) : (d.fincWrap f n).factory = d.factory := rfl
@[simp] theorem fincWrap_esc (f : Fld) (n : Nat) : (d.fincWrap f n).esc = d.esc := rfl
@[simp] theorem fincWrap_mov (f : Fld) (n : Nat) : (d.fincWrap f n).mov = d.mov := rfl
@[simp] theorem fincWrap_slots (f : Fld) (n : Nat) : (d.fincWrap f n).slots = d.slots := rfl
@[simp] theorem fincWrap_rcd (f : Fld) (n : Nat) : (d.fincWrap f n).rcd = d.rcd := rfl
@[simp] theorem fincWrap_wdg (f : Fld) (n : Nat) : (d.fincWrap f n).wdg = d.wdg := rfl
@[simp] theorem fincWrap_hst (f : Fld) (n : Nat) : (d.fincWrap f n).hst = d.hst := rfl
@[simp] theorem fincWrap_watch (f : Fld) (n : Nat) : (d.fincWrap f n).watch = d.watch := rfl
@[simp] theorem fincWrap_unwatched (f : Fld) (n : Nat) : (d.fincWrap f n).unwatched = d.unwatched := rfl
@[simp] theorem fincWrap_nv (f : Fld) (n : Nat) : (d.fincWrap f n).nv = d.nv := rfl
@[simp] theorem fincWrap_keep (f : Fld) (n : Nat) : (d.fincWrap f n).keep = d.keep := rfl
@[simp] theorem fincWrap_isl (f : Fld) (n : Nat) : (d.fincWrap f n).isl = d.isl := rfl
@[simp] theorem fincWrap_gt (f : Fld) (n : Nat) : (d.fincWrap f n).gt = d.gt := rfl
@[simp] theorem fincWrap_lac (f : Fld) (n : Nat) : (d.fincWrap f n).lac = d.lac := rfl
@[simp] theorem fincWrap_field (f : Fld) (n : Nat) : (d.fincWrap f n).field = d.field := rfl
@[simp] theorem fincWrap_loops (f : Fld) (n : Nat) : (d.fincWrap f n).loops = d.loops := rfl
@[simp] theorem fincWrap_safe (f : Fld) (n : Nat) : (d.fincWrap f n).safe = d.safe := rfl
@[simp] theorem fincWrap_can (f : Fld) (n : Nat) : (d.fincWrap f n).can = d.can := rfl
@[simp] theorem fincWrap_svc (f : Fld) (n : Nat) : (d.fincWrap f n).svc = d.svc := rfl
@[simp] theorem fincWrap_wlt (f : Fld) (n : Nat) : (d.fincWrap f n).wlt = d.wlt := rfl
@[simp] theorem fincWrap_checkN (f : Fld) (n : Nat) : (d.fincWrap f n).checkN = d.checkN := rfl
@[simp] theorem fincWrap_primes (f : Fld) (n : Nat) : (d.fincWrap f n).primes = d.primes := rfl
@[simp] theorem fincWrap_primeTasks (f : Fld) (n : Nat) : (d.fincWrap f n).primeTasks = d.primeTasks := rfl
@[simp] theorem fincWrap_tbStopped (f : Fld) (n : Nat) : (d.fincWrap f n).tbStopped = d.tbStopped := rfl
@[simp] theorem fincWrap_moverDirty (f : Fld) (n : Nat) : (d.fincWrap f n).moverDirty = d.moverDirty := rfl
@[simp] theorem fincWrap_beatCnt (f : Fld) (n : Nat) : (d.fincWrap f n).beatCnt = d.beatCnt := rfl
@[simp] theorem fincWrap_samplePend (f : Fld) (n : Nat) : (d.fincWrap f n).samplePend = d.samplePend := rfl
@[simp] theorem fincWrap_sampleCnt (f : Fld) (n : Nat) : (d.fincWrap f n).sampleCnt = d.sampleCnt := rfl
@[simp] theorem fincWrap_bwTx (f : Fld) (n : Nat) : (d.fincWrap f n).bwTx = d.bwTx := rfl
@[simp] theorem fincWrap_bwRx (f : Fld) (n : Nat) : (d.fincWrap f n).bwRx = d.bwRx := rfl

/-! ### nextFree changes the free-value counter alone -/

@[simp] theorem nextFree_st : (d.nextFree).st = d.st := rfl
@[simp] theorem nextFree_held : (d.nextFree).held = d.held := rfl
@[simp] theorem nextFree_tb : (d.nextFree).tb = d.tb := rfl
@[simp] theorem nextFree_regs : (d.nextFree).regs = d.regs := rfl
@[simp] theorem nextFree_locks : (d.nextFree).locks = d.locks := rfl
@[simp] theorem nextFree_latches : (d.nextFree).latches = d.latches := rfl
@[simp] theorem nextFree_slotSnap : (d.nextFree).slotSnap = d.slotSnap := rfl
@[simp] theorem nextFree_sent : (d.nextFree).sent = d.sent := rfl
@[simp] theorem nextFree_settings : (d.nextFree).settings = d.settings := rfl
@[simp] theorem nextFree_keyHash : (d.nextFree).keyHash = d.keyHash := rfl
@[simp] theorem nextFree_keyRevoked : (d.nextFree).keyRevoked = d.keyRevoked := rfl
@[simp] theorem nextFree_factory : (d.nextFree).factory = d.factory := rfl
@[simp] theorem nextFree_esc : (d.nextFree).esc = d.esc := rfl
@[simp] theorem nextFree_mov : (d.nextFree).mov = d.mov := rfl
@[simp] theorem nextFree_slots : (d.nextFree).slots = d.slots := rfl
@[simp] theorem nextFree_rcd : (d.nextFree).rcd = d.rcd := rfl
@[simp] theorem nextFree_wdg : (d.nextFree).wdg = d.wdg := rfl
@[simp] theorem nextFree_hst : (d.nextFree).hst = d.hst := rfl
@[simp] theorem nextFree_watch : (d.nextFree).watch = d.watch := rfl
@[simp] theorem nextFree_unwatched : (d.nextFree).unwatched = d.unwatched := rfl
@[simp] theorem nextFree_nv : (d.nextFree).nv = d.nv := rfl
@[simp] theorem nextFree_keep : (d.nextFree).keep = d.keep := rfl
@[simp] theorem nextFree_isl : (d.nextFree).isl = d.isl := rfl
@[simp] theorem nextFree_gt : (d.nextFree).gt = d.gt := rfl
@[simp] theorem nextFree_lac : (d.nextFree).lac = d.lac := rfl
@[simp] theorem nextFree_field : (d.nextFree).field = d.field := rfl
@[simp] theorem nextFree_loops : (d.nextFree).loops = d.loops := rfl
@[simp] theorem nextFree_safe : (d.nextFree).safe = d.safe := rfl
@[simp] theorem nextFree_can : (d.nextFree).can = d.can := rfl
@[simp] theorem nextFree_svc : (d.nextFree).svc = d.svc := rfl
@[simp] theorem nextFree_wlt : (d.nextFree).wlt = d.wlt := rfl
@[simp] theorem nextFree_checkN : (d.nextFree).checkN = d.checkN := rfl
@[simp] theorem nextFree_primes : (d.nextFree).primes = d.primes := rfl
@[simp] theorem nextFree_primeTasks : (d.nextFree).primeTasks = d.primeTasks := rfl
@[simp] theorem nextFree_tbStopped : (d.nextFree).tbStopped = d.tbStopped := rfl
@[simp] theorem nextFree_moverDirty : (d.nextFree).moverDirty = d.moverDirty := rfl
@[simp] theorem nextFree_beatCnt : (d.nextFree).beatCnt = d.beatCnt := rfl
@[simp] theorem nextFree_samplePend : (d.nextFree).samplePend = d.samplePend := rfl
@[simp] theorem nextFree_sampleCnt : (d.nextFree).sampleCnt = d.sampleCnt := rfl
@[simp] theorem nextFree_bwTx : (d.nextFree).bwTx = d.bwTx := rfl
@[simp] theorem nextFree_bwRx : (d.nextFree).bwRx = d.bwRx := rfl

/-! ### modEsc changes `esc` alone -/

@[simp] theorem modEsc_st (f : Esc → Esc) : (d.modEsc f).st = d.st := rfl
@[simp] theorem modEsc_held (f : Esc → Esc) : (d.modEsc f).held = d.held := rfl
@[simp] theorem modEsc_tb (f : Esc → Esc) : (d.modEsc f).tb = d.tb := rfl
@[simp] theorem modEsc_regs (f : Esc → Esc) : (d.modEsc f).regs = d.regs := rfl
@[simp] theorem modEsc_locks (f : Esc → Esc) : (d.modEsc f).locks = d.locks := rfl
@[simp] theorem modEsc_latches (f : Esc → Esc) : (d.modEsc f).latches = d.latches := rfl
@[simp] theorem modEsc_slotSnap (f : Esc → Esc) : (d.modEsc f).slotSnap = d.slotSnap := rfl
@[simp] theorem modEsc_free (f : Esc → Esc) : (d.modEsc f).free = d.free := rfl
@[simp] theorem modEsc_sent (f : Esc → Esc) : (d.modEsc f).sent = d.sent := rfl
@[simp] theorem modEsc_settings (f : Esc → Esc) : (d.modEsc f).settings = d.settings := rfl
@[simp] theorem modEsc_keyHash (f : Esc → Esc) : (d.modEsc f).keyHash = d.keyHash := rfl
@[simp] theorem modEsc_keyRevoked (f : Esc → Esc) : (d.modEsc f).keyRevoked = d.keyRevoked := rfl
@[simp] theorem modEsc_factory (f : Esc → Esc) : (d.modEsc f).factory = d.factory := rfl
@[simp] theorem modEsc_mov (f : Esc → Esc) : (d.modEsc f).mov = d.mov := rfl
@[simp] theorem modEsc_slots (f : Esc → Esc) : (d.modEsc f).slots = d.slots := rfl
@[simp] theorem modEsc_rcd (f : Esc → Esc) : (d.modEsc f).rcd = d.rcd := rfl
@[simp] theorem modEsc_wdg (f : Esc → Esc) : (d.modEsc f).wdg = d.wdg := rfl
@[simp] theorem modEsc_hst (f : Esc → Esc) : (d.modEsc f).hst = d.hst := rfl
@[simp] theorem modEsc_watch (f : Esc → Esc) : (d.modEsc f).watch = d.watch := rfl
@[simp] theorem modEsc_unwatched (f : Esc → Esc) : (d.modEsc f).unwatched = d.unwatched := rfl
@[simp] theorem modEsc_nv (f : Esc → Esc) : (d.modEsc f).nv = d.nv := rfl
@[simp] theorem modEsc_keep (f : Esc → Esc) : (d.modEsc f).keep = d.keep := rfl
@[simp] theorem modEsc_isl (f : Esc → Esc) : (d.modEsc f).isl = d.isl := rfl
@[simp] theorem modEsc_gt (f : Esc → Esc) : (d.modEsc f).gt = d.gt := rfl
@[simp] theorem modEsc_lac (f : Esc → Esc) : (d.modEsc f).lac = d.lac := rfl
@[simp] theorem modEsc_field (f : Esc → Esc) : (d.modEsc f).field = d.field := rfl
@[simp] theorem modEsc_loops (f : Esc → Esc) : (d.modEsc f).loops = d.loops := rfl
@[simp] theorem modEsc_safe (f : Esc → Esc) : (d.modEsc f).safe = d.safe := rfl
@[simp] theorem modEsc_can (f : Esc → Esc) : (d.modEsc f).can = d.can := rfl
@[simp] theorem modEsc_svc (f : Esc → Esc) : (d.modEsc f).svc = d.svc := rfl
@[simp] theorem modEsc_wlt (f : Esc → Esc) : (d.modEsc f).wlt = d.wlt := rfl
@[simp] theorem modEsc_checkN (f : Esc → Esc) : (d.modEsc f).checkN = d.checkN := rfl
@[simp] theorem modEsc_primes (f : Esc → Esc) : (d.modEsc f).primes = d.primes := rfl
@[simp] theorem modEsc_primeTasks (f : Esc → Esc) : (d.modEsc f).primeTasks = d.primeTasks := rfl
@[simp] theorem modEsc_tbStopped (f : Esc → Esc) : (d.modEsc f).tbStopped = d.tbStopped := rfl
@[simp] theorem modEsc_moverDirty (f : Esc → Esc) : (d.modEsc f).moverDirty = d.moverDirty := rfl
@[simp] theorem modEsc_beatCnt (f : Esc → Esc) : (d.modEsc f).beatCnt = d.beatCnt := rfl
@[simp] theorem modEsc_samplePend (f : Esc → Esc) : (d.modEsc f).samplePend = d.samplePend := rfl
@[simp] theorem modEsc_sampleCnt (f : Esc → Esc) : (d.modEsc f).sampleCnt = d.sampleCnt := rfl
@[simp] theorem modEsc_bwTx (f : Esc → Esc) : (d.modEsc f).bwTx = d.bwTx := rfl
@[simp] theorem modEsc_bwRx (f : Esc → Esc) : (d.modEsc f).bwRx = d.bwRx := rfl

@[simp] theorem modEsc_esc (f : Esc → Esc) : (d.modEsc f).esc = f d.esc := rfl
@[simp] theorem modEsc_rget (f : Esc → Esc) (a : Nat) : (d.modEsc f).rget a = d.rget a := rfl
@[simp] theorem modEsc_rnat (f : Esc → Esc) (a : Nat) : (d.modEsc f).rnat a = d.rnat a := rfl
@[simp] theorem modEsc_fget (f : Esc → Esc) (a : Fld) : (d.modEsc f).fget a = d.fget a := rfl
@[simp] theorem modEsc_fbit (f : Esc → Esc) (a : Fld) : (d.modEsc f).fbit a = d.fbit a := rfl

/-! ### modSvc changes `svc` alone -/

@[simp] theorem modSvc_st (f : Svc → Svc) : (d.modSvc f).st = d.st := rfl
@[simp] theorem modSvc_held (f : Svc → Svc) : (d.modSvc f).held = d.held := rfl
@[simp] theorem modSvc_tb (f : Svc → Svc) : (d.modSvc f).tb = d.tb := rfl
@[simp] theorem modSvc_regs (f : Svc → Svc) : (d.modSvc f).regs = d.regs := rfl
@[simp] theorem modSvc_locks (f : Svc → Svc) : (d.modSvc f).locks = d.locks := rfl
@[simp] theorem modSvc_latches (f : Svc → Svc) : (d.modSvc f).latches = d.latches := rfl
@[simp] theorem modSvc_slotSnap (f : Svc → Svc) : (d.modSvc f).slotSnap = d.slotSnap := rfl
@[simp] theorem modSvc_free (f : Svc → Svc) : (d.modSvc f).free = d.free := rfl
@[simp] theorem modSvc_sent (f : Svc → Svc) : (d.modSvc f).sent = d.sent := rfl
@[simp] theorem modSvc_settings (f : Svc → Svc) : (d.modSvc f).settings = d.settings := rfl
@[simp] theorem modSvc_keyHash (f : Svc → Svc) : (d.modSvc f).keyHash = d.keyHash := rfl
@[simp] theorem modSvc_keyRevoked (f : Svc → Svc) : (d.modSvc f).keyRevoked = d.keyRevoked := rfl
@[simp] theorem modSvc_factory (f : Svc → Svc) : (d.modSvc f).factory = d.factory := rfl
@[simp] theorem modSvc_esc (f : Svc → Svc) : (d.modSvc f).esc = d.esc := rfl
@[simp] theorem modSvc_mov (f : Svc → Svc) : (d.modSvc f).mov = d.mov := rfl
@[simp] theorem modSvc_slots (f : Svc → Svc) : (d.modSvc f).slots = d.slots := rfl
@[simp] theorem modSvc_rcd (f : Svc → Svc) : (d.modSvc f).rcd = d.rcd := rfl
@[simp] theorem modSvc_wdg (f : Svc → Svc) : (d.modSvc f).wdg = d.wdg := rfl
@[simp] theorem modSvc_hst (f : Svc → Svc) : (d.modSvc f).hst = d.hst := rfl
@[simp] theorem modSvc_watch (f : Svc → Svc) : (d.modSvc f).watch = d.watch := rfl
@[simp] theorem modSvc_unwatched (f : Svc → Svc) : (d.modSvc f).unwatched = d.unwatched := rfl
@[simp] theorem modSvc_nv (f : Svc → Svc) : (d.modSvc f).nv = d.nv := rfl
@[simp] theorem modSvc_keep (f : Svc → Svc) : (d.modSvc f).keep = d.keep := rfl
@[simp] theorem modSvc_isl (f : Svc → Svc) : (d.modSvc f).isl = d.isl := rfl
@[simp] theorem modSvc_gt (f : Svc → Svc) : (d.modSvc f).gt = d.gt := rfl
@[simp] theorem modSvc_lac (f : Svc → Svc) : (d.modSvc f).lac = d.lac := rfl
@[simp] theorem modSvc_field (f : Svc → Svc) : (d.modSvc f).field = d.field := rfl
@[simp] theorem modSvc_loops (f : Svc → Svc) : (d.modSvc f).loops = d.loops := rfl
@[simp] theorem modSvc_safe (f : Svc → Svc) : (d.modSvc f).safe = d.safe := rfl
@[simp] theorem modSvc_can (f : Svc → Svc) : (d.modSvc f).can = d.can := rfl
@[simp] theorem modSvc_wlt (f : Svc → Svc) : (d.modSvc f).wlt = d.wlt := rfl
@[simp] theorem modSvc_checkN (f : Svc → Svc) : (d.modSvc f).checkN = d.checkN := rfl
@[simp] theorem modSvc_primes (f : Svc → Svc) : (d.modSvc f).primes = d.primes := rfl
@[simp] theorem modSvc_primeTasks (f : Svc → Svc) : (d.modSvc f).primeTasks = d.primeTasks := rfl
@[simp] theorem modSvc_tbStopped (f : Svc → Svc) : (d.modSvc f).tbStopped = d.tbStopped := rfl
@[simp] theorem modSvc_moverDirty (f : Svc → Svc) : (d.modSvc f).moverDirty = d.moverDirty := rfl
@[simp] theorem modSvc_beatCnt (f : Svc → Svc) : (d.modSvc f).beatCnt = d.beatCnt := rfl
@[simp] theorem modSvc_samplePend (f : Svc → Svc) : (d.modSvc f).samplePend = d.samplePend := rfl
@[simp] theorem modSvc_sampleCnt (f : Svc → Svc) : (d.modSvc f).sampleCnt = d.sampleCnt := rfl
@[simp] theorem modSvc_bwTx (f : Svc → Svc) : (d.modSvc f).bwTx = d.bwTx := rfl
@[simp] theorem modSvc_bwRx (f : Svc → Svc) : (d.modSvc f).bwRx = d.bwRx := rfl

@[simp] theorem modSvc_svc (f : Svc → Svc) : (d.modSvc f).svc = f d.svc := rfl
@[simp] theorem modSvc_rget (f : Svc → Svc) (a : Nat) : (d.modSvc f).rget a = d.rget a := rfl
@[simp] theorem modSvc_rnat (f : Svc → Svc) (a : Nat) : (d.modSvc f).rnat a = d.rnat a := rfl
@[simp] theorem modSvc_fget (f : Svc → Svc) (a : Fld) : (d.modSvc f).fget a = d.fget a := rfl
@[simp] theorem modSvc_fbit (f : Svc → Svc) (a : Fld) : (d.modSvc f).fbit a = d.fbit a := rfl

/-! ### modField changes `field` alone -/

@[simp] theorem modField_st (f : FieldSt → FieldSt) : (d.modField f).st = d.st := rfl
@[simp] theorem modField_held (f : FieldSt → FieldSt) : (d.modField f).held = d.held := rfl
@[simp] theorem modField_tb (f : FieldSt → FieldSt) : (d.modField f).tb = d.tb := rfl
@[simp] theorem modField_regs (f : FieldSt → FieldSt) : (d.modField f).regs = d.regs := rfl
@[simp] theorem modField_locks (f : FieldSt → FieldSt) : (d.modField f).locks = d.locks := rfl
@[simp] theorem modField_latches (f : FieldSt → FieldSt) : (d.modField f).latches = d.latches := rfl
@[simp] theorem modField_slotSnap (f : FieldSt → FieldSt) : (d.modField f).slotSnap = d.slotSnap := rfl
@[simp] theorem modField_free (f : FieldSt → FieldSt) : (d.modField f).free = d.free := rfl
@[simp] theorem modField_sent (f : FieldSt → FieldSt) : (d.modField f).sent = d.sent := rfl
@[simp] theorem modField_settings (f : FieldSt → FieldSt) : (d.modField f).settings = d.settings := rfl
@[simp] theorem modField_keyHash (f : FieldSt → FieldSt) : (d.modField f).keyHash = d.keyHash := rfl
@[simp] theorem modField_keyRevoked (f : FieldSt → FieldSt) : (d.modField f).keyRevoked = d.keyRevoked := rfl
@[simp] theorem modField_factory (f : FieldSt → FieldSt) : (d.modField f).factory = d.factory := rfl
@[simp] theorem modField_esc (f : FieldSt → FieldSt) : (d.modField f).esc = d.esc := rfl
@[simp] theorem modField_mov (f : FieldSt → FieldSt) : (d.modField f).mov = d.mov := rfl
@[simp] theorem modField_slots (f : FieldSt → FieldSt) : (d.modField f).slots = d.slots := rfl
@[simp] theorem modField_rcd (f : FieldSt → FieldSt) : (d.modField f).rcd = d.rcd := rfl
@[simp] theorem modField_wdg (f : FieldSt → FieldSt) : (d.modField f).wdg = d.wdg := rfl
@[simp] theorem modField_hst (f : FieldSt → FieldSt) : (d.modField f).hst = d.hst := rfl
@[simp] theorem modField_watch (f : FieldSt → FieldSt) : (d.modField f).watch = d.watch := rfl
@[simp] theorem modField_unwatched (f : FieldSt → FieldSt) : (d.modField f).unwatched = d.unwatched := rfl
@[simp] theorem modField_nv (f : FieldSt → FieldSt) : (d.modField f).nv = d.nv := rfl
@[simp] theorem modField_keep (f : FieldSt → FieldSt) : (d.modField f).keep = d.keep := rfl
@[simp] theorem modField_isl (f : FieldSt → FieldSt) : (d.modField f).isl = d.isl := rfl
@[simp] theorem modField_gt (f : FieldSt → FieldSt) : (d.modField f).gt = d.gt := rfl
@[simp] theorem modField_lac (f : FieldSt → FieldSt) : (d.modField f).lac = d.lac := rfl
@[simp] theorem modField_loops (f : FieldSt → FieldSt) : (d.modField f).loops = d.loops := rfl
@[simp] theorem modField_safe (f : FieldSt → FieldSt) : (d.modField f).safe = d.safe := rfl
@[simp] theorem modField_can (f : FieldSt → FieldSt) : (d.modField f).can = d.can := rfl
@[simp] theorem modField_svc (f : FieldSt → FieldSt) : (d.modField f).svc = d.svc := rfl
@[simp] theorem modField_wlt (f : FieldSt → FieldSt) : (d.modField f).wlt = d.wlt := rfl
@[simp] theorem modField_checkN (f : FieldSt → FieldSt) : (d.modField f).checkN = d.checkN := rfl
@[simp] theorem modField_primes (f : FieldSt → FieldSt) : (d.modField f).primes = d.primes := rfl
@[simp] theorem modField_primeTasks (f : FieldSt → FieldSt) : (d.modField f).primeTasks = d.primeTasks := rfl
@[simp] theorem modField_tbStopped (f : FieldSt → FieldSt) : (d.modField f).tbStopped = d.tbStopped := rfl
@[simp] theorem modField_moverDirty (f : FieldSt → FieldSt) : (d.modField f).moverDirty = d.moverDirty := rfl
@[simp] theorem modField_beatCnt (f : FieldSt → FieldSt) : (d.modField f).beatCnt = d.beatCnt := rfl
@[simp] theorem modField_samplePend (f : FieldSt → FieldSt) : (d.modField f).samplePend = d.samplePend := rfl
@[simp] theorem modField_sampleCnt (f : FieldSt → FieldSt) : (d.modField f).sampleCnt = d.sampleCnt := rfl
@[simp] theorem modField_bwTx (f : FieldSt → FieldSt) : (d.modField f).bwTx = d.bwTx := rfl
@[simp] theorem modField_bwRx (f : FieldSt → FieldSt) : (d.modField f).bwRx = d.bwRx := rfl

@[simp] theorem modField_field (f : FieldSt → FieldSt) : (d.modField f).field = f d.field := rfl
@[simp] theorem modField_rget (f : FieldSt → FieldSt) (a : Nat) : (d.modField f).rget a = d.rget a := rfl
@[simp] theorem modField_rnat (f : FieldSt → FieldSt) (a : Nat) : (d.modField f).rnat a = d.rnat a := rfl
@[simp] theorem modField_fget (f : FieldSt → FieldSt) (a : Fld) : (d.modField f).fget a = d.fget a := rfl
@[simp] theorem modField_fbit (f : FieldSt → FieldSt) (a : Fld) : (d.modField f).fbit a = d.fbit a := rfl

/-! ### modWlt changes `wlt` alone -/

@[simp] theorem modWlt_st (f : Wlt → Wlt) : (d.modWlt f).st = d.st := rfl
@[simp] theorem modWlt_held (f : Wlt → Wlt) : (d.modWlt f).held = d.held := rfl
@[simp] theorem modWlt_tb (f : Wlt → Wlt) : (d.modWlt f).tb = d.tb := rfl
@[simp] theorem modWlt_regs (f : Wlt → Wlt) : (d.modWlt f).regs = d.regs := rfl
@[simp] theorem modWlt_locks (f : Wlt → Wlt) : (d.modWlt f).locks = d.locks := rfl
@[simp] theorem modWlt_latches (f : Wlt → Wlt) : (d.modWlt f).latches = d.latches := rfl
@[simp] theorem modWlt_slotSnap (f : Wlt → Wlt) : (d.modWlt f).slotSnap = d.slotSnap := rfl
@[simp] theorem modWlt_free (f : Wlt → Wlt) : (d.modWlt f).free = d.free := rfl
@[simp] theorem modWlt_sent (f : Wlt → Wlt) : (d.modWlt f).sent = d.sent := rfl
@[simp] theorem modWlt_settings (f : Wlt → Wlt) : (d.modWlt f).settings = d.settings := rfl
@[simp] theorem modWlt_keyHash (f : Wlt → Wlt) : (d.modWlt f).keyHash = d.keyHash := rfl
@[simp] theorem modWlt_keyRevoked (f : Wlt → Wlt) : (d.modWlt f).keyRevoked = d.keyRevoked := rfl
@[simp] theorem modWlt_factory (f : Wlt → Wlt) : (d.modWlt f).factory = d.factory := rfl
@[simp] theorem modWlt_esc (f : Wlt → Wlt) : (d.modWlt f).esc = d.esc := rfl
@[simp] theorem modWlt_mov (f : Wlt → Wlt) : (d.modWlt f).mov = d.mov := rfl
@[simp] theorem modWlt_slots (f : Wlt → Wlt) : (d.modWlt f).slots = d.slots := rfl
@[simp] theorem modWlt_rcd (f : Wlt → Wlt) : (d.modWlt f).rcd = d.rcd := rfl
@[simp] theorem modWlt_wdg (f : Wlt → Wlt) : (d.modWlt f).wdg = d.wdg := rfl
@[simp] theorem modWlt_hst (f : Wlt → Wlt) : (d.modWlt f).hst = d.hst := rfl
@[simp] theorem modWlt_watch (f : Wlt → Wlt) : (d.modWlt f).watch = d.watch := rfl
@[simp] theorem modWlt_unwatched (f : Wlt → Wlt) : (d.modWlt f).unwatched = d.unwatched := rfl
@[simp] theorem modWlt_nv (f : Wlt → Wlt) : (d.modWlt f).nv = d.nv := rfl
@[simp] theorem modWlt_keep (f : Wlt → Wlt) : (d.modWlt f).keep = d.keep := rfl
@[simp] theorem modWlt_isl (f : Wlt → Wlt) : (d.modWlt f).isl = d.isl := rfl
@[simp] theorem modWlt_gt (f : Wlt → Wlt) : (d.modWlt f).gt = d.gt := rfl
@[simp] theorem modWlt_lac (f : Wlt → Wlt) : (d.modWlt f).lac = d.lac := rfl
@[simp] theorem modWlt_field (f : Wlt → Wlt) : (d.modWlt f).field = d.field := rfl
@[simp] theorem modWlt_loops (f : Wlt → Wlt) : (d.modWlt f).loops = d.loops := rfl
@[simp] theorem modWlt_safe (f : Wlt → Wlt) : (d.modWlt f).safe = d.safe := rfl
@[simp] theorem modWlt_can (f : Wlt → Wlt) : (d.modWlt f).can = d.can := rfl
@[simp] theorem modWlt_svc (f : Wlt → Wlt) : (d.modWlt f).svc = d.svc := rfl
@[simp] theorem modWlt_checkN (f : Wlt → Wlt) : (d.modWlt f).checkN = d.checkN := rfl
@[simp] theorem modWlt_primes (f : Wlt → Wlt) : (d.modWlt f).primes = d.primes := rfl
@[simp] theorem modWlt_primeTasks (f : Wlt → Wlt) : (d.modWlt f).primeTasks = d.primeTasks := rfl
@[simp] theorem modWlt_tbStopped (f : Wlt → Wlt) : (d.modWlt f).tbStopped = d.tbStopped := rfl
@[simp] theorem modWlt_moverDirty (f : Wlt → Wlt) : (d.modWlt f).moverDirty = d.moverDirty := rfl
@[simp] theorem modWlt_beatCnt (f : Wlt → Wlt) : (d.modWlt f).beatCnt = d.beatCnt := rfl
@[simp] theorem modWlt_samplePend (f : Wlt → Wlt) : (d.modWlt f).samplePend = d.samplePend := rfl
@[simp] theorem modWlt_sampleCnt (f : Wlt → Wlt) : (d.modWlt f).sampleCnt = d.sampleCnt := rfl
@[simp] theorem modWlt_bwTx (f : Wlt → Wlt) : (d.modWlt f).bwTx = d.bwTx := rfl
@[simp] theorem modWlt_bwRx (f : Wlt → Wlt) : (d.modWlt f).bwRx = d.bwRx := rfl

@[simp] theorem modWlt_wlt (f : Wlt → Wlt) : (d.modWlt f).wlt = f d.wlt := rfl
@[simp] theorem modWlt_rget (f : Wlt → Wlt) (a : Nat) : (d.modWlt f).rget a = d.rget a := rfl
@[simp] theorem modWlt_rnat (f : Wlt → Wlt) (a : Nat) : (d.modWlt f).rnat a = d.rnat a := rfl
@[simp] theorem modWlt_fget (f : Wlt → Wlt) (a : Fld) : (d.modWlt f).fget a = d.fget a := rfl
@[simp] theorem modWlt_fbit (f : Wlt → Wlt) (a : Fld) : (d.modWlt f).fbit a = d.fbit a := rfl

/-! ### modSafe changes `safe` alone -/

@[simp] theorem modSafe_st (f : SafeSt → SafeSt) : (d.modSafe f).st = d.st := rfl
@[simp] theorem modSafe_held (f : SafeSt → SafeSt) : (d.modSafe f).held = d.held := rfl
@[simp] theorem modSafe_tb (f : SafeSt → SafeSt) : (d.modSafe f).tb = d.tb := rfl
@[simp] theorem modSafe_regs (f : SafeSt → SafeSt) : (d.modSafe f).regs = d.regs := rfl
@[simp] theorem modSafe_locks (f : SafeSt → SafeSt) : (d.modSafe f).locks = d.locks := rfl
@[simp] theorem modSafe_latches (f : SafeSt → SafeSt) : (d.modSafe f).latches = d.latches := rfl
@[simp] theorem modSafe_slotSnap (f : SafeSt → SafeSt) : (d.modSafe f).slotSnap = d.slotSnap := rfl
@[simp] theorem modSafe_free (f : SafeSt → SafeSt) : (d.modSafe f).free = d.free := rfl
@[simp] theorem modSafe_sent (f : SafeSt → SafeSt) : (d.modSafe f).sent = d.sent := rfl
@[simp] theorem modSafe_settings (f : SafeSt → SafeSt) : (d.modSafe f).settings = d.settings := rfl
@[simp] theorem modSafe_keyHash (f : SafeSt → SafeSt) : (d.modSafe f).keyHash = d.keyHash := rfl
@[simp] theorem modSafe_keyRevoked (f : SafeSt → SafeSt) : (d.modSafe f).keyRevoked = d.keyRevoked := rfl
@[simp] theorem modSafe_factory (f : SafeSt → SafeSt) : (d.modSafe f).factory = d.factory := rfl
@[simp] theorem modSafe_esc (f : SafeSt → SafeSt) : (d.modSafe f).esc = d.esc := rfl
@[simp] theorem modSafe_mov (f : SafeSt → SafeSt) : (d.modSafe f).mov = d.mov := rfl
@[simp] theorem modSafe_slots (f : SafeSt → SafeSt) : (d.modSafe f).slots = d.slots := rfl
@[simp] theorem modSafe_rcd (f : SafeSt → SafeSt) : (d.modSafe f).rcd = d.rcd := rfl
@[simp] theorem modSafe_wdg (f : SafeSt → SafeSt) : (d.modSafe f).wdg = d.wdg := rfl
@[simp] theorem modSafe_hst (f : SafeSt → SafeSt) : (d.modSafe f).hst = d.hst := rfl
@[simp] theorem modSafe_watch (f : SafeSt → SafeSt) : (d.modSafe f).watch = d.watch := rfl
@[simp] theorem modSafe_unwatched (f : SafeSt → SafeSt) : (d.modSafe f).unwatched = d.unwatched := rfl
@[simp] theorem modSafe_nv (f : SafeSt → SafeSt) : (d.modSafe f).nv = d.nv := rfl
@[simp] theorem modSafe_keep (f : SafeSt → SafeSt) : (d.modSafe f).keep = d.keep := rfl
@[simp] theorem modSafe_isl (f : SafeSt → SafeSt) : (d.modSafe f).isl = d.isl := rfl
@[simp] theorem modSafe_gt (f : SafeSt → SafeSt) : (d.modSafe f).gt = d.gt := rfl
@[simp] theorem modSafe_lac (f : SafeSt → SafeSt) : (d.modSafe f).lac = d.lac := rfl
@[simp] theorem modSafe_field (f : SafeSt → SafeSt) : (d.modSafe f).field = d.field := rfl
@[simp] theorem modSafe_loops (f : SafeSt → SafeSt) : (d.modSafe f).loops = d.loops := rfl
@[simp] theorem modSafe_can (f : SafeSt → SafeSt) : (d.modSafe f).can = d.can := rfl
@[simp] theorem modSafe_svc (f : SafeSt → SafeSt) : (d.modSafe f).svc = d.svc := rfl
@[simp] theorem modSafe_wlt (f : SafeSt → SafeSt) : (d.modSafe f).wlt = d.wlt := rfl
@[simp] theorem modSafe_checkN (f : SafeSt → SafeSt) : (d.modSafe f).checkN = d.checkN := rfl
@[simp] theorem modSafe_primes (f : SafeSt → SafeSt) : (d.modSafe f).primes = d.primes := rfl
@[simp] theorem modSafe_primeTasks (f : SafeSt → SafeSt) : (d.modSafe f).primeTasks = d.primeTasks := rfl
@[simp] theorem modSafe_tbStopped (f : SafeSt → SafeSt) : (d.modSafe f).tbStopped = d.tbStopped := rfl
@[simp] theorem modSafe_moverDirty (f : SafeSt → SafeSt) : (d.modSafe f).moverDirty = d.moverDirty := rfl
@[simp] theorem modSafe_beatCnt (f : SafeSt → SafeSt) : (d.modSafe f).beatCnt = d.beatCnt := rfl
@[simp] theorem modSafe_samplePend (f : SafeSt → SafeSt) : (d.modSafe f).samplePend = d.samplePend := rfl
@[simp] theorem modSafe_sampleCnt (f : SafeSt → SafeSt) : (d.modSafe f).sampleCnt = d.sampleCnt := rfl
@[simp] theorem modSafe_bwTx (f : SafeSt → SafeSt) : (d.modSafe f).bwTx = d.bwTx := rfl
@[simp] theorem modSafe_bwRx (f : SafeSt → SafeSt) : (d.modSafe f).bwRx = d.bwRx := rfl

@[simp] theorem modSafe_safe (f : SafeSt → SafeSt) : (d.modSafe f).safe = f d.safe := rfl
@[simp] theorem modSafe_rget (f : SafeSt → SafeSt) (a : Nat) : (d.modSafe f).rget a = d.rget a := rfl
@[simp] theorem modSafe_rnat (f : SafeSt → SafeSt) (a : Nat) : (d.modSafe f).rnat a = d.rnat a := rfl
@[simp] theorem modSafe_fget (f : SafeSt → SafeSt) (a : Fld) : (d.modSafe f).fget a = d.fget a := rfl
@[simp] theorem modSafe_fbit (f : SafeSt → SafeSt) (a : Fld) : (d.modSafe f).fbit a = d.fbit a := rfl

/-! ### setTask changes the tasks alone -/

@[simp] theorem setTask_st (n : Nat) (t : Task) : (d.setTask n t).st = d.st := rfl
@[simp] theorem setTask_held (n : Nat) (t : Task) : (d.setTask n t).held = d.held := rfl
@[simp] theorem setTask_tb (n : Nat) (t : Task) : (d.setTask n t).tb = d.tb := rfl
@[simp] theorem setTask_regs (n : Nat) (t : Task) : (d.setTask n t).regs = d.regs := rfl
@[simp] theorem setTask_locks (n : Nat) (t : Task) : (d.setTask n t).locks = d.locks := rfl
@[simp] theorem setTask_latches (n : Nat) (t : Task) : (d.setTask n t).latches = d.latches := rfl
@[simp] theorem setTask_slotSnap (n : Nat) (t : Task) : (d.setTask n t).slotSnap = d.slotSnap := rfl
@[simp] theorem setTask_free (n : Nat) (t : Task) : (d.setTask n t).free = d.free := rfl
@[simp] theorem setTask_sent (n : Nat) (t : Task) : (d.setTask n t).sent = d.sent := rfl
@[simp] theorem setTask_settings (n : Nat) (t : Task) : (d.setTask n t).settings = d.settings := rfl
@[simp] theorem setTask_keyHash (n : Nat) (t : Task) : (d.setTask n t).keyHash = d.keyHash := rfl
@[simp] theorem setTask_keyRevoked (n : Nat) (t : Task) : (d.setTask n t).keyRevoked = d.keyRevoked := rfl
@[simp] theorem setTask_factory (n : Nat) (t : Task) : (d.setTask n t).factory = d.factory := rfl
@[simp] theorem setTask_mov (n : Nat) (t : Task) : (d.setTask n t).mov = d.mov := rfl
@[simp] theorem setTask_slots (n : Nat) (t : Task) : (d.setTask n t).slots = d.slots := rfl
@[simp] theorem setTask_rcd (n : Nat) (t : Task) : (d.setTask n t).rcd = d.rcd := rfl
@[simp] theorem setTask_wdg (n : Nat) (t : Task) : (d.setTask n t).wdg = d.wdg := rfl
@[simp] theorem setTask_hst (n : Nat) (t : Task) : (d.setTask n t).hst = d.hst := rfl
@[simp] theorem setTask_watch (n : Nat) (t : Task) : (d.setTask n t).watch = d.watch := rfl
@[simp] theorem setTask_unwatched (n : Nat) (t : Task) : (d.setTask n t).unwatched = d.unwatched := rfl
@[simp] theorem setTask_nv (n : Nat) (t : Task) : (d.setTask n t).nv = d.nv := rfl
@[simp] theorem setTask_keep (n : Nat) (t : Task) : (d.setTask n t).keep = d.keep := rfl
@[simp] theorem setTask_isl (n : Nat) (t : Task) : (d.setTask n t).isl = d.isl := rfl
@[simp] theorem setTask_gt (n : Nat) (t : Task) : (d.setTask n t).gt = d.gt := rfl
@[simp] theorem setTask_lac (n : Nat) (t : Task) : (d.setTask n t).lac = d.lac := rfl
@[simp] theorem setTask_field (n : Nat) (t : Task) : (d.setTask n t).field = d.field := rfl
@[simp] theorem setTask_loops (n : Nat) (t : Task) : (d.setTask n t).loops = d.loops := rfl
@[simp] theorem setTask_safe (n : Nat) (t : Task) : (d.setTask n t).safe = d.safe := rfl
@[simp] theorem setTask_can (n : Nat) (t : Task) : (d.setTask n t).can = d.can := rfl
@[simp] theorem setTask_svc (n : Nat) (t : Task) : (d.setTask n t).svc = d.svc := rfl
@[simp] theorem setTask_wlt (n : Nat) (t : Task) : (d.setTask n t).wlt = d.wlt := rfl
@[simp] theorem setTask_checkN (n : Nat) (t : Task) : (d.setTask n t).checkN = d.checkN := rfl
@[simp] theorem setTask_primes (n : Nat) (t : Task) : (d.setTask n t).primes = d.primes := rfl
@[simp] theorem setTask_primeTasks (n : Nat) (t : Task) : (d.setTask n t).primeTasks = d.primeTasks := rfl
@[simp] theorem setTask_tbStopped (n : Nat) (t : Task) : (d.setTask n t).tbStopped = d.tbStopped := rfl
@[simp] theorem setTask_moverDirty (n : Nat) (t : Task) : (d.setTask n t).moverDirty = d.moverDirty := rfl
@[simp] theorem setTask_beatCnt (n : Nat) (t : Task) : (d.setTask n t).beatCnt = d.beatCnt := rfl
@[simp] theorem setTask_samplePend (n : Nat) (t : Task) : (d.setTask n t).samplePend = d.samplePend := rfl
@[simp] theorem setTask_sampleCnt (n : Nat) (t : Task) : (d.setTask n t).sampleCnt = d.sampleCnt := rfl
@[simp] theorem setTask_bwTx (n : Nat) (t : Task) : (d.setTask n t).bwTx = d.bwTx := rfl
@[simp] theorem setTask_bwRx (n : Nat) (t : Task) : (d.setTask n t).bwRx = d.bwRx := rfl

@[simp] theorem setTask_rget (n : Nat) (t : Task) (a : Nat) : (d.setTask n t).rget a = d.rget a := rfl
@[simp] theorem setTask_rnat (n : Nat) (t : Task) (a : Nat) : (d.setTask n t).rnat a = d.rnat a := rfl
@[simp] theorem setTask_fget (n : Nat) (t : Task) (a : Fld) : (d.setTask n t).fget a = d.fget a := rfl
@[simp] theorem setTask_fbit (n : Nat) (t : Task) (a : Fld) : (d.setTask n t).fbit a = d.fbit a := rfl

end Dev

namespace Core

variable (c : Core)

@[simp] theorem onDev_mem (f : Dev → Dev) : (c.onDev f).mem = c.mem := rfl
@[simp] theorem onDev_dev (f : Dev → Dev) : (c.onDev f).dev = f c.dev := rfl
@[simp] theorem modKeep_mem (f : Keep → Keep) : (c.modKeep f).mem = c.mem := rfl
@[simp] theorem modKeep_keep (f : Keep → Keep) : (c.modKeep f).dev.keep = f c.dev.keep := rfl
@[simp] theorem setHalf_mem (h : Nat) (x : HalfRec) : (c.setHalf h x).mem = c.mem := rfl
@[simp] theorem setRun_mem (t : Nat) (r : Option Run) : (c.setRun t r).mem = c.mem := rfl

end Core

namespace Mem

variable (m : Mem)

@[simp] theorem setErrs_cells (g : Nat) (es : List (Nat × Byte)) : (m.setErrs g es).cells = m.cells := rfl
@[simp] theorem setErrs_poison (g : Nat) (es : List (Nat × Byte)) : (m.setErrs g es).poison = m.poison := rfl

end Mem

end Sys2Proof.Machine
end

