-- ==== Sys2Proof/Laws/Ops.lean ====
section
/-! SUPPORT. What noting something can do: counting a TALLY event, raising an event, entering a recorder occurrence and
counting a check failure change the registers, the recorder's queue, what has been sent and two counters, and of the
registers only those of RECORDER, TALLY and the pending MSI-X bits, beside the event or count itself. -/

namespace Sys2Proof.Machine

/-- A fold keeps what each of its steps keeps. -/
theorem foldl_keeps {α β γ : Type} (g : β → γ) (f : β → α → β) (h : ∀ b a, g (f b a) = g b) (l : List α) (b : β) :
    g (l.foldl f b) = g b := by
  induction l generalizing b with
  | nil => rfl
  | cons a l ih => rw [List.foldl_cons, ih, h]

namespace Dev

/-- The device without its registers, the recorder's state, what it has sent, a pending sample and the count of check
failures. -/
def rest (d : Dev) : Dev := { d with regs := [], rcd := {}, sent := [], samplePend := 0, checkN := 0 }

/-- Two devices of one `rest` agree in every other field. -/
theorem of_rest {α : Type} (g : Dev → α) (hg : ∀ d, g (rest d) = g d) {d e : Dev} (h : rest d = rest e) : g d = g e := by
  rw [← hg d, ← hg e, h]

/-- A register that noting leaves alone: none of RECORDER, of TALLY, and not HST_PBA. -/
abbrev quiet (a : Nat) : Prop := a / 0x10000 ≠ 0xC ∧ a / 0x10000 ≠ 0xD ∧ a ≠ A.HST_PBA

@[simp] theorem rest_rset (d : Dev) (a : Nat) (w : Word) : rest (d.rset a w) = rest d := rfl
@[simp] theorem rest_rsetN (d : Dev) (a n : Nat) : rest (d.rsetN a n) = rest d := rfl
@[simp] theorem rest_fset (d : Dev) (f : Fld) (v : Nat) : rest (d.fset f v) = rest d := rfl
@[simp] theorem rest_fput (d : Dev) (f : Fld) (b : Bool) : rest (d.fput f b) = rest d := rfl
@[simp] theorem rest_finc (d : Dev) (f : Fld) (n : Nat) : rest (d.finc f n) = rest d := rfl
@[simp] theorem rest_fsticky (d : Dev) (f : Fld) (v : Nat) : rest (d.fsticky f v) = rest d := by
  unfold fsticky; split <;> rfl

/-! ### TALLY -/

@[simp] theorem rest_inc48 (d : Dev) (lo hi n : Nat) : rest (d.inc48 lo hi n).1 = rest d := by
  unfold inc48; dsimp only; rw [rest_rsetN, rest_rsetN]

theorem rget_inc48 (d : Dev) {lo hi a : Nat} (n : Nat) (h1 : a ≠ lo) (h2 : a ≠ hi) :
    (d.inc48 lo hi n).1.rget a = d.rget a := by
  unfold inc48
  dsimp only
  rw [rget_rsetN_ne _ h2, rget_rsetN_ne _ h1]

@[simp] theorem rest_incLocal (d : Dev) (b i n : Nat) : rest (d.incLocal b i n) = rest d := by
  unfold incLocal; dsimp only; split
  · rw [rest_fput, rest_rsetN, rest_inc48]
  · exact rest_inc48 ..

/-- A local counter stands in TALLY's page. -/
theorem rget_incLocal (d : Dev) {b i a : Nat} (n : Nat) (hb : b < 16) (hi : i < 4) (h : a / 0x10000 ≠ 0xD) :
    (d.incLocal b i n).rget a = d.rget a := by
  have h1 : a ≠ A.TAL_L_LO b i := by intro e; apply h; rw [e]; unfold A.TAL_L_LO; omega
  have h2 : a ≠ A.TAL_L_HI b i := by intro e; apply h; rw [e]; unfold A.TAL_L_HI; omega
  have h3 : a ≠ A.TAL_OVF_LO := by intro e; exact h (by rw [e]; rfl)
  have h4 : a ≠ A.TAL_OVF_HI := by intro e; exact h (by rw [e]; rfl)
  have h5 : a ≠ (F.TAL_EVT_OVF).addr := by intro e; exact h (by rw [e]; rfl)
  unfold incLocal
  dsimp only
  split
  · unfold fput
    rw [rget_fset_ne _ h5]
    split
    · rw [rget_rsetN_ne _ h3, rget_inc48 _ _ h1 h2]
    · rw [rget_rsetN_ne _ h4, rget_inc48 _ _ h1 h2]
  · exact rget_inc48 _ _ h1 h2

@[simp] theorem rest_incProg (d : Dev) (ev n : Nat) : rest (d.incProg ev n) = rest d := by
  unfold incProg
  refine foldl_keeps rest _ (fun b k => ?_) _ _
  dsimp only
  split
  · split
    · rw [rest_fput, rest_rsetN, rest_inc48]
    · exact rest_inc48 ..
  · rfl

/-- The programmable counters stand in TALLY's page. -/
theorem rget_incProg (d : Dev) {a : Nat} (ev n : Nat) (h : a / 0x10000 ≠ 0xD) :
    (d.incProg ev n).rget a = d.rget a := by
  unfold incProg
  have key : ∀ (l : List Nat), (∀ k ∈ l, k < 8) → ∀ d : Dev,
      (l.foldl (fun d k =>
        if d.fget (F.TAL_PSEL_EVENT k) = ev then
          let r := d.inc48 (A.TAL_PCNT_LO k) (A.TAL_PCNT_HI k) n
          if r.2 then (r.1.rsetN A.TAL_OVF_P (r.1.rnat A.TAL_OVF_P ||| 2 ^ k)).fput F.TAL_EVT_OVF true else r.1
        else d) d).rget a = d.rget a := by
    intro l
    induction l with
    | nil => intro _ d; rfl
    | cons k l ih =>
      intro hk d
      have hk8 : k < 8 := hk k (List.mem_cons_self ..)
      have h1 : a ≠ A.TAL_PCNT_LO k := by intro e; apply h; rw [e]; unfold A.TAL_PCNT_LO; omega
      have h2 : a ≠ A.TAL_PCNT_HI k := by intro e; apply h; rw [e]; unfold A.TAL_PCNT_HI; omega
      have h3 : a ≠ A.TAL_OVF_P := by intro e; exact h (by rw [e]; rfl)
      have h5 : a ≠ (F.TAL_EVT_OVF).addr := by intro e; exact h (by rw [e]; rfl)
      rw [List.foldl_cons, ih (fun x hx => hk x (List.mem_cons_of_mem _ hx))]
      split
      · dsimp only
        split
        · unfold fput; rw [rget_fset_ne _ h5, rget_rsetN_ne _ h3, rget_inc48 _ _ h1 h2]
        · exact rget_inc48 _ _ h1 h2
      · rfl
  exact key _ (fun k hk => List.mem_range.mp hk) d

@[simp] theorem rest_countEvent (d : Dev) (ev n : Nat) : rest (d.countEvent ev n) = rest d := by
  unfold countEvent; rw [rest_incProg]; split
  · exact rest_incLocal ..
  · rfl

@[simp] theorem rest_markSample (d : Dev) (ev : Nat) : rest (d.markSample ev) = rest d := by
  unfold markSample; split
  · split <;> rfl
  · rfl

/-- Counting an event changes the registers and the pending samples alone. -/
@[simp] theorem rest_count (d : Dev) (ev n : Nat) : rest (d.count ev n) = rest d := by
  unfold count; dsimp only; split
  · rw [rest_markSample, rest_countEvent, rest_markSample, rest_countEvent]
  · rw [rest_markSample, rest_countEvent]

theorem rget_countEvent (d : Dev) {ev a : Nat} (n : Nat) (he : ev < 0x1000) (h : a / 0x10000 ≠ 0xD) :
    (d.countEvent ev n).rget a = d.rget a := by
  unfold countEvent
  rw [rget_incProg _ _ _ h]
  split
  · next hi => exact rget_incLocal _ _ (by omega) hi h
  · rfl

@[simp] theorem rget_markSample (d : Dev) (ev a : Nat) : (d.markSample ev).rget a = d.rget a := by
  unfold markSample; split
  · split <;> rfl
  · rfl

/-- Counting an event of a block changes no register outside TALLY. -/
theorem rget_count (d : Dev) {ev a : Nat} (n : Nat) (he : ev < 0x1000) (h : a / 0x10000 ≠ 0xD) :
    (d.count ev n).rget a = d.rget a := by
  unfold count; dsimp only; split
  · rw [rget_markSample, rget_countEvent _ _ (by decide) h, rget_markSample, rget_countEvent _ _ he h]
  · rw [rget_markSample, rget_countEvent _ _ he h]

/-! ### MSI-X and events -/

@[simp] theorem rest_msixSend (d : Dev) (v : Nat) : rest (d.msixSend v) = rest d := by
  unfold msixSend; dsimp only; rw [rest_count]; rfl

theorem rget_msixSend (d : Dev) {a : Nat} (v : Nat) (h : quiet a) : (d.msixSend v).rget a = d.rget a := by
  unfold msixSend; dsimp only; rw [rget_count _ _ (by decide) h.2.1]; rfl

@[simp] theorem rest_msixSignal (d : Dev) (v : Nat) : rest (d.msixSignal v) = rest d := by
  unfold msixSignal; split
  · rfl
  · split
    · exact rest_msixSend ..
    · exact rest_rsetN ..

theorem rget_msixSignal (d : Dev) {a : Nat} (v : Nat) (h : quiet a) : (d.msixSignal v).rget a = d.rget a := by
  unfold msixSignal; split
  · rfl
  · split
    · exact rget_msixSend _ _ h
    · exact rget_rsetN_ne _ h.2.2 _

@[simp] theorem rest_msixEdge (b d : Dev) (k : Nat) : rest (msixEdge b d k) = rest d := by
  unfold msixEdge; split <;> split
  · rfl
  · exact rest_rset ..
  · exact rest_msixSignal ..
  · rfl

theorem rget_msixEdge (b d : Dev) {a : Nat} (k : Nat) (h : quiet a) : (msixEdge b d k).rget a = d.rget a := by
  unfold msixEdge; split <;> split
  · rfl
  · exact rget_rset_ne _ h.2.2 _
  · exact rget_msixSignal _ _ h
  · rfl

/-- An event that occurs changes the registers, what has been sent and the pending samples alone. -/
@[simp] theorem rest_tally (d : Dev) (ev n : Nat) : rest (d.tally ev n) = rest d := by
  unfold tally; split
  · rw [rest_msixEdge, rest_count]
  · exact rest_count ..

/-- An event of a block that occurs changes no register outside TALLY and the pending messages. -/
theorem rget_tally (d : Dev) {ev a : Nat} (n : Nat) (he : ev < 0x1000) (h : quiet a) :
    (d.tally ev n).rget a = d.rget a := by
  unfold tally; split
  · rw [rget_msixEdge _ _ _ h, rget_count _ _ he h.2.1]
  · exact rget_count _ _ he h.2.1

/-- Raising an event changes the registers and what has been sent alone. -/
@[simp] theorem rest_raise (d : Dev) (f : Fld) : rest (d.raise f) = rest d := by
  unfold raise; rw [rest_msixEdge, rest_fput]

theorem rget_raise (d : Dev) {f : Fld} {a : Nat} (h : quiet a) (hf : a ≠ f.addr) : (d.raise f).rget a = d.rget a := by
  unfold raise fput; rw [rget_msixEdge _ _ _ h, rget_fset_ne _ hf]

theorem fget_raise (d : Dev) {f g : Fld} (h : quiet g.addr) (hf : g.addr ≠ f.addr) : (d.raise f).fget g = d.fget g := by
  rw [fget, fget, rnat, rnat, rget_raise d h hf]

/-- The raised event bit reads 1. -/
theorem fbit_raise (d : Dev) (f : Fld) (h : quiet f.addr) (hw : f.lo = f.hi ∧ f.hi < 32) :
    (d.raise f).fbit f = true := by
  unfold raise
  rw [fbit, fget, rnat, rget_msixEdge _ _ _ h, ← rnat, ← fget, ← fbit, fbit_fput_same d f hw]

/-! ### The recorder's ingress -/

@[simp] theorem rest_recLost (d : Dev) (src : Nat) : rest (d.recLost src) = rest d := by
  unfold recLost; dsimp only; rw [rest_tally, rest_raise, rest_finc]; rfl

theorem rget_recLost (d : Dev) {a : Nat} (src : Nat) (h : quiet a) : (d.recLost src).rget a = d.rget a := by
  have h1 : a ≠ (F.REC_LOST_LOST (src % 64)).addr := by
    intro e; apply h.1; rw [e]; unfold F.REC_LOST_LOST; dsimp only; omega
  have h2 : a ≠ (F.REC_EVT_LOST).addr := by intro e; exact h.1 (by rw [e]; rfl)
  unfold recLost finc
  dsimp only
  rw [rget_tally _ _ (by decide) h, rget_raise _ h h2, rget_fset_ne _ h1]
  rfl

/-- An entry enters the queue, displaces one, or is lost. -/
@[simp] theorem rest_recEnqueue (d : Dev) (e : RecEntry) : rest (d.recEnqueue e) = rest d := by
  unfold recEnqueue; dsimp only
  split
  · rfl
  · split
    · exact rest_recLost ..
    · split
      · exact rest_recLost ..
      · split
        · rw [rest_recLost]; rfl
        · exact rest_recLost ..

@[simp] theorem rest_occurFresh (d : Dev) (s c : Nat) (w : List Word) : rest (d.occurFresh s c w) = rest d := by
  unfold occurFresh; split
  · exact rest_finc ..
  · exact rest_recEnqueue ..

@[simp] theorem rest_occurQueued (d : Dev) (s c : Nat) (w : List Word) (i : Nat) (e : RecEntry) :
    rest (d.occurQueued s c w i e) = rest d := by
  unfold occurQueued; split
  · rw [rest_tally]; rfl
  · exact rest_occurFresh ..

@[simp] theorem rest_occurWritten (d : Dev) (s c : Nat) (w : List Word) (i : Nat) (e : RecEntry) :
    rest (d.occurWritten s c w i e) = rest d := by
  unfold occurWritten; split
  · rw [rest_tally]; rfl
  · exact rest_occurFresh ..

/-- An occurrence changes the recorder's state, registers, messages and a pending sample alone. -/
@[simp] theorem rest_occur (d : Dev) (s c : Nat) (w : List Word) : rest (d.occur s c w) = rest d := by
  unfold occur; split
  · split
    · exact rest_occurQueued ..
    · exact rest_occurFresh ..
  · split
    · exact rest_occurWritten ..
    · exact rest_occurFresh ..

theorem rget_recEnqueue (d : Dev) {a : Nat} (e : RecEntry) (h : quiet a) : (d.recEnqueue e).rget a = d.rget a := by
  unfold recEnqueue; dsimp only
  split
  · rfl
  · split
    · exact rget_recLost _ _ h
    · split
      · exact rget_recLost _ _ h
      · split
        · rw [rget_recLost _ _ h]; rfl
        · exact rget_recLost _ _ h

theorem rget_occurFresh (d : Dev) {a : Nat} (s c : Nat) (w : List Word) (h : quiet a) :
    (d.occurFresh s c w).rget a = d.rget a := by
  have h1 : a ≠ (F.REC_LOST_ORD_LOST).addr := by intro e; exact h.1 (by rw [e]; rfl)
  unfold occurFresh; split
  · exact rget_fset_ne _ h1 _
  · exact rget_recEnqueue _ _ h

theorem rget_occurQueued (d : Dev) {a : Nat} (s c : Nat) (w : List Word) (i : Nat) (e : RecEntry) (h : quiet a) :
    (d.occurQueued s c w i e).rget a = d.rget a := by
  unfold occurQueued; split
  · rw [rget_tally _ _ (by decide) h]; rfl
  · exact rget_occurFresh _ _ _ _ h

theorem rget_occurWritten (d : Dev) {a : Nat} (s c : Nat) (w : List Word) (i : Nat) (e : RecEntry) (h : quiet a) :
    (d.occurWritten s c w i e).rget a = d.rget a := by
  unfold occurWritten; split
  · rw [rget_tally _ _ (by decide) h]; rfl
  · exact rget_occurFresh _ _ _ _ h

/-- An occurrence changes no register outside RECORDER, TALLY and the pending messages. -/
theorem rget_occur (d : Dev) {a : Nat} (s c : Nat) (w : List Word) (h : quiet a) : (d.occur s c w).rget a = d.rget a := by
  unfold occur; split
  · split
    · exact rget_occurQueued _ _ _ _ _ _ h
    · exact rget_occurFresh _ _ _ _ h
  · split
    · exact rget_occurWritten _ _ _ _ _ _ h
    · exact rget_occurFresh _ _ _ _ h

theorem fget_occur (d : Dev) {g : Fld} (s c : Nat) (w : List Word) (h : quiet g.addr) :
    (d.occur s c w).fget g = d.fget g := by
  rw [fget, fget, rnat, rnat, rget_occur _ _ _ _ h]

theorem rget_raiseRec (d : Dev) {f : Fld} {a : Nat} (h : quiet a) (hf : a ≠ f.addr) :
    (d.raiseRec f).rget a = d.rget a := by
  unfold raiseRec occurBlk; dsimp only; rw [rget_occur _ _ _ _ h, rget_raise _ h hf]

theorem fget_raiseRec (d : Dev) {f g : Fld} (h : quiet g.addr) (hf : g.addr ≠ f.addr) :
    (d.raiseRec f).fget g = d.fget g := by
  rw [fget, fget, rnat, rnat, rget_raiseRec d h hf]

theorem fbit_raiseRec (d : Dev) (f : Fld) (h : quiet f.addr) (hw : f.lo = f.hi ∧ f.hi < 32) :
    (d.raiseRec f).fbit f = true := by
  unfold raiseRec occurBlk; dsimp only; rw [fbit, fget_occur _ _ _ _ h, ← fbit, fbit_raise d f h hw]

theorem rget_occurPair (d : Dev) {a : Nat} (s c : Nat) (w : List Word) (h : quiet a) :
    (d.occurPair s c w).rget a = d.rget a := by
  unfold occurPair; split
  · exact rget_occur _ _ _ _ h
  · rfl

@[simp] theorem rest_occurBlk (d : Dev) (s c b : Nat) : rest (d.occurBlk s c b) = rest d := rest_occur ..
@[simp] theorem rest_raiseRec (d : Dev) (f : Fld) : rest (d.raiseRec f) = rest d := by
  unfold raiseRec; dsimp only; rw [rest_occurBlk, rest_raise]
@[simp] theorem rest_occurPair (d : Dev) (s c : Nat) (w : List Word) : rest (d.occurPair s c w) = rest d := by
  unfold occurPair; split
  · exact rest_occur ..
  · rfl

/-! ### Check failures -/

@[simp] theorem rest_countCheck (d : Dev) (n : Nat) : rest (d.countCheck n) = rest d := by
  unfold countCheck; split <;> rfl
@[simp] theorem rest_transient (d : Dev) (n : Nat) : rest (d.transient n) = rest d := by
  unfold transient; rw [rest_finc, rest_countCheck]
@[simp] theorem rest_lasting (d : Dev) (n b : Nat) : rest (d.lasting n b) = rest d := by
  unfold lasting; rw [rest_occurBlk, rest_finc, rest_countCheck]

end Dev

end Sys2Proof.Machine
end

