-- ==== Sys2Proof/Laws/Fields.lean ====
section
/-! SUPPORT. A field read after a register operation on another field, register or block: each operation's law once,
with side conditions on numerals that `decide` settles. -/

namespace Sys2Proof.Machine

namespace Dev

theorem fget_congr {d e : Dev} (h : d.regs = e.regs) (f : Fld) : d.fget f = e.fget f := by
  unfold fget rnat rget; rw [h]

theorem fget_rset_ne (d : Dev) {a : Nat} {g : Fld} (h : g.addr ≠ a) (w : Word) : (d.rset a w).fget g = d.fget g := by
  rw [fget, fget, rnat, rnat, rget_rset_ne d h]

theorem fget_rsetN_ne (d : Dev) {a : Nat} {g : Fld} (h : g.addr ≠ a) (n : Nat) : (d.rsetN a n).fget g = d.fget g :=
  fget_rset_ne d h _

theorem fget_fput_ne (d : Dev) {f g : Fld} (h : g.addr ≠ f.addr) (b : Bool) : (d.fput f b).fget g = d.fget g :=
  fget_fset_ne d h _

theorem fget_fput_apart (d : Dev) {f g : Fld} (ha : g.addr = f.addr) (hw : f.lo ≤ f.hi ∧ f.hi < 32) (h : apart f g)
    (b : Bool) : (d.fput f b).fget g = d.fget g :=
  fget_fset_apart d ha hw h _

theorem fget_finc_ne (d : Dev) {f g : Fld} (h : g.addr ≠ f.addr) (n : Nat) : (d.finc f n).fget g = d.fget g :=
  fget_fset_ne d h _

theorem fget_finc_apart (d : Dev) {f g : Fld} (ha : g.addr = f.addr) (hw : f.lo ≤ f.hi ∧ f.hi < 32) (h : apart f g)
    (n : Nat) : (d.finc f n).fget g = d.fget g :=
  fget_fset_apart d ha hw h _

/-- A saturating count after it counted. -/
theorem fget_finc_same (d : Dev) (f : Fld) (hw : f.lo ≤ f.hi ∧ f.hi < 32) (n : Nat) :
    (d.finc f n).fget f = min (fmax f) (d.fget f + n) := by
  unfold finc
  rw [fget_fset_same d f hw]
  apply Nat.mod_eq_of_lt
  have : 0 < 2 ^ (f.hi + 1 - f.lo) := Nat.two_pow_pos _
  unfold fmax
  omega

theorem rget_fput_ne (d : Dev) {f : Fld} {a : Nat} (h : a ≠ f.addr) (b : Bool) : (d.fput f b).rget a = d.rget a :=
  rget_fset_ne d h _

theorem rget_finc_ne (d : Dev) {f : Fld} {a : Nat} (h : a ≠ f.addr) (n : Nat) : (d.finc f n).rget a = d.rget a :=
  rget_fset_ne d h _

/-! ### One-bit fields -/

theorem fbit_of_fget {d e : Dev} {g : Fld} (h : d.fget g = e.fget g) : d.fbit g = e.fbit g := by
  unfold fbit; rw [h]

theorem fbit_rset_ne (d : Dev) {a : Nat} {g : Fld} (h : g.addr ≠ a) (w : Word) : (d.rset a w).fbit g = d.fbit g :=
  fbit_of_fget (fget_rset_ne d h w)

theorem fbit_rsetN_ne (d : Dev) {a : Nat} {g : Fld} (h : g.addr ≠ a) (n : Nat) : (d.rsetN a n).fbit g = d.fbit g :=
  fbit_of_fget (fget_rsetN_ne d h n)

theorem fbit_fset_ne (d : Dev) {f g : Fld} (h : g.addr ≠ f.addr) (v : Nat) : (d.fset f v).fbit g = d.fbit g :=
  fbit_of_fget (fget_fset_ne d h v)

theorem fbit_fset_apart (d : Dev) {f g : Fld} (ha : g.addr = f.addr) (hw : f.lo ≤ f.hi ∧ f.hi < 32) (h : apart f g)
    (v : Nat) : (d.fset f v).fbit g = d.fbit g :=
  fbit_of_fget (fget_fset_apart d ha hw h v)

theorem fbit_fput_ne (d : Dev) {f g : Fld} (h : g.addr ≠ f.addr) (b : Bool) : (d.fput f b).fbit g = d.fbit g :=
  fbit_fset_ne d h _

theorem fbit_fput_apart (d : Dev) {f g : Fld} (ha : g.addr = f.addr) (hw : f.lo ≤ f.hi ∧ f.hi < 32) (h : apart f g)
    (b : Bool) : (d.fput f b).fbit g = d.fbit g :=
  fbit_fset_apart d ha hw h _

theorem fbit_finc_ne (d : Dev) {f g : Fld} (h : g.addr ≠ f.addr) (n : Nat) : (d.finc f n).fbit g = d.fbit g :=
  fbit_fset_ne d h _

theorem fbit_finc_apart (d : Dev) {f g : Fld} (ha : g.addr = f.addr) (hw : f.lo ≤ f.hi ∧ f.hi < 32) (h : apart f g)
    (n : Nat) : (d.finc f n).fbit g = d.fbit g :=
  fbit_fset_apart d ha hw h _

/-! ### What noting leaves alone -/

theorem fget_tally (d : Dev) {ev : Nat} {g : Fld} (n : Nat) (he : ev < 0x1000) (h : quiet g.addr) :
    (d.tally ev n).fget g = d.fget g := by
  rw [fget, fget, rnat, rnat, rget_tally d n he h]

theorem fbit_tally (d : Dev) {ev : Nat} {g : Fld} (n : Nat) (he : ev < 0x1000) (h : quiet g.addr) :
    (d.tally ev n).fbit g = d.fbit g :=
  fbit_of_fget (fget_tally d n he h)

theorem fbit_raise_ne (d : Dev) {f g : Fld} (h : quiet g.addr) (hf : g.addr ≠ f.addr) : (d.raise f).fbit g = d.fbit g :=
  fbit_of_fget (fget_raise d h hf)

theorem fbit_raiseRec_ne (d : Dev) {f g : Fld} (h : quiet g.addr) (hf : g.addr ≠ f.addr) :
    (d.raiseRec f).fbit g = d.fbit g :=
  fbit_of_fget (fget_raiseRec d h hf)

theorem fbit_occur (d : Dev) {g : Fld} (s c : Nat) (w : List Word) (h : quiet g.addr) :
    (d.occur s c w).fbit g = d.fbit g :=
  fbit_of_fget (fget_occur d s c w h)

theorem fget_occurBlk (d : Dev) {g : Fld} (s c b : Nat) (h : quiet g.addr) : (d.occurBlk s c b).fget g = d.fget g :=
  fget_occur d s c _ h

theorem fbit_occurBlk (d : Dev) {g : Fld} (s c b : Nat) (h : quiet g.addr) : (d.occurBlk s c b).fbit g = d.fbit g :=
  fbit_occur d s c _ h

theorem rget_occurBlk (d : Dev) {a : Nat} (s c b : Nat) (h : quiet a) : (d.occurBlk s c b).rget a = d.rget a :=
  rget_occur d s c _ h

theorem fget_occurPair (d : Dev) {g : Fld} (s c : Nat) (w : List Word) (h : quiet g.addr) :
    (d.occurPair s c w).fget g = d.fget g := by
  rw [fget, fget, rnat, rnat, rget_occurPair d s c w h]

theorem fbit_occurPair (d : Dev) {g : Fld} (s c : Nat) (w : List Word) (h : quiet g.addr) :
    (d.occurPair s c w).fbit g = d.fbit g :=
  fbit_of_fget (fget_occurPair d s c w h)

/-- An event bit once raised stays through what else is noted. -/
theorem fbit_raise_kept (d : Dev) {f g : Fld} (h : quiet g.addr) (hw : f.lo ≤ f.hi ∧ f.hi < 32) (ha : g.addr = f.addr)
    (hp : apart f g) : (d.raise f).fbit g = d.fbit g := by
  refine fbit_of_fget ?_
  rw [fget, fget, rnat, rnat]
  unfold raise
  rw [rget_msixEdge _ _ _ h]
  exact fget_fput_apart d ha hw hp true

end Dev

end Sys2Proof.Machine
end

