-- ==== Sys2Proof/Laws/Instr.lean ====
section
/-! SUPPORT. What one instruction on a train can do: with its encoding legal and its registers at hand, it is what its
effect answers, and an effect that goes on retires the instruction. -/

namespace Sys2Proof.Machine

/-- A command of a core with its supplies acts on the core alone. -/
theorem State.whenUp_on {s : State} (h : s.powered = true) (f : Core → Core) :
    s.whenUp f = .next { s with core := f s.core } := by
  simp [State.whenUp, h, State.onCore]

/-- A command of a core that is OFF or held in reset changes nothing. -/
theorem State.whenUp_off {s : State} (h : s.powered = false) (f : Core → Core) : s.whenUp f = .next s := by
  simp [State.whenUp, h]

/-- A command that acts when the core is up answers a next state, and only the core may differ. -/
theorem State.whenUp_next (s : State) (f : Core → Core) : ∃ c, s.whenUp f = .next { s with core := c } := by
  unfold State.whenUp
  split
  · exact ⟨f s.core, rfl⟩
  · exact ⟨s.core, rfl⟩

namespace Run

@[simp] theorem putW_task (r : Run) (i v : Nat) : (r.putW i v).task = r.task := rfl
@[simp] theorem putW_pc (r : Run) (i v : Nat) : (r.putW i v).pc = r.pc := rfl
@[simp] theorem putW_age (r : Run) (i v : Nat) : (r.putW i v).age = r.age := rfl
@[simp] theorem putW_exit (r : Run) (i v : Nat) : (r.putW i v).exit = r.exit := rfl
@[simp] theorem putW_retired (r : Run) (i v : Nat) : (r.putW i v).retired = r.retired := rfl
@[simp] theorem putW_issued (r : Run) (i v : Nat) : (r.putW i v).issued = r.issued := rfl
@[simp] theorem putW_buf (r : Run) (i v : Nat) : (r.putW i v).buf = r.buf := rfl
@[simp] theorem putW_slots (r : Run) (i v : Nat) : (r.putW i v).slots = r.slots := rfl
@[simp] theorem putW_effects (r : Run) (i v : Nat) : (r.putW i v).effects = r.effects := rfl
@[simp] theorem putW_delay (r : Run) (i v : Nat) : (r.putW i v).delay = r.delay := rfl
@[simp] theorem putD_task (r : Run) (i v : Nat) : (r.putD i v).task = r.task := rfl
@[simp] theorem putD_pc (r : Run) (i v : Nat) : (r.putD i v).pc = r.pc := rfl
@[simp] theorem putD_age (r : Run) (i v : Nat) : (r.putD i v).age = r.age := rfl
@[simp] theorem putD_exit (r : Run) (i v : Nat) : (r.putD i v).exit = r.exit := rfl
@[simp] theorem putD_retired (r : Run) (i v : Nat) : (r.putD i v).retired = r.retired := rfl
@[simp] theorem putD_issued (r : Run) (i v : Nat) : (r.putD i v).issued = r.issued := rfl
@[simp] theorem putD_buf (r : Run) (i v : Nat) : (r.putD i v).buf = r.buf := rfl
@[simp] theorem putD_slots (r : Run) (i v : Nat) : (r.putD i v).slots = r.slots := rfl
@[simp] theorem putD_effects (r : Run) (i v : Nat) : (r.putD i v).effects = r.effects := rfl
@[simp] theorem putD_delay (r : Run) (i v : Nat) : (r.putD i v).delay = r.delay := rfl
@[simp] theorem putL_task (r : Run) (i : Nat) (v : Bool) : (r.putL i v).task = r.task := rfl
@[simp] theorem putL_pc (r : Run) (i : Nat) (v : Bool) : (r.putL i v).pc = r.pc := rfl
@[simp] theorem putL_age (r : Run) (i : Nat) (v : Bool) : (r.putL i v).age = r.age := rfl
@[simp] theorem putL_exit (r : Run) (i : Nat) (v : Bool) : (r.putL i v).exit = r.exit := rfl
@[simp] theorem putL_retired (r : Run) (i : Nat) (v : Bool) : (r.putL i v).retired = r.retired := rfl
@[simp] theorem putL_issued (r : Run) (i : Nat) (v : Bool) : (r.putL i v).issued = r.issued := rfl
@[simp] theorem putL_buf (r : Run) (i : Nat) (v : Bool) : (r.putL i v).buf = r.buf := rfl
@[simp] theorem putL_slots (r : Run) (i : Nat) (v : Bool) : (r.putL i v).slots = r.slots := rfl
@[simp] theorem putL_effects (r : Run) (i : Nat) (v : Bool) : (r.putL i v).effects = r.effects := rfl
@[simp] theorem putL_delay (r : Run) (i : Nat) (v : Bool) : (r.putL i v).delay = r.delay := rfl
@[simp] theorem putF_task (r : Run) (f : FlagWrite) : (r.putF f).task = r.task := rfl
@[simp] theorem putF_pc (r : Run) (f : FlagWrite) : (r.putF f).pc = r.pc := rfl
@[simp] theorem putF_age (r : Run) (f : FlagWrite) : (r.putF f).age = r.age := rfl
@[simp] theorem putF_exit (r : Run) (f : FlagWrite) : (r.putF f).exit = r.exit := rfl
@[simp] theorem putF_retired (r : Run) (f : FlagWrite) : (r.putF f).retired = r.retired := rfl
@[simp] theorem putF_issued (r : Run) (f : FlagWrite) : (r.putF f).issued = r.issued := rfl
@[simp] theorem putF_buf (r : Run) (f : FlagWrite) : (r.putF f).buf = r.buf := rfl
@[simp] theorem putF_slots (r : Run) (f : FlagWrite) : (r.putF f).slots = r.slots := rfl
@[simp] theorem putF_effects (r : Run) (f : FlagWrite) : (r.putF f).effects = r.effects := rfl
@[simp] theorem putF_delay (r : Run) (f : FlagWrite) : (r.putF f).delay = r.delay := rfl
@[simp] theorem putRes_task (r : Run) (i : Nat) (x : Res) : (r.putRes i x).task = r.task := rfl
@[simp] theorem putRes_pc (r : Run) (i : Nat) (x : Res) : (r.putRes i x).pc = r.pc := rfl
@[simp] theorem putRes_age (r : Run) (i : Nat) (x : Res) : (r.putRes i x).age = r.age := rfl
@[simp] theorem putRes_exit (r : Run) (i : Nat) (x : Res) : (r.putRes i x).exit = r.exit := rfl
@[simp] theorem putRes_retired (r : Run) (i : Nat) (x : Res) : (r.putRes i x).retired = r.retired := rfl
@[simp] theorem putRes_issued (r : Run) (i : Nat) (x : Res) : (r.putRes i x).issued = r.issued := rfl
@[simp] theorem putRes_buf (r : Run) (i : Nat) (x : Res) : (r.putRes i x).buf = r.buf := rfl
@[simp] theorem putRes_slots (r : Run) (i : Nat) (x : Res) : (r.putRes i x).slots = r.slots := rfl
@[simp] theorem putRes_effects (r : Run) (i : Nat) (x : Res) : (r.putRes i x).effects = r.effects := rfl
@[simp] theorem putRes_delay (r : Run) (i : Nat) (x : Res) : (r.putRes i x).delay = r.delay := rfl
@[simp] theorem putResD_task (r : Run) (i : Nat) (x : Res) : (r.putResD i x).task = r.task := rfl
@[simp] theorem putResD_pc (r : Run) (i : Nat) (x : Res) : (r.putResD i x).pc = r.pc := rfl
@[simp] theorem putResD_age (r : Run) (i : Nat) (x : Res) : (r.putResD i x).age = r.age := rfl
@[simp] theorem putResD_exit (r : Run) (i : Nat) (x : Res) : (r.putResD i x).exit = r.exit := rfl
@[simp] theorem putResD_retired (r : Run) (i : Nat) (x : Res) : (r.putResD i x).retired = r.retired := rfl
@[simp] theorem putResD_issued (r : Run) (i : Nat) (x : Res) : (r.putResD i x).issued = r.issued := rfl
@[simp] theorem putResD_buf (r : Run) (i : Nat) (x : Res) : (r.putResD i x).buf = r.buf := rfl
@[simp] theorem putResD_slots (r : Run) (i : Nat) (x : Res) : (r.putResD i x).slots = r.slots := rfl
@[simp] theorem putResD_effects (r : Run) (i : Nat) (x : Res) : (r.putResD i x).effects = r.effects := rfl
@[simp] theorem putResD_delay (r : Run) (i : Nat) (x : Res) : (r.putResD i x).delay = r.delay := rfl
@[simp] theorem advance_task (r : Run) : r.advance.task = r.task := rfl
@[simp] theorem advance_age (r : Run) : r.advance.age = r.age := rfl
@[simp] theorem advance_exit (r : Run) : r.advance.exit = r.exit := rfl
@[simp] theorem advance_retired (r : Run) : r.advance.retired = r.retired := rfl
@[simp] theorem advance_issued (r : Run) : r.advance.issued = r.issued := rfl
@[simp] theorem advance_buf (r : Run) : r.advance.buf = r.buf := rfl
@[simp] theorem advance_slots (r : Run) : r.advance.slots = r.slots := rfl
@[simp] theorem advance_effects (r : Run) : r.advance.effects = r.effects := rfl
@[simp] theorem advance_delay (r : Run) : r.advance.delay = r.delay := rfl
@[simp] theorem advance_regs (r : Run) : r.advance.regs = r.regs := rfl
@[simp] theorem advance_owned (r : Run) : r.advance.owned = r.owned := rfl
@[simp] theorem advance_pc (r : Run) : r.advance.pc = r.pc + 4 := rfl

end Run

namespace Core

/-- An instruction that goes to the next one, short of the 512th, retires and leaves its instance on the train. -/
theorem retire_room (c : Core) (t : Nat) (r : Run) (pc : Word) (hx : r.exit = none) (hn : r.retired < 511) :
    c.retire t r pc = c.setRun t (some { r with
      retired := r.retired + 1, lastPc := some pc, wait := none, issued := r.issued ++ [(pc, c.dev.tb)] }) := by
  simp only [retire, hx]
  rw [if_neg (by omega)]

/-- A legal instruction with its registers at hand is what its effect answers. -/
theorem instr_open (c : Core) (t : Nat) (r : Run) (srcs : Srcs) (f : Core → Run → Regs → IRes)
    (ht : c.dev.run t = some r) (ho : r.opened = true) (hx : r.exit = none) (hs : c.dev.ready r srcs = true) :
    c.instr t true srcs f =
      match f c { r with delay := [], via := none } (c.dev.seen r) with
      | .next c' r' => if r'.exit.isSome || c.inHalf r'.pc then c'.retire t r' r.pc else c.trapOrWait t r tACCESS none
      | .wait w => c.waitFor t r w
      | .trap code index => c.trapOrWait t r code index
      | .trapAt c' code index => if c.isHead t then c'.trapOrWait t r code index else c.waitFor t r .head
      | .poison c' index => c'.trapOrWait t r tPOISON index
      | .split => c.splitBefore t r := by
  unfold instr
  rw [ht]
  simp only [ho, hx, hs, Option.isSome_none, Bool.not_true, Bool.or_self, Bool.false_eq_true, if_false] <;> rfl

/-- A legal instruction whose effect goes to an instruction of the active half, short of the 512th, retires. -/
theorem instr_next (c c' : Core) (t : Nat) (r r' : Run) (srcs : Srcs) (f : Core → Run → Regs → IRes)
    (ht : c.dev.run t = some r) (ho : r.opened = true) (hx : r.exit = none) (hs : c.dev.ready r srcs = true)
    (hf : f c { r with delay := [], via := none } (c.dev.seen r) = .next c' r') (hx' : r'.exit = none)
    (hr : r'.retired = r.retired) (hi : r'.issued = r.issued) (hn : r.retired < 511) (hp : c.inHalf r'.pc = true) :
    c.instr t true srcs f = c'.setRun t (some { r' with
      retired := r.retired + 1, lastPc := some r.pc, wait := none, issued := r.issued ++ [(r.pc, c'.dev.tb)] }) := by
  rw [instr_open c t r srcs f ht ho hx hs, hf]
  simp only [hp, Bool.or_true, if_true]
  rw [retire_room _ _ _ _ hx' (by omega), hr, hi]

/-- An illegal encoding traps at the head and waits for it elsewhere (R82, R64). -/
theorem instr_illegal (c : Core) (t : Nat) (r : Run) (srcs : Srcs) (f : Core → Run → Regs → IRes)
    (ht : c.dev.run t = some r) (ho : r.opened = true) (hx : r.exit = none) :
    c.instr t false srcs f = c.trapOrWait t r tILLEGAL_ENC none := by
  simp [instr, ht, ho, hx]

/-- A train without an opened instance executes nothing. -/
theorem instr_idle (c : Core) (t : Nat) (legal : Bool) (srcs : Srcs) (f : Core → Run → Regs → IRes)
    (ht : c.dev.run t = none) : c.instr t legal srcs f = c := by
  simp [instr, ht]

/-- A legal instruction whose registers are not at hand waits for them (R61). -/
theorem instr_unready (c : Core) (t : Nat) (r : Run) (srcs : Srcs) (f : Core → Run → Regs → IRes)
    (ht : c.dev.run t = some r) (ho : r.opened = true) (hx : r.exit = none) (hs : c.dev.ready r srcs = false) :
    c.instr t true srcs f = c.waitFor t r .register := by
  simp [instr, ht, ho, hx, hs]

end Core

end Sys2Proof.Machine
end

