-- ==== Sys2Proof/Laws/Memory.lean ====
section
/-! SUPPORT. Memory cells and the recorder area: a read after a write, and that every operation keeps the canonical
form. -/

namespace Sys2Proof.Machine

/-! ### Cells -/

@[simp] theorem Cells.read_write_same (m : Cells) (a : Nat) (b : Byte) : (m.write a b).read a = b :=
  alGet_alSet_same emptyByte b a m

theorem Cells.read_write_ne (m : Cells) {a a' : Nat} (h : a' ≠ a) (b : Byte) : (m.write a b).read a' = m.read a' :=
  alGet_alSet_ne h emptyByte emptyByte b m

theorem Cells.read_write (m : Cells) (a a' : Nat) (b : Byte) :
    (m.write a b).read a' = if a' = a then b else m.read a' := by
  split
  · next h => subst h; exact m.read_write_same a' b
  · next h => exact m.read_write_ne h b

/-- One written byte keeps the canonical form. -/
theorem Cells.wf_write {m : Cells} (h : m.wf = true) (a : Nat) (b : Byte) : (m.write a b).wf = true :=
  alWf_alSet (fun _ => emptyByte) a b h

/-- Bytes outside those written read as before. -/
theorem Cells.read_writeN_outside (bs : List Byte) : ∀ (m : Cells) (a a' : Nat), (a' < a ∨ a + bs.length ≤ a') →
    (m.writeN a bs).read a' = m.read a' := by
  induction bs with
  | nil => intro m a a' _; rfl
  | cons b bs ih =>
    intro m a a' h
    simp only [List.length_cons] at h
    rw [Cells.writeN, ih (m.write a b) (a + 1) a' (by omega), m.read_write_ne (by omega)]

/-- Bytes written read back. -/
theorem Cells.read_writeN_inside (bs : List Byte) : ∀ (m : Cells) (a i : Nat) (h : i < bs.length),
    (m.writeN a bs).read (a + i) = bs[i] := by
  induction bs with
  | nil => intro m a i h; exact absurd h (by simp)
  | cons b bs ih =>
    intro m a i h
    cases i with
    | zero =>
      rw [Cells.writeN, Cells.read_writeN_outside bs _ _ _ (Or.inl (by omega))]
      simp
    | succ i =>
      have := ih (m.write a b) (a + 1) i (by simpa using h)
      rw [Cells.writeN, show a + (i + 1) = a + 1 + i by omega, this]
      simp

@[simp] theorem Cells.readN_length (m : Cells) (n : Nat) : ∀ a, (m.readN a n).length = n := by
  induction n with
  | zero => intro a; rfl
  | succ n ih => intro a; simp [Cells.readN, ih]

/-- A run of bytes just written reads back. -/
theorem Cells.readN_writeN (bs : List Byte) : ∀ (m : Cells) (a : Nat), (m.writeN a bs).readN a bs.length = bs := by
  induction bs with
  | nil => intro m a; rfl
  | cons b bs ih =>
    intro m a
    rw [List.length_cons, Cells.readN, Cells.writeN, ih, Cells.read_writeN_outside bs _ _ _ (Or.inl (by omega))]
    simp

/-- Written bytes keep the canonical form. -/
theorem Cells.wf_writeN (bs : List Byte) : ∀ {m : Cells} (a : Nat), m.wf = true → (m.writeN a bs).wf = true := by
  induction bs with
  | nil => intro m a h; exact h
  | cons b bs ih => intro m a h; exact ih (a + 1) (Cells.wf_write h a b)

/-- Cells laid over cells keep the canonical form. -/
theorem Cells.wf_overlay (upper : Cells) : ∀ {under : Cells}, under.wf = true → (upper.overlay under).wf = true := by
  unfold Cells.overlay
  induction upper with
  | nil => intro under h; exact h
  | cons c cs ih => intro under h; exact ih (Cells.wf_write h c.1 c.2)

/-! ### The recorder area -/

@[simp] theorem Area.at_put_same (a : Area) (slot : Nat) (r : BitVec 512) : (a.put slot r).at_ slot = r :=
  alGet_alSet_same 0 r slot a.slots

theorem Area.at_put_ne (a : Area) {slot slot' : Nat} (h : slot' ≠ slot) (r : BitVec 512) :
    (a.put slot r).at_ slot' = a.at_ slot' := alGet_alSet_ne h 0 0 r a.slots

/-- A written record keeps the area's canonical form. -/
theorem Area.wf_put {a : Area} (h : a.wf = true) (slot : Nat) (r : BitVec 512) : (a.put slot r).wf = true :=
  alWf_alSet (fun _ => 0) slot r h

/-- A recorder entry written keeps the area's canonical form. -/
theorem wf_writeRecord {a : Area} (h : a.wf = true) (d : Dev) (e : RecEntry) : (writeRecord a d e).1.wf = true := by
  unfold writeRecord
  dsimp only
  split
  · exact h
  · exact Area.wf_put h _ _

/-- A header written back keeps the area's canonical form. -/
theorem wf_writeHeader {a : Area} (h : a.wf = true) (slot rep delta : Nat) : (writeHeader a slot rep delta).wf = true :=
  Area.wf_put h _ _

end Sys2Proof.Machine
end

