-- ==== Sys2Proof/Laws/Pages.lean ====
section
/-! SUPPORT. What a register write can do: with the register in the table, open to the requester and not turned away,
its access codes apply, then what its block does with it. -/

namespace Sys2Proof.Machine

namespace Dev

theorem rest_hostSeen (q : Requester) (d : Dev) : rest (d.hostSeen q) = rest { d with bwRx := (d.hostSeen q).bwRx } := by
  unfold hostSeen
  split
  · have h : rest (d.tally 0xE00) = rest d := rest_tally ..
    have h2 : rest ((d.tally 0xE00).bytesIn 5 4) =
        { rest (d.tally 0xE00) with bwRx := ((d.tally 0xE00).bytesIn 5 4).bwRx } := rfl
    rw [h2, h]; rfl
  · rfl

theorem hostSeen_keeps {α : Type} (g : Dev → α) (hg : ∀ d, g (rest d) = g d) (hb : ∀ d x, g { d with bwRx := x } = g d)
    (q : Requester) (d : Dev) : g (d.hostSeen q) = g d :=
  (of_rest g hg (rest_hostSeen q d)).trans (hb d _)

@[simp] theorem hostSeen_locks (q : Requester) (d : Dev) : (d.hostSeen q).locks = d.locks :=
  hostSeen_keeps (fun d => d.locks) (fun _ => rfl) (fun _ _ => rfl) q d
@[simp] theorem hostSeen_tb (q : Requester) (d : Dev) : (d.hostSeen q).tb = d.tb :=
  hostSeen_keeps (fun d => d.tb) (fun _ => rfl) (fun _ _ => rfl) q d
@[simp] theorem hostSeen_st (q : Requester) (d : Dev) : (d.hostSeen q).st = d.st :=
  hostSeen_keeps (fun d => d.st) (fun _ => rfl) (fun _ _ => rfl) q d
@[simp] theorem hostSeen_settings (q : Requester) (d : Dev) : (d.hostSeen q).settings = d.settings :=
  hostSeen_keeps (fun d => d.settings) (fun _ => rfl) (fun _ _ => rfl) q d
@[simp] theorem hostSeen_isl (q : Requester) (d : Dev) : (d.hostSeen q).isl = d.isl :=
  hostSeen_keeps (fun d => d.isl) (fun _ => rfl) (fun _ _ => rfl) q d
@[simp] theorem hostSeen_gt (q : Requester) (d : Dev) : (d.hostSeen q).gt = d.gt :=
  hostSeen_keeps (fun d => d.gt) (fun _ => rfl) (fun _ _ => rfl) q d
@[simp] theorem hostSeen_slots (q : Requester) (d : Dev) : (d.hostSeen q).slots = d.slots :=
  hostSeen_keeps (fun d => d.slots) (fun _ => rfl) (fun _ _ => rfl) q d
@[simp] theorem hostSeen_free (q : Requester) (d : Dev) : (d.hostSeen q).free = d.free :=
  hostSeen_keeps (fun d => d.free) (fun _ => rfl) (fun _ _ => rfl) q d
@[simp] theorem hostSeen_mov (q : Requester) (d : Dev) : (d.hostSeen q).mov = d.mov :=
  hostSeen_keeps (fun d => d.mov) (fun _ => rfl) (fun _ _ => rfl) q d
@[simp] theorem hostSeen_esc (q : Requester) (d : Dev) : (d.hostSeen q).esc = d.esc :=
  hostSeen_keeps (fun d => d.esc) (fun _ => rfl) (fun _ _ => rfl) q d
@[simp] theorem hostSeen_armInstant (q r : Requester) (d : Dev) : (d.hostSeen q).armInstant r = d.armInstant r := by
  have hf : (d.hostSeen q).flight = d.flight := by unfold flight run; rw [hostSeen_mov]
  have ht : ∀ n, (d.hostSeen q).task n = d.task n := fun n => by unfold task; rw [hostSeen_esc]
  unfold armInstant
  rw [hf, hostSeen_tb]
  simp only [ht]
@[simp] theorem hostSeen_unlocked (q r : Requester) (b : Nat) (d : Dev) :
    (d.hostSeen q).unlocked r b = d.unlocked r b := by
  unfold unlocked; rw [hostSeen_locks]

@[simp] theorem rget_bytesIn (d : Dev) (p n a : Nat) : (d.bytesIn p n).rget a = d.rget a := rfl

theorem rget_hostSeen (q : Requester) (d : Dev) {a : Nat} (h : quiet a) :
    (d.hostSeen q).rget a = d.rget a := by
  unfold hostSeen
  split
  · rw [rget_bytesIn, rget_tally d 1 (by decide) h]
  · rfl

theorem fget_hostSeen (q : Requester) (d : Dev) {g : Fld} (h : quiet g.addr) :
    (d.hostSeen q).fget g = d.fget g := by
  unfold fget rnat; rw [rget_hostSeen q d h]

theorem fbit_hostSeen (q : Requester) (d : Dev) {g : Fld} (h : quiet g.addr) :
    (d.hostSeen q).fbit g = d.fbit g := by
  unfold fbit; rw [fget_hostSeen q d h]

@[simp] theorem hostSeen_turnedAway (q r : Requester) (a : Nat) (d : Dev) :
    (d.hostSeen q).turnedAway r a = d.turnedAway r a := by
  have h : (d.hostSeen q).wltState = d.wltState := fget_hostSeen q d (by decide)
  have hp : (d.hostSeen q).paired = d.paired := by unfold paired role cfgBit cfgByte; rw [hostSeen_settings]
  unfold turnedAway pairRefuses isHolder
  rw [h, hp]

/-- A coded write changes registers of its own page alone. -/
theorem rest_codedWrite (d : Dev) (q : Requester) (r : RegRow) (a : Nat) (v : Word) :
    rest (d.codedWrite q r a v) = rest d := by
  unfold codedWrite
  extract_lets blk ok d1 d2
  have h1 : rest d1 = rest d := by show rest (if _ then _ else _) = _; split <;> rfl
  have h2 : rest d2 = rest d := h1
  rw [← h2]
  refine foldl_keeps rest _ ?_ _ _
  intro b x
  split <;> rfl

@[simp] theorem codedWrite_isl (d : Dev) (q : Requester) (r : RegRow) (a : Nat) (v : Word) :
    (d.codedWrite q r a v).isl = d.isl := of_rest (fun d => d.isl) (fun _ => rfl) (rest_codedWrite ..)
@[simp] theorem codedWrite_gt (d : Dev) (q : Requester) (r : RegRow) (a : Nat) (v : Word) :
    (d.codedWrite q r a v).gt = d.gt := of_rest (fun d => d.gt) (fun _ => rfl) (rest_codedWrite ..)
@[simp] theorem codedWrite_tb (d : Dev) (q : Requester) (r : RegRow) (a : Nat) (v : Word) :
    (d.codedWrite q r a v).tb = d.tb := of_rest (fun d => d.tb) (fun _ => rfl) (rest_codedWrite ..)
@[simp] theorem codedWrite_slots (d : Dev) (q : Requester) (r : RegRow) (a : Nat) (v : Word) :
    (d.codedWrite q r a v).slots = d.slots := of_rest (fun d => d.slots) (fun _ => rfl) (rest_codedWrite ..)

/-- A coded write leaves every other register but the STAT of its page. -/
theorem rget_codedWrite_ne (d : Dev) (q : Requester) (r : RegRow) {a b : Nat} (v : Word) (h : b ≠ a)
    (hs : b ≠ 0x10000 * (a / 0x10000) + 0xC) : (d.codedWrite q r a v).rget b = d.rget b := by
  unfold codedWrite
  extract_lets blk ok d1 d2
  have h1 : d1.rget b = d.rget b := by
    show Dev.rget (if _ then _ else _) b = _
    split
    · exact rget_rset_ne _ hs _
    · rfl
  have h2 : d2.rget b = d.rget b := (rget_rset_ne _ h _).trans h1
  rw [← h2]
  have key : ∀ (l : List (Fld × Nat × Nat)) (e : Dev),
      (l.foldl (fun (d : Dev) (x : Fld × Nat × Nat) =>
        if x.1.addr = a then d.fset x.1 (clampN x.2.1 x.2.2 (d.fget x.1)) else d) e).rget b = e.rget b := by
    intro l
    induction l with
    | nil => intro e; rfl
    | cons x l ih =>
      intro e
      rw [List.foldl_cons, ih]
      split
      · next hx => exact rget_fset_ne _ (by rw [hx]; exact h) _
      · rfl
  exact key _ _

/-- The word a coded write leaves in a register without a clamped field. -/
theorem rget_codedWrite_same (d : Dev) (q : Requester) (r : RegRow) {a : Nat} (v : Word)
    (hc : ∀ x ∈ clamped, x.1.addr ≠ a) (hs : a ≠ 0x10000 * (a / 0x10000) + 0xC) :
    (d.codedWrite q r a v).rget a = coded r (d.unlocked q (a / 0x10000)) (d.rget a) v := by
  unfold codedWrite
  extract_lets blk ok d1 d2
  have h1 : d1.rget a = d.rget a := by
    show Dev.rget (if _ then _ else _) a = _
    split
    · exact rget_rset_ne _ hs _
    · rfl
  have h2 : d2.rget a = coded r ok (d.rget a) v := by rw [← h1]; exact rget_rset_same ..
  have key : ∀ (l : List (Fld × Nat × Nat)) (e : Dev), (∀ x ∈ l, x.1.addr ≠ a) →
      l.foldl (fun (d : Dev) (x : Fld × Nat × Nat) =>
        if x.1.addr = a then d.fset x.1 (clampN x.2.1 x.2.2 (d.fget x.1)) else d) e = e := by
    intro l
    induction l with
    | nil => intro e _; rfl
    | cons x l ih =>
      intro e hx
      rw [List.foldl_cons, if_neg (hx x (by simp))]
      exact ih e fun y hy => hx y (by simp [hy])
  rw [key _ _ hc, h2]

end Dev

namespace Core

/-- A register write that is aligned, or not the host's, reaches the page. -/
theorem regWrite_page (c : Core) (q : Requester) (a : Nat) (v : Word) (h : q ≠ .host ∨ a % 4 = 0) :
    c.regWrite q a v = (c.onDev (Dev.hostSeen q)).pageWrite q a v (c.dev.armInstant q) := by
  unfold regWrite
  have : (q = .host && a % 4 ≠ 0) = false := by
    rcases h with h | h <;> simp [h]
  simp only [this, Bool.false_eq_true, if_false]
  show Core.pageWrite _ _ _ _ ((c.dev.hostSeen q).armInstant q) = _
  rw [Dev.hostSeen_armInstant]

/-- A write of a register that the table lists, open to the requester. -/
theorem pageWrite_open (c : Core) (q : Requester) (a : Nat) (v : Word) (t : Nat) (r : RegRow)
    (hb : a / 0x10000 < 16) (ha : a % 4 = 0) (ht : c.dev.turnedAway q a = false) (hk : a % 0x10000 ≠ 0x1C)
    (ho : ¬ (0xA1000 ≤ a ∧ a < 0xA7000)) (hc : a ≠ A.CAN_CTL) (hr : regRow a = some r)
    (hw : r.rw ||| r.rwl ||| r.w1c ||| r.wo ≠ 0)
    (hl : r.rw ||| r.w1c ||| r.wo ≠ 0 ∨ c.dev.unlocked q (a / 0x10000) = true)
    (he : a % 0x10000 ≠ 0x10) (hf : a % 0x10000 ≠ 0x14) :
    c.pageWrite q a v t =
      pageHook c.dev (c.dev.unlocked q (a / 0x10000)) (c.onDev fun d => d.codedWrite q r a v) q a v t := by
  unfold pageWrite
  have h1 : ¬ (16 ≤ a / 0x10000) := by omega
  have h2 : (decide (0xA1000 ≤ a) && decide (a < 0xA7000)) = false := by
    rw [Bool.and_eq_false_iff]; simp; omega
  have h3 : (decide (r.rw ||| r.w1c ||| r.wo = 0) && !c.dev.unlocked q (a / 0x10000)) = false := by
    rcases hl with hl | hl
    · rw [decide_eq_false hl, Bool.false_and]
    · rw [hl, Bool.not_true, Bool.and_false]
  simp only [h1, ha, ht, hk, hc, hr, hw, he, hf, h2, h3, ne_eq, not_true, decide_false, Bool.or_self,
    Bool.false_eq_true, if_false]

end Core

end Sys2Proof.Machine
end

