-- ==== Sys2Proof/Laws/WorkMem.lean ====
section
/-! SUPPORT. What reading work memory and a timer slot can do: a read that meets no stored error and no poison gives the
bytes, and leaves memory as it was. -/

namespace Sys2Proof.Machine

namespace Core

/-- A let-down keeps memory. -/
theorem letDownFrom_mem (c : Core) (n : Nat) : (c.letDownFrom n).mem = c.mem := by
  unfold letDownFrom
  refine foldl_keeps (fun c : Core => c.mem) _ ?_ _ _
  intro b a
  split
  · rw [onDev_mem, setRun_mem]
  · rfl

/-- A touch conflict keeps memory (R63). -/
theorem touch_mem (c : Core) (age g : Nat) : (c.touch age g).mem = c.mem := by
  unfold touch
  split
  · rw [letDownFrom_mem, onDev_mem]
  · rfl

/-- A group without a stored error may be used, and its read changes nothing. -/
theorem readGroup_clean (c : Core) (g : Nat) (h : c.readClass g [] = .clean) : c.readGroup g = (c, true) := by
  unfold readGroup
  split
  · rfl
  · simp [h]

/-- Marking an instance undeclared keeps memory, and of the instance changes the mark alone. -/
theorem markUndeclared_cases (c : Core) (r : Run) (bad : Bool) :
    c.markUndeclared r bad = (c, r) ∨
    c.markUndeclared r bad = (c.onDev fun d => d.raise F.MOV_EVT_FOOTPRINT, { r with undeclared := true }) := by
  unfold markUndeclared
  split
  · exact .inr rfl
  · exact .inl rfl

@[simp] theorem markUndeclared_mem (c : Core) (r : Run) (bad : Bool) : (c.markUndeclared r bad).1.mem = c.mem := by
  obtain h | h := markUndeclared_cases c r bad <;> rw [h]; rfl

theorem markUndeclared_run (c : Core) (r : Run) (bad : Bool) :
    (c.markUndeclared r bad).2 = { r with undeclared := (c.markUndeclared r bad).2.undeclared } := by
  obtain h | h := markUndeclared_cases c r bad <;> rw [h]

theorem markUndeclared_rest (c : Core) (r : Run) (bad : Bool) :
    Dev.rest (c.markUndeclared r bad).1.dev = Dev.rest c.dev := by
  obtain h | h := markUndeclared_cases c r bad <;> rw [h]
  simp [onDev]

theorem markUndeclared_byte (c : Core) (r x : Run) (bad : Bool) (a : Nat) :
    (c.markUndeclared r bad).1.readByte x a = c.readByte x a := by
  have hf : (c.markUndeclared r bad).1.dev.mov = c.dev.mov :=
    Dev.of_rest (fun d => d.mov) (fun _ => rfl) (markUndeclared_rest c r bad)
  have ho : ∀ n, (c.markUndeclared r bad).1.dev.olderRuns n = c.dev.olderRuns n := by
    intro n
    simp only [Dev.olderRuns, Dev.flight, Dev.run, hf]
  unfold readByte
  rw [ho, markUndeclared_mem]

/-- The read list grows by at most one entry per byte read. -/
theorem addReads_length (r : Run) (gs : List Nat) : (addReads r gs).reads.length ≤ r.reads.length + gs.length := by
  unfold addReads
  show (gs.foldl _ r.reads).length ≤ _
  generalize r.reads = l
  induction gs generalizing l with
  | nil => simp
  | cons g gs ih =>
    rw [List.foldl_cons]
    refine Nat.le_trans (ih _) ?_
    split
    · simp
    · simp; omega

/-- A read of bytes that meet no stored error and no poison gives them, and leaves memory, the device but for what is
noted, and the instance but for its read list and undeclared mark. -/
theorem readMem_clean (c : Core) (t : Nat) (r : Run) (as names : List Nat)
    (hc : ∀ a ∈ as, c.readClass (a / 32) [] = .clean) (hu : ∀ a ∈ as, c.mem.usable a 1 = true)
    (hr : r.reads.length + as.length ≤ 128) :
    ∃ c' r', c.readMem t r as names = .ok c' r' (as.map (c.readByte r)) ∧ c'.mem = c.mem ∧
      Dev.rest c'.dev = Dev.rest c.dev ∧ r' = { r with reads := r'.reads, undeclared := r'.undeclared } := by
  unfold readMem
  extract_lets head ext gs r' fromMem acc okPoison c1 c2 m
  have hlen : r'.reads.length ≤ 128 := by
    have h1 : ext.length ≤ as.length := List.length_filter_le ..
    have h2 : (addReads r gs).reads.length ≤ r.reads.length + gs.length := addReads_length r gs
    have h3 : gs.length = ext.length := List.length_map ..
    show (if head then r else addReads r gs).reads.length ≤ 128
    split <;> omega
  have hsub : ∀ a ∈ fromMem, a ∈ as := fun a h => (List.mem_filter.1 (List.mem_filter.1 h).1).1
  have hacc : acc = (c, true) := by
    have : ∀ l : List Nat, (∀ g ∈ l, c.readClass g [] = .clean) →
        l.foldl (fun (s : Core × Bool) g => let x := s.1.readGroup g; (x.1, s.2 && x.2)) (c, true) = (c, true) := by
      intro l hl
      induction l with
      | nil => rfl
      | cons g l ih =>
        rw [List.foldl_cons]
        simp only [readGroup_clean c g (hl g (by simp)), Bool.and_true]
        exact ih fun g' h' => hl g' (by simp [h'])
    refine this _ ?_
    intro g hg
    obtain ⟨a, ha, rfl⟩ := List.mem_map.1 hg
    exact hc a (hsub a ha)
  have hok : okPoison = true := by
    show fromMem.all (fun a => acc.1.mem.usable a 1) = true
    rw [hacc, List.all_eq_true]
    exact fun a ha => hu a (hsub a ha)
  rw [if_neg (by omega)]
  simp only [hacc, hok, Bool.and_self, if_true]
  have hr' : ∃ l, r' = { r with reads := l } := by
    show ∃ l, (if head then r else addReads r gs) = _
    rcases Bool.eq_false_or_eq_true head with h | h <;> simp only [h] <;> exact ⟨_, rfl⟩
  clear_value r'
  obtain ⟨l, rfl⟩ := hr'
  have key : ∀ c0 : Core, c0.mem = c.mem → Dev.rest c0.dev = Dev.rest c.dev → ∀ bad : Bool,
      ∃ c' x, MemRead.ok (c0.markUndeclared { r with reads := l } bad).1 (c0.markUndeclared { r with reads := l } bad).2 (as.map (c0.readByte r)) =
        .ok c' x (as.map (c.readByte r)) ∧ c'.mem = c.mem ∧ Dev.rest c'.dev = Dev.rest c.dev ∧
        x = { r with reads := x.reads, undeclared := x.undeclared } := by
    intro c0 hm hd bad
    have hb : ∀ a, c0.readByte r a = c.readByte r a := by
      intro a
      have hf : c0.dev.mov = c.dev.mov := Dev.of_rest (fun d => d.mov) (fun _ => rfl) hd
      have ho : ∀ n, c0.dev.olderRuns n = c.dev.olderRuns n := by
        intro n; simp only [Dev.olderRuns, Dev.flight, Dev.run, hf]
      unfold readByte
      rw [ho, hm]
    refine ⟨_, _, by rw [show c0.readByte r = c.readByte r from funext hb], ?_, ?_, ?_⟩
    · rw [markUndeclared_mem, hm]
    · rw [markUndeclared_rest, hd]
    · obtain h | h := markUndeclared_cases c0 { r with reads := l } bad <;> rw [h]
  have h1 : c1 = c := by show acc.1 = c; rw [hacc]
  have h2 : c2.mem = c.mem ∧ Dev.rest c2.dev = Dev.rest c.dev := by
    show (if fromMem.length < ext.length then c1.onDev fun d => d.tally 0x00E else c1).mem = c.mem ∧
      Dev.rest (if fromMem.length < ext.length then c1.onDev fun d => d.tally 0x00E else c1).dev = Dev.rest c.dev
    rw [h1]
    split
    · exact ⟨rfl, by simp [onDev]⟩
    · exact ⟨rfl, rfl⟩
  exact key c2 h2.1 h2.2 _

/-- A store changes of its instance the buffer and the undeclared mark, and keeps memory (R62). -/
theorem storeMem_run (c : Core) (r : Run) (ws : List (Nat × Byte)) (names : List Nat) :
    ∃ u, (c.storeMem r ws names).2 =
      { r with buf := ws.foldl (fun b x => alPut x.1 x.2 b) r.buf, undeclared := u } := by
  unfold storeMem
  extract_lets r' gs c2
  exact ⟨_, markUndeclared_run ..⟩

theorem storeMem_mem (c : Core) (r : Run) (ws : List (Nat × Byte)) (names : List Nat) :
    (c.storeMem r ws names).1.mem = c.mem := by
  unfold storeMem
  extract_lets r' gs c2
  rw [markUndeclared_mem]
  exact foldl_keeps (fun c : Core => c.mem) _ (fun _ _ => touch_mem ..) _ _

end Core

end Sys2Proof.Machine
end

