-- ==== Sys2Proof/Tests/Slice0.lean ====
section
/-! SUPPORT. The model's own tests: ill-formed commands refused, steps whose expected values stand in the spec's worked
examples or in the standards it names, and for every statement with hypotheses a theorem `witness_<statement>` with
concrete states and operands that meet them. -/

open Sys2Proof Sys2Proof.Machine Sys2Proof.Claims

namespace Sys2Proof.Tests

set_option Elab.async false

/-- A device in a state with fields set. -/
def dv (st : DevState) (fs : List (Fld × Nat)) : Dev := fs.foldl (fun d f => d.fset f.1 f.2) { st := st }

/-- A block that holds a device and nothing else. -/
def su (d : Dev) : State := { core := { dev := d } }

/-- A state and its properties. -/
abbrev holds (s : State) (p : State → Prop) : Prop := p s

/-- An instance at the head of train 0, every register its own. -/
def r0 : Run :=
  { task := 0, sid := 5, start := 0x10000000, pc := 0x10000104, age := 0, opened := true, retired := 1
    owned := { w := 0xFFFF, l := 0xFF, fl := 0xFFFFFFFF, rs := true }
    regs :=
      { w := #v[7, 0xFFFFFFF9, 0x80000000, 3, 0x3F800000, 0x40400000, 0x12345678, 0x9ABCDEF0, 0, 1, 2, 0xFFFFFFFF,
          0x7FFFFFFF, 40, 33, 5]
        l := #v[true, false, true, true, false, false, true, false], flags := 0x5 } }

/-- An image in half A. -/
def img : Image := { half := 0 }

/-- A block in RUN with `r0` on train 0. -/
def s0 : State :=
  su { dv .run [] with
    esc := { image := some img }, mov := { trains := #v[some r0, none, none, none] }, tb := 1234 }

/-- `ReadyTo` as a Bool. -/
def readyB (s : State) (tr : Fin 4) (r : Run) (srcs : Srcs) (a : Word) : Bool :=
  s.powered && decide (s.core.dev.run tr = some r) && r.opened && decide (r.exit = none) && decide (r.retired < 511)
    && s.core.dev.ready r srcs && s.core.inHalf a

theorem readyTo_of {s : State} {tr : Fin 4} {r : Run} {srcs : Srcs} {a : Word} (h : readyB s tr r srcs a = true) :
    ReadyTo s tr r srcs a := by
  simp only [readyB, Bool.and_eq_true, decide_eq_true_eq] at h
  exact ⟨h.1.1.1.1.1.1, h.1.1.1.1.1.2, h.1.1.1.1.2, h.1.1.1.2, h.1.1.2, h.1.2, h.2⟩

/-- A body that is legal and whose operands `r0` has. -/
def readyFor (legal : Body → Bool) (srcs : Body → Srcs) (b : Body) : Bool :=
  legal b && readyB s0 0 r0 (srcs b) (r0.pc + 4)

/-- `CleanRead` as a Bool. -/
def cleanB (s : State) (r : Run) (as : List Nat) : Bool :=
  (as.all fun a => decide (s.core.readClass (a / 32) [] = .clean)) && (as.all fun a => s.core.mem.usable a 1)
    && decide (r.reads.length + as.length ≤ 128)

theorem cleanRead_of {s : State} {r : Run} {as : List Nat} (h : cleanB s r as = true) : CleanRead s r as := by
  simp only [cleanB, Bool.and_eq_true, List.all_eq_true, decide_eq_true_eq] at h
  exact ⟨h.1.1, h.1.2, h.2⟩

/-- `SlotReady` as a Bool. -/
def slotB (s : State) (r : Run) (n : Nat) : Bool :=
  let x := alGet n ({} : Slot) s.core.dev.slots
  !x.poison && x.assigned && decide (x.owner = r.task) && decide (s.core.readClass (slotGroup n) [] = .clean)
    && decide (r.reads.length < 128) && !Core.needsSplit (start r) [65536 + n]

theorem slotReady_of {s : State} {r : Run} {n : Nat} (h : slotB s r n = true) : SlotReady s r n := by
  simp only [slotB, Bool.and_eq_true, Bool.not_eq_true', decide_eq_true_eq] at h
  exact ⟨h.1.1.1.1.1, h.1.1.1.1.2, h.1.1.1.2, h.1.1.2, h.1.2, h.2⟩

/-- An image whose task 0 owns a retentive, an input and an output range. -/
def img2 : Image :=
  { half := 0, tasks := List.replicate 16 { cfg := 0 }
    io :=
      [{ typ := 3, owner := 0, start := 0x10000, len := 0x40, safe := 0 },
       { typ := 1, owner := 0, start := 0x100, len := 0x40, safe := 0 },
       { typ := 2, owner := 0, start := 0x8000, len := 0x100, safe := 0 }] }

/-- A block in RUN whose work memory holds eight bytes. -/
def s1 : State :=
  { core :=
      { mem :=
          { cells := [(0x10000, 0x5A), (0x10001, 0xA5), (0x10002, 0x80), (0x10003, 0x7F), (0x10004, 1), (0x10005, 2),
              (0x10006, 3), (0x10007, 0xF4)] }
        dev :=
          { dv .run [] with
            esc := { image := some img2 }, mov := { trains := #v[some r0, none, none, none] }, tb := 1234 } } }

/-- Registers that hold addresses. -/
def wRegs : Vector Word 16 :=
  #v[0x10000, 0x10003, 0x8000, 0x40010000, 0x10000200, 0x40400000, 0x12345678, 0x9ABCDEF0, 0, 1, 2, 0xFFFFFFFF,
    0x7FFFFFFF, 40, 33, 5]

/-- `r0` with those registers and a return stack three deep. -/
def rr : Run := { r0 with regs := { r0.regs with w := wRegs, rs := Vector.replicate 16 0x10000300, d := 3 } }

/-- `s1` with an instance on train 0. -/
def si (r : Run) : State :=
  { s1 with core := { s1.core with dev := { s1.core.dev with mov := { trains := #v[some r, none, none, none] } } } }

/-- A state with its device changed. -/
def sd (d : Dev → Dev) (s : State) : State := { s with core := { s.core with dev := d s.core.dev } }

/-- A block whose timer slot `n` is assigned to task 0. -/
def sSlot (n : Nat) : State := sd (fun d => { d with slots := [(n, { assigned := true })] }) (si rr)

/-- Whether an access goes to work memory at these bytes. -/
def placeIs (p : Except Nat Place) (as : List Nat) : Bool := match p with | .ok (.mem bs) => bs == as | _ => false

/-- The trap code of an access that is refused. -/
def refused (p : Except Nat Place) : Option Nat := match p with | .error code => some code | .ok _ => none

/-- Whether an access goes to a page address. -/
def isPage (p : Except Nat Place) (a : Nat) : Bool := match p with | .ok (.page b) => a == b | _ => false

/-- A complication that moves a constant to Wd. -/
def cx1 : CpxEntry :=
  { count := 2, eflags := 0
    ops := [BitVec.ofNat 32 (0xB0000000 + 7 * 2 ^ 24 + 65535), BitVec.ofNat 32 (0xA0000000 + 7 * 2 ^ 20)] }

/-- A complication on pairs. -/
def cx2 : CpxEntry := { count := 3, eflags := 6, ops := [0x30890011, 0xA0000000, 0xA0004000] }

/-- A block whose decode bank holds complications 0 and 15. -/
def sc (r : Run) : State :=
  sd (fun d =>
    { d with mov := { d.mov with bank :=
      { present := 0x8001, entries := [cx1, cx2] ++ List.replicate 13 cx1 ++ [cx2] } } }) (si r)

/-- The hypotheses on a complication whose sequence ends normally. -/
def cpx2 (s : State) (n : Fin 16) (r : Run) (b : Body) : Bool :=
  match s.core.dev.mov.bank.entries[n.val]? with
  | none => false
  | some x =>
    match Core.micro { train := 0, area := s.area, bits := b, entry := x, regs := read s r } x.ops.length 0 s.core (start r)
        {} with
    | .next _ r' =>
      s.core.dev.mov.bank.present.getLsbD n && (x.eflags / 2 % 2 = 0 || pairOk (fD b))
        && (x.eflags / 4 % 2 = 0 || pairOk (fS b))
        && decide ((Core.bufGroups (start r)).length + Core.microStores x ≤ 64)
        && readyB s 0 r (Core.microSrcs x b) r'.pc
        && decide (r'.exit = none ∧ r'.retired = r.retired ∧ r'.issued = r.issued)
        && (Core.bankGroups s.core.dev n x.count).all fun g => decide (s.core.readClass g [] = .clean)
    | _ => false

/-- Settings from byte values. -/
def sb (l : List (Nat × Nat)) : Settings :=
  BitVec.ofNat 4096 (l.foldl (fun a x => a + x.2 * 2 ^ (8 * x.1)) 0)

/-- Sixteen equal tasks. -/
def tk (f : Task → Task) : Vector Task 16 := Vector.replicate 16 (f {})

/-- A start-up that meets nothing unusual. -/
def bi : BootIn :=
  { testEn := false, otpRetries := 0, coreLost := false, gensLost := [], badGroups := [], slotRetries := 0,
    slotsLost := [] }

/-- A cyclic frame without segments. -/
def frm (seq : Nat) : List Byte :=
  makeFrame
    { typ := 1, flags := 0, seq := seq, epoch := 0, txTime := 5, corr := 3, src := 4, nseg := 0, hops := 2
      layoutId := 9 } []

/-- A station of a configured ring. -/
def lm (st : DevState) (role : Nat) (fs : List (Fld × Nat)) : Dev :=
  { dv st ([(F.LAC_TB_TB, 100000), (F.LAC_PORT_UP 0, 1), (F.LAC_PORT_UP 1, 1), (F.LAC_PORT_UP 2, 1), (F.LAC_PORT_UP 3, 1),
      (F.LAC_PORT_DELAY 3, 11), (F.LAC_CFG_TX_OFS, 500)] ++ fs) with
    settings := sb [(2, role)], esc := { image := some img } }

/-- A station as ENUM collects it. -/
def sta : Station := { devId := 77, outLen := 4, inLen := 8, branch := 3, partner := none, pref := false }

/-- A pair member in a WELT state. -/
def pm (st : DevState) (w role : Nat) (fs : List (Fld × Nat)) : Dev :=
  { dv st ([(F.WLT_STAT_STATE, w), (F.WLT_STAT_LINK_UP, 1), (F.LAC_TB_TB, 100000), (F.LAC_PORT_UP 0, 1),
      (F.LAC_PORT_UP 1, 1)] ++ fs) with
    settings := sb [(2, role), (4, 64)], esc := { image := some img } }

/-- A STATUS block. -/
def wst : WStatus :=
  { state := 2, hash := [], tableId := 0, period := 1000000, tb := 100000, rmul := 1, layoutId := 0, dev := .run
    beat := 5, time := 5000000, lepoch := 3, lc := 9, culpritless := 0, peer := 4, role := 1, branch := 2, pref := true
    armed := none, seamNs := 0, rsv := 1000 }

/-- A session whose sequence number is about to wrap. -/
def ses : Session := { id := 5, ks := [1, 2, 3], seq := 65535, lastAt := 3, resp := [9] }

/-- A tagged request of that session. -/
def rq (cmd seq : Nat) (p : List Byte) : SspReq :=
  let r : SspReq := { seq := BitVec.ofNat 16 seq, session := 5, payload := p, tag := [] }
  { r with tag := sspTag ses.ks (signedPart cmd r) }

/-- A block with OTP, recorder area, memory and registers in use, and two commands waiting. -/
def sQueue : State :=
  { sd (fun d => d.fset (F.SAF_AX_STATE 1) 2) s1 with
    otp := { keyRevoked := 3 }, area := { slots := [(7, 5)] }, pending := [.fieldDieDown, .vfUv] }

/-! ### Ill-formed commands (smoke test of `WellFormed`) -/

theorem test_illFormedFrame (bs : List Byte) (h : 260642 < bs.length) :
    (Instr.frameArrival 2 bs).wellFormed = false := decide_eq_false (by omega)

theorem test_illFormed :
    ([.frameReturn 2 ⟨[], [128]⟩, .linkDelayMeasurement 0 (List.replicate 17 1) (List.replicate 17 0),
      .enum 2 128 [] false, .enum 2 0 [⟨0, 1025, 0, 0, none, false⟩] false,
      .layout 0 [] 65536, .layout 0 [⟨128, 0, 0, 0⟩] 0, .joinReq 0 ⟨0, 0, 1025, 0, 0, 0⟩, .joinAck 0 ⟨0, none, [], 65536, 0⟩,
      .mailboxRequest 0 ⟨0, 32, 0, 0, 0, 4, [], 0⟩, .mailboxResponse 0 ⟨0, 0, 0, 0, 0, 257, [], 0⟩ true,
      .managementFrame 0 (2 ^ 32) ⟨1, 0, 0, 0, 0, 0⟩ false, .managementFrame 0 0 ⟨5, 0, 0, 0, 0, 0⟩ false,
      .leaseLapse 16384 false, .nak ⟨2 ^ 32, true⟩ 0, .status ⟨0, true⟩ { wst with state := 8 },
      .input ⟨0, true⟩ (List.replicate 9 (0, 0)), .sched ⟨0, true⟩ ⟨0, [(16, 0)], [], [], [], false, false, false, false, false⟩,
      .mark ⟨0, true⟩ 16 0, .loadlog ⟨0, true⟩ [(16, 0, 0)], .copy ⟨0, true⟩ [.grp 4 0 0],
      .copyEnd ⟨0, true⟩ 16 0 0 0 false 0, .ack ⟨0, true⟩ 16 0 0 false 0, .seamBlock ⟨0, true⟩ [1] 0,
      .resync ⟨0, true⟩ [.mailbox 32 0 []] none, .openSession 0 (List.replicate 1025 0), .run ⟨0, 0, [], [1]⟩,
      .suppliesValid { bi with gensLost := [8] },
      .resetNRise { bi with slotsLost := [12288] }, .scrubRead (2 ^ 27) [] [], .watchReread 0 [(39, 1)] [],
      .aoEvaluation 0 65536 0, .loopStep 0 [(39, 1)] [], .canFrameReceived 0 ⟨0, false, 1, false, false, false, false, 0, []⟩ [] [],
      .canFrameReceived 0 ⟨0, false, 0, false, false, false, false, 8, [1]⟩ [] [], .canTransmissionEnd 0 0 0 [(39, 1)] [],
      .canBusError 0 8 false 0, .canObjectWrite .host 2 0, .recorderOccurrence 25 0 [], .hostInputWrite 4095 [1, 2],
      .hostUnmappedWrite (2 ^ 25), .registerWrite .host ⟨2 ^ 20, 4⟩ 0, .registerWrite .service ⟨6, 4⟩ 0, .lowWordRead .host (.page 2)] :
      List Instr).all (fun c => !c.wellFormed) = true := by
  decide +kernel

theorem test_wellFormed :
    ([.beat, .frameArrival 2 (frm 7), .run (rq 0x30 0 []), .registerWrite .host ⟨0xFFFFC, 4⟩ 0, .hostInputWrite 4095 [1],
      .suppliesValid bi, .status ⟨2 ^ 32 - 1, true⟩ { wst with hash := [] }] : List Instr).all Instr.wellFormed = true := by
  decide +kernel

/-! ### Standards the spec names -/

/-- The check value of CRC-32 (IEEE 802.3) over the digits 1 to 9. -/
theorem test_crc32 : crc32 [0x31, 0x32, 0x33, 0x34, 0x35, 0x36, 0x37, 0x38, 0x39] = 0xCBF43926#32 := by decide +kernel

/-- The check value of CRC-16 with polynomial 0x1021 and initial value 0xFFFF. -/
theorem test_scrc : scrc [0x31, 0x32, 0x33, 0x34, 0x35, 0x36, 0x37, 0x38, 0x39] = 0x29B1 := by decide +kernel

/-- FIPS 180-4: SHA-256 of "abc". -/
theorem test_sha256 : (sha256 [0x61, 0x62, 0x63]).take 8 = [0xBA, 0x78, 0x16, 0xBF, 0x8F, 0x01, 0xCF, 0xEA] := by
  decide +kernel

/-- RFC 4231, test case 2: HMAC-SHA-256 with key "Jefe". -/
theorem test_hmac : (hmacSha256 [0x4A, 0x65, 0x66, 0x65] [0x77, 0x68, 0x61, 0x74, 0x20, 0x64, 0x6F, 0x20, 0x79, 0x61, 0x20,
    0x77, 0x61, 0x6E, 0x74, 0x20, 0x66, 0x6F, 0x72, 0x20, 0x6E, 0x6F, 0x74, 0x68, 0x69, 0x6E, 0x67, 0x3F]).take 4 =
    [0x5B, 0xDC, 0xC1, 0x46] := by
  decide +kernel

/-- IEEE 754: 1 + 3 is 4, and 1 / 3 is inexact. -/
theorem test_single : (Fmt.single.arith .add 0 0x3F800000 0x40400000).bits = 0x40800000 ∧
    (Fmt.single.arith .div 0 0x3F800000 0x40400000).bits = 0x3EAAAAAB := by
  decide +kernel

/-! ### The spec's worked examples -/

/-- The core after one command. -/
def after (c : Instr) (s : State) : State := match exec c s with | .next t => t | _ => s

/-- Word register `i` of the instance on train 0 as the next instruction reads it. -/
def regOf (s : State) (i : Nat) : Nat := ((s.core.dev.run 0).map fun r => (s.core.dev.seen r).getW i).getD 0

/-- Table 4.6: the word at 0x0004_1008 is 0xC8, W1 holds 0x0004_1000 and W3 holds 5. -/
def sLoad : State :=
  { si { rr with regs := { rr.regs with w := (rr.regs.w.set 1 0x41000).set 3 5 } } with
    core := { (si { rr with regs := { rr.regs with w := (rr.regs.w.set 1 0x41000).set 3 5 } }).core with
      mem := { cells := [(0x41008, 0xC8)] } } }

/-- Table 4.6: the instruction in the load delay reads the old W3, the next one the new. -/
theorem test_loadDelay :
    (let s := after (.addAddi 0 false 0x433000) (after (.load 0 .ldw 0x310002) sLoad)
     regOf s 4 = 0x0A ∧ regOf (after (.addAddi 0 false 0x533000) s) 5 = 0x190) := by
  decide +kernel

/-- Table 5.7: the complication SCLQ. -/
def sclq : CpxEntry :=
  { count := 13, eflags := 0, ops := [0x4090040F, 0x31AE0013, 0xC0000013, 0xD0000000, 0x30010009, 0xB200000F, 0x30020007,
    0x300D0000, 0x300E000B, 0xB3007FFF, 0x3003001A, 0xA0000000, 0x90000013] }

/-- A block whose entry 3 is SCLQ, with W2 = 0x0001_6000 and W3 as given. -/
def sSclq (w3 : Word) : State :=
  sd (fun d => { d with mov := { d.mov with bank := { present := 8, entries := List.replicate 4 sclq } } })
    (si { rr with regs := { rr.regs with w := (rr.regs.w.set 2 0x16000).set 3 w3 } })

/-- Table 5.7: SCLQ W5, W2, W3, 100 gives 0x3C64, and a negative gain traps with code 0x10. -/
theorem test_sclq : regOf (after (.complication 0 3 0x523064) (sSclq 0x5000)) 5 = 0x3C64 ∧
    (after (.complication 0 3 0x523064) (sSclq 0x80000000)).core.dev.fget F.MOV_TRAP_INFO_CODE = 0x10 := by
  decide +kernel

/-- Table 6.4: the slot at j = 90, one evaluation later, and after a skip of 20 cycles. -/
theorem test_ton :
    (let s : Slot := { new := false, run := true, inPrev := true, et := 978, sub := 110, last := 978110 }
     let y := slotEval tonStep s 989100 1000 true false
     let z := slotEval tonStep y.1 1000090 1000 true false
     y.1.et = 989 ∧ y.1.sub = 100 ∧ y.2 = false ∧ z.1.et = 1000 ∧ z.1.sub = 90 ∧ z.2 = true) ∧
    (slotEval tonStep { new := false, run := true, inPrev := true, et := 439, sub := 600, last := 439600 } 659400 1000 true
      false).1.et = 659 := by
  decide +kernel

/-- R146's example: the staged date is second 0x34F9_F67F, a Tuesday, and 2100 is no leap year. -/
theorem test_calendar : bcdSec 0x235959 0x20280229 = some 0x34F9F67F ∧ calDow 0x34F9F67F = 2 ∧
    calDate 0x34F9F680 = 0x20280301 ∧ calTime 0x34F9F680 = 0 ∧ calDow 0x34F9F680 = 3 ∧ bcdSec 0 0x21000229 = none := by
  decide +kernel

/-- Table 10.3: one wrong byte, two wrong bytes, and address line 12 stuck. -/
theorem test_code : classify [(11, 1)] = .correctable 11 1 ∧ classify [(11, 1), (12, 1)] = .uncorrectable ∧
    classify [(36, 0x10)] = .misaddr := by
  decide +kernel

/-- Table 17.5: TRAINS is written only with the host's lock open. -/
theorem test_unlock :
    (let s := su (dv .run [])
     let t := after (.movCtlWrite .host 0x101) s
     let u := after (.registerWrite .host ⟨0x1C, 4⟩ 0x6A5A) t
     let v := after (.movCtlWrite .host 0x101) u
     t.core.dev.rget A.MOV_CTL = 0x103#32 ∧ t.core.dev.fbit ⟨A.MOV_STAT, 31, 31⟩ = true ∧
     v.core.dev.rget A.MOV_CTL = 0x101#32) := by
  decide +kernel

/-! ### Single commands -/

/-- R83: ADD wraps and sets Z and C; MULs high half is lost. -/
theorem test_addWraps : (addRes 32 0xFFFFFFFF 1).1 = 0 ∧ (mulRes 32 0x10000 0x10000).1 = 0 := by decide +kernel

/-- R88: a division by zero saturates and does not stop. -/
theorem test_divByZero : (divRes 32 5 0).1 = 0x7FFFFFFF ∧ (divRes 32 0xFFFFFFFB 0).1 = 0x80000000 := by decide +kernel

/-- R303: the second failed lane frame in a row sets both axes to STO. -/
theorem test_lane :
    (let f : LaneIn := ⟨false, 0, 0, 0, 0, 0⟩
     let s := su { dv .run [(F.SAF_AX_STATE 0, 0), (F.SAF_AX_STATE 1, 0)] with
       safe := { absent := false, blockOk := true }, settings := BitVec.ofNat 4096 (2 ^ 2119 + 2 ^ 2567) }
     let t := after (.safetyLaneInboundFrame f) s
     let u := after (.safetyLaneInboundFrame f) t
     t.core.dev.axState 0 = 0 ∧ t.core.dev.axState 1 = 0 ∧ u.core.dev.axState 0 = 2 ∧ u.core.dev.axState 1 = 2) := by
  decide +kernel

/-- The block idles on an empty queue: without supplies nothing changes. -/
theorem test_idle : (match step State.reset with | .next t => t == State.reset | _ => false) = true := by decide +kernel

/-- R242: the worked example of the check bytes. -/
theorem test_checkBytes :
    checkBytes 0x41000 ((List.range 32).map fun i => if i = 8 then 0xC8 else 0) = [0xB9, 0xAD, 0xC8] := by decide +kernel

/-- Tables 4.6 and 4.10: the encoded rung and the load, and words that spell no instruction. -/
theorem test_decode :
    decodeTableWord 32 0x01012000 = some (.strand 0 0x012000) ∧ decodeTableWord 32 0x50201388 = some (.movl 0 0x201388) ∧
    decodeTableWord 32 0x10000003 = some (.ld 0 3) ∧ decodeTableWord 32 0x13000012 = some (.andnBit 0 0x12) ∧
    decodeTableWord 32 0xC0040011 = some (.ton 0 0x040011) ∧ decodeTableWord 32 0x18040000 = some (.st 0 0x040000) ∧
    decodeTableWord 32 0x94310002 = some (.load 0 .ldw 0x310002) ∧
    decodeTableWord 32 0x30433000 = some (.addAddi 0 false 0x433000) ∧
    decodeTableWord 32 0xF0000000 = none ∧ decodeTableWord 24 0 = none := by
  decide +kernel

/-! ### Witnesses: the hypotheses of every statement are met -/

theorem witness_WordArithmetic :
    readyFor (legalWR) (fun b => { w := [fS b, fT b] }) 0xFFF000 = true ∧
    readyFor (legalWI) (fun b => { w := [fS b] }) 0xFF0FFF = true ∧
    readyFor (legalWR) (fun b => rounded [fS b, fT b]) 0x045000 = true ∧
    readyFor (fun b => legalWR b && fD b = 0) (fun b => { w := [fS b, fT b] }) 0x045000 = true ∧
    readyFor (fun b => legalWR b && fT b = 0) (fun b => rounded [fS b]) 0xF40000 = true := by
  decide +kernel

theorem witness_WordLogic :
    readyFor (legalWR) (fun b => { w := [fS b, fT b] }) 0x000000 = true ∧
    readyFor (legalWI) (fun b => { w := [fS b] }) 0xFF0FFF = true ∧
    readyFor (fun b => legalWI b && decide (fImm12 b ≤ 31)) (fun b => { w := [fS b] }) 0x12001F = true ∧
    readyFor (fun b => legalWR b && fS b = 0) (fun b => { w := [fT b] }) 0xF0F000 = true ∧
    readyFor (fun b => legalWI b && fS b = 0) (fun _ => {}) 0xF00FFF = true ∧
    readyFor (legalWK) (fun b => { w := [fD b] }) 0xF0FFFF = true ∧
    readyFor (legalWB) (fun b => { w := [fS b, fD b] }) 0xF003E0 = true ∧
    readyFor (legalWB) (fun b => { w := [fS b, fD b] }) 0xF0001F = true := by
  decide +kernel

theorem witness_WordLogic_2 :
    readyFor (fun b => pairOk (fS b) && selOk (fImm16 b)) (fun b => { w := [fS b, fS b + 1] }) 0xFE9999 = true ∧
    readyFor (fun b => fldB b 19 3 = 0) (fun b => { l := [fldB b 2 0] }) 0xF00007 = true := by
  decide +kernel

theorem witness_PairArithmetic :
    readyFor (legalD3) (fun b => { w := pairW (fS b) ++ pairW (fT b) }) 0xEEE000 = true ∧
    readyFor (fun b => legalD3 b && fS b = 0) (fun b => { w := pairW (fT b) }) 0xE0E000 = true ∧
    readyFor (fun b => legalWR b && pairOk (fD b) && fT b = 0) (fun b => { w := [fS b] }) 0xEF0000 = true ∧
    readyFor (fun b => legalWR b && pairOk (fD b) && pairOk (fS b)) (fun b => { w := pairW (fS b) ++ [fT b] }) 0xE2F000 = true ∧
    readyFor (legalD3) (fun b => rounded (pairW (fS b) ++ pairW (fT b))) 0xE46000 = true ∧
    readyFor (fun b => legalD3 b && fD b = 0) (fun b => { w := pairW (fS b) ++ pairW (fT b) }) 0x046000 = true ∧
    readyFor (fun b => legalWR b && fT b = 0 && pairOk (fD b) && pairOk (fS b)) (fun b => rounded (pairW (fS b))) 0xE40000 = true ∧
    readyFor (fun b => legalWR b && fT b = 0 && pairOk (fD b)) (fun b => { w := [fS b] }) 0xEF0000 = true := by
  decide +kernel

theorem witness_PairArithmetic_2 :
    readyFor (fun b => legalWR b && fT b = 0 && pairOk (fS b)) (fun b => rounded (pairW (fS b))) 0xFE0000 = true := by
  decide +kernel

theorem witness_Accumulators :
    readyFor (fun b => legalL b 7) (fun b => { l := [fL b, fX b] }) 0xE00007 = true ∧
    readyFor (fun b => legalL b 1) (fun _ => {}) 0xE00001 = true ∧
    readyFor (fun b => legalL b 10) (fun b => { fl := condReads (fX b) }) 0xE0000A = true ∧
    readyFor (fun b => legalL b 15) (fun b => { w := [fX b] }) 0xE0000F = true ∧
    readyFor (fun b => fldB b 19 0 = 0) (fun _ => { fl := flagsMask }) 0xF00000 = true ∧
    readyFor (fun b => fldB b 23 20 = 0 && fldB b 15 0 = 0) (fun b => { w := [fS b] }) 0x0F0000 = true ∧
    readyFor (fun b => b = 0) (fun _ => {}) 0 = true := by
  decide +kernel

theorem witness_FloatingPoint :
    readyFor (legalWR) (fun b => rounded [fS b, fT b]) 0x045000 = true ∧
    readyFor (legalD3) (fun b => rounded (pairW (fS b) ++ pairW (fT b))) 0xE46000 = true ∧
    readyFor (fun b => legalWR b && fD b = 0) (fun b => { w := [fS b, fT b] }) 0x045000 = true ∧
    readyFor (fun b => legalD3 b && fD b = 0) (fun b => { w := pairW (fS b) ++ pairW (fT b) }) 0x046000 = true ∧
    readyFor (fun b => legalWR b && fT b = 0) (fun b => rounded [fS b]) 0xF40000 = true ∧
    readyFor (fun b => legalWR b && fT b = 0 && pairOk (fD b) && pairOk (fS b)) (fun b => rounded (pairW (fS b))) 0xE40000 = true ∧
    readyFor (fun b => legalWR b && fT b = 0 && pairOk (fD b)) (fun b => { w := [fS b] }) 0xEF0000 = true ∧
    readyFor (fun b => legalWR b && fT b = 0 && pairOk (fS b)) (fun b => rounded (pairW (fS b))) 0xFE0000 = true := by
  decide +kernel

theorem witness_FloatingPoint_2 :
    Fmt.single.unpack 0x7FA00001 = .nan true ∧ Fmt.single.unpack 0x3F800000 = .fin false 8388608 (-23) ∧
        Fmt.single.unpack 0x80000000 = .fin true 0 (-149) ∧ Fmt.single.unpack 0 = .fin false 0 (-149) := by
  decide +kernel

theorem witness_BitLoads :
    readyB s1 0 r0 { l := [] } (r0.pc + 4) = true ∧ s1.core.place 0 false (fBit 0x080000 / 8) 1 = .mem [0x10000] ∧
        cleanB s1 r0 [0x10000] = true ∧
    readyB s1 0 r0 { l := [fL 0xE9FFFF] } (r0.pc + 4) = true ∧
        s1.core.place 0 false (fBit 0xE9FFFF / 8) 1 = .mem [0x13FFF] ∧ cleanB s1 r0 [0x13FFF] = true := by
  decide +kernel

theorem witness_BitStores :
    readyB s1 0 r0 { l := [fL 0x480011] } (r0.pc + 4) = true ∧ (read s1 r0).getL (fL 0x480011) = true ∧
        s1.core.place 0 true (fBit 0x480011 / 8) 1 = .mem [0x10002] ∧
        Core.needsSplit (start r0) [0x10002 / 32] = false ∧ cleanB s1 r0 [0x10002] = true ∧
    readyB s1 0 r0 { l := [fL 0x280011] } (r0.pc + 4) = true ∧ (read s1 r0).getL (fL 0x280011) = false ∧
        s1.core.place 0 true (fBit 0x280011 / 8) 1 ≠ .none ∧ s1.core.dev.primes = [] := by
  decide +kernel

theorem witness_Loads :
    (fD 0xE00000 = 14 ∧ pairOk (fD 0xE00000) = true ∧ readyB (si rr) 0 rr { w := [fS 0xE00000] } (rr.pc + 4) = true ∧
        placeIs ((si rr).core.access 0 false (effAddr (read (si rr) rr) 0xE00000 8) 8) (span 0x10000 8) = true ∧
        cleanB (si rr) rr (span 0x10000 8) = true) ∧
    (readyB (si rr) 0 rr { w := [fS 0xF20000] } (rr.pc + 4) = true ∧
        placeIs ((si rr).core.access 0 false (effAddr (read (si rr) rr) 0xF20000 1) 1) [0x8000] = true ∧
        cleanB (si rr) rr [0x8000] = true) := by
  decide +kernel

theorem witness_Stores :
    (pairOk (fD 0xE00000) = true ∧
        readyB (si rr) 0 rr { w := fS 0xE00000 :: pairW (fD 0xE00000) } (rr.pc + 4) = true ∧
        placeIs ((si rr).core.access 0 true (effAddr (read (si rr) rr) 0xE00000 8) 8) (span 0x10000 8) = true ∧
        Core.needsSplit (start rr) ((span 0x10000 8).map (· / 32)) = false) ∧
    (readyB (si rr) 0 rr { w := fS 0x02FFFF :: [fD 0x02FFFF] } (rr.pc + 4) = true ∧
        placeIs ((si rr).core.access 0 true (effAddr (read (si rr) rr) 0x0200FF 1) 1) [0x80FF] = true ∧
        Core.needsSplit (start rr) [0x80FF / 32] = false) := by
  decide +kernel

theorem witness_StoredBytes :
    ([(5, 1), (6, 2)] : List (Nat × Byte)).map (·.1) = [5, 6] ∧ [5, 6].Nodup := by
  decide +kernel

theorem witness_PageAccesses :
    (holds (si rr) fun s =>
        readyB s 0 (rr) ({ w := [3] }) (rr.pc + 4) = true ∧
        isPage (s.core.access rr.task false (effAddr (read s rr) 0x230004 4) 4) 0x40010010 = true ∧
        s.core.isHead 0 = true ∧ s.core.dev.follows = false ∧ s.core.dev.followed = false) ∧
    (holds (si rr) fun s =>
        readyB s 0 (rr) ({ w := [3, 2] }) (rr.pc + 4) = true ∧
        isPage (s.core.access rr.task true (effAddr (read s rr) 0x230004 4) 4) 0x40010010 = true ∧
        s.core.isHead 0 = true) := by
  decide +kernel

theorem witness_Branches :
    (holds (si rr) fun s => readyB s 0 (rr) ({}) (rr.pc + offBytes 0x000010) = true) ∧
    (holds (si rr) fun s => readyB s 0 (rr) ({}) (rr.pc + offBytes 0xFFFFF0) = true) ∧
    (holds (si rr) fun s =>
        readyB s 0 rr {} (rr.pc + offBytes 0x40) = true ∧
        condTrue (0 : Fin 11) (read s rr).flags = true ∨ condTrue (0 : Fin 11) (read s rr).flags = false) ∧
    (holds (si rr) fun s =>
        readyB s 0 rr {} (rr.pc + offBytes 0x40) = true ∧
        condTrue (1 : Fin 11) (read s rr).flags = true ∨ condTrue (1 : Fin 11) (read s rr).flags = false) ∧
    (holds (si rr) fun s =>
        readyB s 0 rr {} (rr.pc + offBytes 0x40) = true ∧
        condTrue (2 : Fin 11) (read s rr).flags = true ∨ condTrue (2 : Fin 11) (read s rr).flags = false) ∧
    (holds (si rr) fun s =>
        readyB s 0 rr {} (rr.pc + offBytes 0x40) = true ∧
        condTrue (3 : Fin 11) (read s rr).flags = true ∨ condTrue (3 : Fin 11) (read s rr).flags = false) ∧
    (holds (si rr) fun s =>
        readyB s 0 rr {} (rr.pc + offBytes 0x40) = true ∧
        condTrue (4 : Fin 11) (read s rr).flags = true ∨ condTrue (4 : Fin 11) (read s rr).flags = false) ∧
    (holds (si rr) fun s =>
        readyB s 0 rr {} (rr.pc + offBytes 0x40) = true ∧
        condTrue (5 : Fin 11) (read s rr).flags = true ∨ condTrue (5 : Fin 11) (read s rr).flags = false) := by
  decide +kernel

theorem witness_Branches_2 :
    (holds (si rr) fun s =>
        readyB s 0 rr {} (rr.pc + offBytes 0x40) = true ∧
        condTrue (6 : Fin 11) (read s rr).flags = true ∨ condTrue (6 : Fin 11) (read s rr).flags = false) ∧
    (holds (si rr) fun s =>
        readyB s 0 rr {} (rr.pc + offBytes 0x40) = true ∧
        condTrue (7 : Fin 11) (read s rr).flags = true ∨ condTrue (7 : Fin 11) (read s rr).flags = false) ∧
    (holds (si rr) fun s =>
        readyB s 0 rr {} (rr.pc + offBytes 0x40) = true ∧
        condTrue (8 : Fin 11) (read s rr).flags = true ∨ condTrue (8 : Fin 11) (read s rr).flags = false) ∧
    (holds (si rr) fun s =>
        readyB s 0 rr {} (rr.pc + offBytes 0x40) = true ∧
        condTrue (9 : Fin 11) (read s rr).flags = true ∨ condTrue (9 : Fin 11) (read s rr).flags = false) ∧
    (holds (si rr) fun s =>
        readyB s 0 rr {} (rr.pc + offBytes 0x40) = true ∧
        condTrue (10 : Fin 11) (read s rr).flags = true ∨ condTrue (10 : Fin 11) (read s rr).flags = false) ∧
    (holds (si rr) fun s => readyB s 0 rr {} (rr.pc + offBytes 0x40) = true) := by
  decide +kernel

theorem witness_Calls :
    (holds (si rr) fun s => readyB s 0 (rr) ({ rs := true }) (rr.pc + offBytes 0x40) = true ∧ roomToCall s rr) ∧
    (holds (si rr) fun s =>
        readyB s 0 (rr) ({ w := [4], rs := true }) (0x10000200) = true ∧ roomToCall s rr ∧ fldB 0x040000 23 20 = 0 ∧
        fldB 0x040000 15 0 = 0 ∧ 0x10000200#32 = BitVec.ofNat 32 ((read s rr).getW (fS 0x040000))) ∧
    (holds (si rr) fun s =>
        readyB s 0 (rr) ({ rs := true }) (0x10000300) = true ∧ (read s rr).d ≠ 0 ∧
        (0x10000300#32) = (read s rr).rs.toList.getD (((read s rr).d - 1) % 16) 0) ∧
    (holds (si { rr with regs := { rr.regs with d := 0 } }) fun s =>
        readyB s 0 ({ rr with regs := { rr.regs with d := 0 } }) ({ rs := true }) (rr.pc) = true ∧
        (read s { rr with regs := { rr.regs with d := 0 } }).d = 0) ∧
    (holds (sd (fun d => { d with mov := { trains := #v[some { rr with regs := { rr.regs with d := 0 }, age := 5 }, none, some rr, none] } }) (si rr)) fun s =>
        readyB s 0 ({ rr with regs := { rr.regs with d := 0 }, age := 5 }) ({ rs := true }) (rr.pc) = true ∧
        (read s { rr with regs := { rr.regs with d := 0 }, age := 5 }).d = 0) := by
  decide +kernel

theorem witness_Timers :
    readyB (sSlot 4095) 0 rr { w := [fP 0xFE0FFF], l := [fL 0xFE0FFF] } (rr.pc + 4) = true ∧ fldB 0xFE0FFF 16 12 = 0 ∧
        fSlot 0xFE0FFF = 4095 ∧ slotB (sSlot 4095) rr 4095 = true ∧
    readyB (sSlot 4095) 0 rr { w := [fP 0xC00FFF], l := [fL 0xC00FFF, fL 0xC00FFF + 1] } (rr.pc + 4) = true ∧
        fL 0xC00FFF ≤ 6 ∧
    readyB (sSlot 4095) 0 rr {} (rr.pc + 4) = true ∧ fldB 0xF00FFF 19 12 = 0 := by
  decide +kernel

theorem witness_Counters :
    (readyB (si rr) 0 rr { w := pairW (fP 0x0C0001) ++ [fldB 0x0C0001 16 13], l := (List.range 4).map (fL 0x0C0001 + ·) } (rr.pc + 4) = true ∧
        fL 0x0C0001 + 4 ≤ 8 ∧ pairOk (fP 0x0C0001) = true ∧
        0x10010 = ((read (si rr) rr).getW (fldB 0x0C0001 16 13) + 16 * fldB 0x0C0001 12 0) % 2 ^ 32 ∧
        Core.accessTrap ((si rr).core.place 0 true 0x10010 16) 0x10010 16 = none ∧
        Core.needsSplit (start rr) [0x10010 / 32] = false ∧ cleanB (si rr) rr (span 0x10010 9) = true) ∧
    (readyB (si rr) 0 rr { w := [fP 0xC00001] ++ [fldB 0xC00001 16 13], l := (List.range 2).map (fL 0xC00001 + ·) } (rr.pc + 4) = true ∧
        fL 0xC00001 + 2 ≤ 8) := by
  decide +kernel

theorem witness_HeadInstructions :
    (holds (si rr) fun s =>
        readyB s 0 (rr) ({}) (rr.pc + 4) = true ∧ s.core.isHead 0 = true ∧ fldB 0x000005 23 3 = 0) ∧
    (holds (si rr) fun s => readyB s 0 (rr) ({}) (rr.pc + 4) = true ∧ s.core.isHead 0 = true) ∧
    (holds (si rr) fun s => readyB s 0 (rr) ({ w := List.range 12 }) (rr.pc + 4) = true ∧ s.core.isHead 0 = true) ∧
    (holds (sd (fun d => { d with mov := { trains := #v[some { rr with age := 5 }, none, some rr, none] } }) (si rr)) fun s =>
        readyB s 0 { rr with age := 5 } {} (rr.pc + 4) = true ∧ s.core.isHead 0 = false) ∧
    (holds (si rr) fun s => readyB s 0 (rr) ({}) (rr.pc + 4) = true ∧ legalTime 0x400000 = true) := by
  decide +kernel

theorem witness_Strands :
    (holds (si rr) fun s => s.powered = true ∧ s.core.dev.run 0 = some rr ∧ rr.opened = true ∧ rr.exit = none) ∧
    (holds (si { rr with opened := false, owned := {}, retired := 0, prevSealed := some true }) fun s =>
        s.powered = true ∧
        (s.core.dev.run 0 = some { rr with opened := false, owned := {}, retired := 0, prevSealed := some true }) ∧
        fldB 0x005000 10 0 = 0 ∧
        dormant s.core { rr with opened := false, owned := {}, retired := 0, prevSealed := some true } (fSid 0x005000) (fSealed 0x005000) = none ∧
        (if fSealed 0x005000 then some true else prevSealed s.core { rr with opened := false, owned := {}, retired := 0, prevSealed := some true }) = some true) ∧
    (holds (si { rr with opened := false, owned := {}, retired := 0, prevSealed := some true }) fun s =>
        s.powered = true ∧
        (s.core.dev.run 0 = some { rr with opened := false, owned := {}, retired := 0, prevSealed := some true }) ∧
        fldB 0x005800 10 0 = 0 ∧
        dormant s.core { rr with opened := false, owned := {}, retired := 0, prevSealed := some true } (fSid 0x005800) (fSealed 0x005800) = none ∧
        (if fSealed 0x005800 then some true else prevSealed s.core { rr with opened := false, owned := {}, retired := 0, prevSealed := some true }) = some true) ∧
    (holds (si { rr with opened := false, owned := {}, retired := 0, prevSealed := some false }) fun s =>
        s.powered = true ∧
        (s.core.dev.run 0 = some { rr with opened := false, owned := {}, retired := 0, prevSealed := some false }) ∧
        dormant s.core { rr with opened := false, owned := {}, retired := 0, prevSealed := some false } (fSid 0x005000) (fSealed 0x005000) = none ∧
        (if fSealed 0x005000 then some true else prevSealed s.core { rr with opened := false, owned := {}, retired := 0, prevSealed := some false }) = some false) ∧
    (holds (sd (fun d => ({ d with mov := { d.mov with dorm := [{ sid := 5, task := 0, addr := 0x10000000, ok := true }] }, esc := { d.esc with tasks := d.esc.tasks.map fun (t : Task) => { t with fullScan := false } } }).fset F.ESC_CTL_DORMANT_EN 1 |>.fset F.MOV_FP_CNT_CNT 6 |>.fset ⟨A.MOV_FP_BASE, 31, 0⟩ 0x10000) { (si { rr with opened := false, owned := {}, retired := 0, pc := 0x10000000, prevSealed := some true }) with core := { (si { rr with opened := false, owned := {}, retired := 0, pc := 0x10000000, prevSealed := some true }).core with mem := { cells := [(0x100A0, 9), (0x100A1, 1), (0x100A2, 3)] } } }) fun s =>
        s.powered = true ∧
        (s.core.dev.run 0 = some { rr with opened := false, owned := {}, retired := 0, pc := 0x10000000, prevSealed := some true }) ∧
        fldB 0x005800 10 0 = 0 ∧
        dormant s.core { rr with opened := false, owned := {}, retired := 0, pc := 0x10000000, prevSealed := some true } (fSid 0x005800) (fSealed 0x005800) = some 0x109 ∧
        s.core.isHead 0 = true) := by
  decide +kernel

theorem witness_Complications :
    (holds (si rr) fun s =>
        s.powered = true ∧ s.core.dev.run 0 = some rr ∧ s.core.dev.mov.bank.present.getLsbD (15 : Fin 16) = false) ∧
    (holds (sc rr) fun s => cpx2 s 15 rr 0x243000 = true) ∧
    (holds (sc rr) fun s => cpx2 s 0 rr 0x523456 = true) ∧
    (holds (sc rr) fun s =>
        readyB s 0 (rr) (Core.microSrcs cx1 0x523456) (rr.pc + 4) = true ∧
        s.core.dev.mov.bank.present.getLsbD (0 : Fin 16) = true ∧
        s.core.dev.mov.bank.entries[(0 : Fin 16).val]? = some cx1 ∧
        (Core.bankGroups s.core.dev 0 cx1.count).all (fun g => decide (s.core.readClass g [] = .clean)) = true) := by
  decide +kernel

theorem witness_IllegalEncodings :
    (si rr).powered = true ∧ (si rr).core.dev.run 0 = some rr ∧ rr.opened = true ∧ rr.exit = none ∧
    (decide ((1 : Body) = 0)) = false ∧
    (decide (fldB 0x000008 23 3 = 0)) = false ∧
    (decide (fldB 0x010000 23 16 = 0)) = false ∧
    (legalTime 0x100000) = false ∧
    (decide (fldB 0x000001 19 0 = 0)) = false ∧
    (decide (fldB 0x001000 19 12 = 0)) = false ∧
    (legalL 8 7) = false := by
  decide +kernel

theorem witness_IllegalEncodings_2 :
    (legalL 2 1) = false ∧
    (legalL 11 10) = false ∧
    (legalL 0x10 15) = false ∧
    (legalWR 1) = false ∧
    (legalWI 0x001000) = false ∧
    (legalWI 0x000020 && decide (fImm12 0x000020 ≤ 31)) = false ∧
    (legalWK 0x010000) = false ∧
    (legalWB 0x00003F) = false := by
  decide +kernel

theorem witness_IllegalEncodings_3 :
    (pairOk (fS 0) && selOk (fImm16 0x00000A)) = false ∧
    (legalD3 0x100000) = false ∧
    (legalD3 0x200000 && decide (fD 0x200000 = 0)) = false ∧
    (legalWR 0x100000 && pairOk (fD 0x100000) && decide (fT 0x100000 = 0)) = false ∧
    (decide (fldB 0x000001 23 20 = 0) && decide (fldB 0x000001 15 0 = 0)) = false ∧
    (decide (fldB 0x001000 16 12 = 0)) = false ∧
    (decide (fldB 0xE00000 16 12 = 0) && decide (fL 0xE00000 ≤ 6)) = false ∧
    (decide (fL 0xE00000 + 2 ≤ 8) && pairOk (fP 0xE00000)) = false := by
  decide +kernel

theorem witness_Traps :
    4095 < 4096 ∧ 15 < 16 ∧ 31 < 32 ∧ (∀ i, some 15 = some i → i < 16) ∧
    (holds (si rr) fun s =>
        readyB s 0 (rr) ({ w := [fS 0x210000] }) (rr.pc + 4) = true ∧
        refused (s.core.access 0 false (effAddr (read s rr) 0x210000 4) 4) = some tALIGN) ∧
    (holds (si rr) fun s =>
        readyB s 0 (rr) ({ w := [fS 0x280000, fD 0x280000] }) (rr.pc + 4) = true ∧
        refused (s.core.access 0 true (effAddr (read s rr) 0x280000 4) 4) = some tACCESS) ∧
    (holds (si rr) fun s =>
        readyB s 0 (rr) ({}) (rr.pc) = true ∧ readyB s 0 (rr) ({ rs := true }) (rr.pc) = true ∧
        s.core.inHalf (rr.pc + offBytes 0x7FFFFF) = false) ∧
    (holds (si { rr with regs := { rr.regs with d := 255 } }) fun s =>
        readyB s 0 ({ rr with regs := { rr.regs with d := 255 } }) ({ rs := true }) (rr.pc + offBytes 0x40) = true ∧
        (read s ({ rr with regs := { rr.regs with d := 255 } })).d = 255 ∧
        ¬ roomToCall s ({ rr with regs := { rr.regs with d := 255 } })) ∧
    (holds (si { rr with regs := { rr.regs with w := rr.regs.w.set 8 0x10000202 } }) fun s =>
        readyB s 0 ({ rr with regs := { rr.regs with w := rr.regs.w.set 8 0x10000202 } }) ({ w := [fS 0x080000], rs := true }) (0x10000202) = true ∧
        0x10000202#32 = BitVec.ofNat 32 ((read s ({ rr with regs := { rr.regs with w := rr.regs.w.set 8 0x10000202 } })).getW (fS 0x080000))) ∧
    (holds (si { rr with regs := { rr.regs with d := 255 } }) fun s =>
        readyB s 0 ({ rr with regs := { rr.regs with d := 255 } }) ({ w := [fS 0x040000], rs := true }) (0x10000200) = true ∧
        0x10000200#32 = BitVec.ofNat 32 ((read s ({ rr with regs := { rr.regs with d := 255 } })).getW (fS 0x040000)) ∧
        ¬ roomToCall s ({ rr with regs := { rr.regs with d := 255 } })) := by
  decide +kernel

theorem witness_MulDivResults :
    readyFor (legalWR) (fun b => { w := [fS b, fT b] }) 0xFFF000 = true ∧
    readyFor (legalWI) (fun b => { w := [fS b] }) 0xFF0FFF = true ∧
    readyFor (legalD3) (fun b => { w := pairW (fS b) ++ pairW (fT b) }) 0xEEE000 = true := by
  decide +kernel

theorem witness_LogicResults :
    readyFor (fun b => legalWR b && fT b = 0) (fun b => { w := [fS b] }) 0xFF0000 = true ∧
    31 < 32 := by
  decide +kernel

theorem witness_CompareConditions :
    readyFor (legalWR) (fun b => { w := [fS b, fT b] }) 0x0FF000 = true ∧
    readyFor (legalWI) (fun b => { w := [fS b] }) 0x0F0FFF = true ∧
    readyFor (fun b => legalD3 b && fD b = 0) (fun b => { w := pairW (fS b) ++ pairW (fT b) }) 0x0E2000 = true := by
  decide +kernel

theorem witness_RegisterFile :
    15 < 16 ∧ rr.delay = [] ∧ 7 < 8 ∧ 14 ≠ 15 := by
  decide +kernel

theorem witness_TimerSteps :
    (let s : Slot := { et := 5, new := false }; s.et ≤ 5 ∧ s.new = false ∧ s.run = false ∧ s.inPrev = false) := by
  decide +kernel

theorem witness_CounterSteps :
    (let n : Cnt := { cv := 32767, pcu := false, pcd := false, ovf := false }; (-32768 : Int) ≤ 0 ∧
        (0 : Int) ≤ 32767 ∧ -32768 ≤ n.cv ∧ n.cv ≤ 32767 ∧ n.pcu = false ∧ n.pcd = false ∧ n.cv = 32767 ∧
        n.cv ≠ 32768) ∧
    ({ cv := 0, pcu := true, pcd := false, ovf := false } : Cnt).pcu = true ∧ (-32768 : Int) ≤ -32768 := by
  decide +kernel

theorem witness_TimeCommands :
    (holds (su { dv .run [] with locks := [(.host, 2)] }) fun s =>
        s.powered = true ∧ s.core.dev.unlocked .host 2 = true) ∧
    (holds (su { dv .run [] with locks := [(.service, 2)] }) fun s =>
        s.powered = true ∧ s.core.dev.unlocked .service 2 = true) ∧
    (holds (su { dv .run [(F.LAC_TB_TB, 100000), (F.REG_STAT_GT_LOCK, 1)] with tb := 16000000, gt := { last := some 4 } }) fun s =>
        s.powered = true ∧ s.core.dev.holdoverDue = true) ∧
    (holds (su { dv .run [] with tb := 77 }) fun s =>
        s.powered = true ∧ s.core.dev.turnedAway .host A.REG_CAL_WAKE = false) ∧
    (holds (su { dv .run [(F.REG_CAL_WAKE_PERIOD, 256)] with tb := 2500000000 }) fun s =>
        s.powered = true ∧ s.core.dev.wakePeriod ≠ 0 ∧
        s.core.dev.gt.wakeArm + (s.core.dev.gt.wakeK + 1) * s.core.dev.wakePeriod ≤ s.core.dev.tb) := by
  decide +kernel

theorem witness_CalendarCommands :
    (holds (su { dv .run [] with isl := { sec := 12622780799 } }) fun s =>
        s.powered = true ∧ s.core.dev.fbit F.REG_CAL_STAT_BUSY = false ∧ s.core.dev.isl.oscStop = false) ∧
    (holds (su { dv .run [(F.REG_CTL_CAL_MODE, 1), (⟨A.REG_CAL_SSEC_LO, 31, 0⟩, 4032846207), (F.REG_CAL_SSEC_HI_SEC, 2)] with tb := 9, isl := { ended := true } }) fun s =>
        s.powered = true ∧ s.core.dev.fbit F.REG_CAL_STAT_BUSY = false ∧ s.core.dev.isl.oscStop = false ∧
        s.core.dev.staged = some 12622780799) ∧
    (holds (su { dv .run [(F.REG_CTL_CAL_MODE, 1), (⟨A.REG_CAL_SSEC_LO, 31, 0⟩, 4032846208), (F.REG_CAL_SSEC_HI_SEC, 2)] with tb := 9 }) fun s =>
        s.powered = true ∧ s.core.dev.fbit F.REG_CAL_STAT_BUSY = false ∧ s.core.dev.isl.oscStop = false ∧
        s.core.dev.staged = none) ∧
    (holds (su { dv .run [] with isl := { sec := 12622777199 } }) fun s =>
        s.powered = true ∧ s.core.dev.fbit F.REG_CAL_STAT_BUSY = false ∧ s.core.dev.isl.oscStop = false ∧
        s.core.dev.isl.ended = false ∧ s.core.dev.isl.dst = false ∧ s.core.dev.isl.sec + 3600 ≤ calMax) ∧
    (holds (su { dv .run [] with isl := { sec := 3600, dst := true } }) fun s =>
        s.powered = true ∧ s.core.dev.fbit F.REG_CAL_STAT_BUSY = false ∧ s.core.dev.isl.oscStop = false ∧
        s.core.dev.isl.ended = false ∧ s.core.dev.isl.dst = true ∧ 3600 ≤ s.core.dev.isl.sec ∧
        s.core.dev.isl.sec ≤ calMax) ∧
    (holds (su { dv .run [] with isl := { sec := 12622780799, ended := true, dst := true, stopped := some 32767 } }) fun s =>
        s.powered = true ∧ s.core.dev.fbit F.REG_CAL_STAT_BUSY = false ∧ s.core.dev.isl.oscStop = false ∧
        s.core.dev.isl.ended = true) ∧
    (holds (su { dv .off [] with isl := { sec := 12622780798, oscStop := true, stopped := some 3 }, tb := 5 }) fun s =>
        s.core.dev.isl.ended = false ∧ s.core.dev.isl.sec < calMax ∧ s.core.dev.gt.calPend = none ∧
        s.core.dev.isl.commitAt ≠ some s.core.dev.tb) ∧
    (holds (su { dv .run [] with isl := { sec := 12622780798, commitAt := some 5 }, tb := 5 }) fun s =>
        s.core.dev.isl.ended = false ∧ s.core.dev.isl.sec < calMax ∧ s.core.dev.gt.calPend = none ∧
        s.core.dev.isl.commitAt = some s.core.dev.tb) := by
  decide +kernel

theorem witness_SupplyCommands :
    (holds (State.reset) fun s => s.core.dev.st = .off) ∧
    (holds (su { dv .boot [] with held := true, tb := 8 }) fun s => s.core.dev.held = true) ∧
    (holds ({ si rr with otp := { keyRevoked := 3 } }) fun s =>
        s.core.dev.st ≠ .off ∧ s.core.dev.held = false ∧ s.core.dev.svc.burn = none) ∧
    (holds ({ si rr with otp := { keyRevoked := 3 } }) fun s => s.core.dev.st ≠ .off ∧ s.core.dev.svc.burn = none) ∧
    (holds (su (dv .run [])) fun s => s.core.dev.st ≠ .off) ∧
    (holds (su (dv .run [])) fun s => s.core.dev.held = false) := by
  decide +kernel

theorem witness_StartCommands :
    (holds (su { dv .boot [] with lac := { bringUp := true } }) fun s =>
        s.powered = true ∧ s.core.dev.lac.bringUp = true) ∧
    (holds (su { dv .boot [] with  tb := 5 }) fun s =>
        s.powered = true ∧ s.core.dev.st = .boot ∧ s.core.dev.lac.bringUp = false) ∧
    (holds (su (dv .run [])) fun s => s.powered = true ∧ s.core.dev.st ≠ .boot) ∧
    (holds (su { dv .run [] with svc := { safeWrite := true } }) fun s =>
        s.powered = true ∧ s.core.dev.svc.safeWrite = true ∧ s.core.dev.fbit F.KEP_STAT_SEALED = false) ∧
    (holds (su { dv .safe [] with svc := { exitPend := true }, nv := { safeFlag := true } }) fun s =>
        s.powered = true ∧ s.core.dev.st = .safe ∧ s.core.dev.svc.exitPend = true ∧
        s.core.dev.fbit F.KEP_STAT_SEALED = false) := by
  decide +kernel

theorem witness_WarningCommands :
    (holds (si rr) fun s => s.powered = true ∧ s.core.dev.fbit F.SVC_STAT_WARN = false) ∧
    (holds (State.reset) fun s => (s.powered = false ∨ s.core.dev.fbit F.SVC_STAT_WARN = true)) ∧
    (holds (su (dv .run [(F.SVC_STAT_WARN, 1), (F.KEP_STAT_SEALED, 1)])) fun s =>
        s.core.dev.fbit F.SVC_STAT_WARN = true) ∧
    (holds (su (dv .run [])) fun s => s.core.dev.fbit F.SVC_STAT_WARN = false) := by
  decide +kernel

theorem witness_CycleCommands :
    (holds (si rr) fun s => s.powered = true ∧ s.core.dev.beats = true) ∧
    (holds (su (dv .boot [])) fun s => s.powered = true ∧ s.core.dev.beats = false) ∧
    (holds (su (dv .run [(F.LAC_TB_TB, 1000), (F.LAC_STAT_MEMBER, 2), (F.LAC_CFG_HOLD, 3), (F.LAC_STAT_HOLD_CNT, 3)])) fun s =>
        s.powered = true ∧ s.core.holdDue = true) ∧
    (holds (su (dv .run [])) fun s => s.powered = true ∧ s.core.holdDue = false) ∧
    (holds (su { dv .run [(F.ESC_TCFG_PERIOD 15, 1), (F.ESC_CTL_OVR_LIM, 100)] with tb := 1000000, esc := { tasks := tk fun t => { t with stretched := true, active := true } } }) fun s =>
        s.powered = true ∧ (s.core.dev.task 15).stretched = true ∧ (s.core.dev.task 15).active = true ∧
        s.core.dev.st = .run ∧ s.core.dev.stretchLimit 15 ≤ s.core.dev.tb) ∧
    (holds (su (dv .run [])) fun s => s.powered = true ∧ (s.core.dev.task 15).stretched = false) ∧
    (holds (su { dv .run [(F.ESC_TCFG_PERIOD 15, 1), (F.ESC_CTL_OVR_LIM, 100)] with tb := 1000000, esc := { tasks := tk fun t => { t with stretched := true } } }) fun s =>
        s.powered = true ∧ (s.core.dev.task 15).stretched = true ∧ (s.core.dev.task 15).active = false ∧
        s.core.dev.st = .run ∧ (s.core.dev.task 15).waitAck = false ∧ (s.core.dev.task 15).halted = false ∧
        s.core.dev.follows = false) ∧
    (holds (su { dv .run [(F.ESC_TCFG_PERIOD 15, 1), (F.ESC_CTL_OVR_LIM, 100)] with tb := 1000000, esc := { tasks := tk fun t => { t with stretched := true, waitAck := true } } }) fun s =>
        s.powered = true ∧ (s.core.dev.task 15).stretched = true ∧ (s.core.dev.task 15).active = false ∧
        s.core.dev.st = .run ∧ (s.core.dev.task 15).waitAck = true ∧
        s.core.dev.stretchLimit 15 ≤ s.core.dev.tb) := by
  decide +kernel

theorem witness_CycleCommands_2 :
    (holds (su { dv .run [] with esc := { image := some img2, tasks := tk fun t => { t with active := true, pc := 0x10000200, prevSealed := true } } }) fun s =>
        s.powered = true ∧ s.core.dev.served = some 0 ∧ s.core.dev.flight = [] ∧
        (3 : Fin 4).val ≤ s.core.dev.fget F.MOV_CTL_TRAINS ∧ (s.core.dev.wlt.await && s.core.dev.follows) = false ∧
        (s.core.dev.task 0).cont = none) ∧
    (holds (su (dv .run [])) fun s =>
        s.powered = true ∧ (s.core.dev.served = none ∨ (s.core.dev.run 3).isSome = true)) ∧
    (holds (si rr) fun s => s.powered = true ∧ (s.core.dev.served = none ∨ (s.core.dev.run 0).isSome = true)) ∧
    (holds (si rr) fun s => s.powered = true ∧ s.core.dev.run 0 = some rr ∧ rr.timedOut = false) ∧
    (holds (si { rr with timedOut := true }) fun s =>
        s.powered = true ∧ s.core.dev.run 0 = some { rr with timedOut := true }) ∧
    (holds (si rr) fun s => s.powered = true ∧ s.core.dev.run 3 = none) := by
  decide +kernel

theorem witness_HeadCommit :
    (holds (si { rr with exit := some { next := 0x10000400 }, buf := [(0x10000, 9), (0x8000, 7)] }) fun s =>
        s.powered = true ∧
        s.core.dev.flight = [(0, { rr with exit := some { next := 0x10000400 }, buf := [(0x10000, 9), (0x8000, 7)] })] ∧
        s.core.mayCommit 0 = true ∧ s.core.mem.errs = []) ∧
    (holds (sd (fun d => { d.fset F.WLT_STAT_STATE 2 with settings := sb [(4, 64), (2, 1)] }) (si { rr with exit := some { next := 0x10000400 }, buf := [(0x10000, 9), (0x8000, 7)] })) fun s =>
        s.powered = true ∧
        s.core.dev.flight = [(0, { rr with exit := some { next := 0x10000400 }, buf := [(0x10000, 9), (0x8000, 7)] })] ∧
        s.core.mayCommit 0 = false) ∧
    (holds (si rr) fun s => s.powered = true ∧ s.core.dev.flight = [(0, rr)] ∧ rr.exit = none) ∧
    (holds ({ si rr with core := { (si rr).core with mem := { cells := [(0x10000107, 0x0A)] } } }) fun s =>
        s.powered = true ∧ s.core.dev.flight = [(0, rr)] ∧
        Core.reservedOp (s.core.mem.cells.read (rr.pc.toNat + 3)).toNat = true) ∧
    (holds (su (dv .run [])) fun s => s.powered = true ∧ s.core.dev.flight = []) := by
  decide +kernel

theorem witness_BeatTime :
    (holds (su { dv .run [] with tb := 3000000, esc := { lastBeat := some 2000000, busy := 6 } }) fun s =>
        0 < s.core.dev.esc.period) := by
  decide +kernel

theorem witness_TaskFaults :
    15 < 16 ∧ 0 < 7 ∧ 7 < 8 ∧
    (holds (su (dv .run [])) fun s => s.core.dev.fbit (F.ESC_TCFG_FAULT_POL 15) = false) ∧
    (holds (su (dv .run [(F.ESC_TCFG_FAULT_POL 15, 1)])) fun s =>
        s.core.dev.fbit (F.ESC_TCFG_FAULT_POL 15) = true ∧ s.core.dev.st = .run) := by
  decide +kernel

theorem witness_FrameCommands :
    (holds (su { lm .run 1 [(⟨A.LAC_POS 127, 31, 31⟩, 1), (⟨A.LAC_BR 127, 31, 31⟩, 1)] with tb := 65536000000 + 3000000 + 5000 }) fun s =>
        s.powered = true ∧ s.core.dev.mayFrame false = true ∧
        s.core.dev.tb % s.core.dev.ringNs false = 10 * s.core.dev.fget F.LAC_CFG_TX_OFS) ∧
    (holds (su { lm .run 2 [(⟨A.LAC_POS 127, 31, 31⟩, 1), (⟨A.LAC_BR 127, 31, 31⟩, 1)] with tb := 65536000000 + 3000000 + 5000 }) fun s =>
        s.powered = true ∧ s.core.dev.mayFrame true = true ∧
        s.core.dev.tb % s.core.dev.ringNs true = 10 * s.core.dev.fget F.LAC_CFG_TX_OFS) ∧
    (holds (su { lm .run 1 [(⟨A.LAC_POS 127, 31, 31⟩, 1), (⟨A.LAC_BR 127, 31, 31⟩, 1)] with tb := 5000 }) fun s =>
        s.powered = true ∧ s.core.dev.mayFrame true = false ∧ s.core.dev.st ≠ .boot) ∧
    (holds (su { lm .run 2 [(F.LAC_CFG_RMUL_M1, 1)] with tb := 3005000 }) fun s =>
        s.powered = true ∧ s.core.dev.mayFrame true = true ∧
        (s.core.dev.tb - 10 * s.core.dev.fget F.LAC_CFG_TX_OFS) % s.core.dev.ringNs true ≠ 0 ∧
        s.core.dev.tb % s.core.dev.tbNs = 10 * s.core.dev.fget F.LAC_CFG_TX_OFS ∧
        (s.core.dev.ring true).lines = false ∧ s.core.dev.portUsable (s.core.dev.sendingPort true) = true ∧
        (s.core.dev.role ≠ 1 ∨ s.core.dev.gtLock = true)) ∧
    (holds (su { lm .boot 1 [(F.REG_STAT_GT_LOCK, 1)] with lac := { branch := { laidOut := true } }, tb := 3005000 }) fun s =>
        s.powered = true ∧ s.core.dev.st = .boot ∧ s.core.dev.held = false ∧ s.core.dev.manages false = true ∧
        s.core.dev.originates = true ∧ (s.core.dev.ring false).laidOut = true ∧
        s.core.dev.tb % s.core.dev.tbNs = 10 * s.core.dev.fget F.LAC_CFG_TX_OFS ∧
        (s.core.dev.ring false).lines = false ∧ s.core.dev.portUsable (s.core.dev.sendingPort false) = true ∧
        (s.core.dev.role ≠ 1 ∨ s.core.dev.gtLock = true)) ∧
    (holds (su { lm .boot 2 [] with lac := { level0 := { laidOut := true } }, tb := 3005000 }) fun s =>
        s.powered = true ∧ s.core.dev.st = .boot ∧ s.core.dev.held = false ∧ s.core.dev.manages true = true ∧
        s.core.dev.originates = true ∧ (s.core.dev.ring true).laidOut = true ∧
        s.core.dev.tb % s.core.dev.tbNs = 10 * s.core.dev.fget F.LAC_CFG_TX_OFS ∧
        (s.core.dev.ring true).lines = false ∧ s.core.dev.portUsable (s.core.dev.sendingPort true) = true ∧
        (s.core.dev.role ≠ 1 ∨ s.core.dev.gtLock = true)) ∧
    (holds (su (lm .run 0 [])) fun s =>
        s.powered = true ∧ s.core.dev.portUsable 2 = true ∧ s.core.dev.portUsable (otherPort 2) = true ∧
        38 ≤ (frm 7).length ∧ 1 ≤ (parseHdr (frm 7)).typ ∧ (parseHdr (frm 7)).typ ≤ 4 ∧ hcrcOk (frm 7) = true ∧
        fcrcOk (frm 7) = true ∧ s.core.dev.lac.memb.errAt = []) ∧
    (holds (su (lm .run 0 [])) fun s =>
        s.powered = true ∧ s.core.dev.portUsable 3 = true ∧ s.core.dev.portUsable (otherPort 3) = true ∧
        38 ≤ (frm 7).length ∧ 1 ≤ (parseHdr (frm 7)).typ ∧ (parseHdr (frm 7)).typ ≤ 4 ∧ hcrcOk (frm 7) = true ∧
        fcrcOk (frm 7) = true ∧ s.core.dev.lac.memb.errAt = []) := by
  decide +kernel

theorem witness_FrameCommands_2 :
    (holds (su (lm .run 0 [(F.LAC_PORT_FOLD 3, 1)])) fun s => s.powered = true ∧ s.core.dev.portUsable 3 = false) ∧
    (holds (su { lm .run 1 [] with lac := { branch := { sentSeq := some 7, sentAt := 5 }, level0 := { sentSeq := some 7, sentAt := 5 } }, tb := 9000 }) fun s =>
        s.powered = true ∧ s.core.dev.ringOfPort 3 = some false ∧
        (s.core.dev.ring false).sentSeq = some (parseHdr (frm 7)).seq ∧ 1 ≤ (parseHdr (frm 7)).typ ∧
        (parseHdr (frm 7)).typ ≤ 2 ∧ 38 ≤ (frm 7).length) ∧
    (holds (su { lm .run 2 [] with lac := { branch := { sentSeq := some 7, sentAt := 5 }, level0 := { sentSeq := some 7, sentAt := 5 } }, tb := 9000 }) fun s =>
        s.powered = true ∧ s.core.dev.ringOfPort 1 = some true ∧
        (s.core.dev.ring true).sentSeq = some (parseHdr (frm 7)).seq ∧ 1 ≤ (parseHdr (frm 7)).typ ∧
        (parseHdr (frm 7)).typ ≤ 2 ∧ 38 ≤ (frm 7).length) ∧
    (holds (su { dv .run [(F.WLT_STAT_STATE, 2)] with settings := sb [(4, 64), (2, 1)] }) fun s =>
        s.powered = true ∧ s.core.dev.ringOfPort 0 = none ∧ s.core.dev.acts = false) ∧
    (holds (su { lm .run 1 [] with lac := { branch := { sentSeq := some 7, sentAt := 5, frames := 1, due := 10 } }, tb := 900000 }) fun s =>
        s.powered = true ∧ s.core.dev.manages false = true ∧ (s.core.dev.ring false).sentSeq.isSome = true) ∧
    (holds (su { lm .run 1 [] with lac := { branch := { sentSeq := some 7, sentAt := 5, frames := 1, due := 10 } }, tb := 900000 }) fun s =>
        s.powered = true ∧ s.core.dev.manages false = true ∧ (s.core.dev.ring false).sentSeq.isSome = true ∧
        s.core.dev.overdue false = true) ∧
    (holds (su { lm .run 1 [] with lac := { branch := { sentSeq := some 7, sentAt := 5, frames := 1, due := 10 } }, tb := 900000 }) fun s =>
        s.powered = true ∧ s.core.dev.manages true = false) ∧
    (holds (su { lm .run 1 [] with lac := { branch := { sentSeq := some 7, sentAt := 5, frames := 1, due := 10 } }, tb := 8 }) fun s =>
        s.powered = true ∧ s.core.dev.overdue false = false) := by
  decide +kernel

theorem witness_FrameCommands_3 :
    (holds (su (lm .run 0 [])) fun s =>
        s.powered = true ∧ s.core.dev.fbit (F.LAC_PORT_UP 0) = true ∧ s.core.dev.fbit (F.LAC_PORT_FOLD 0) = false) ∧
    (holds (su (lm .run 0 [])) fun s =>
        s.powered = true ∧ s.core.dev.fbit (F.LAC_PORT_UP 3) = true ∧ s.core.dev.fbit (F.LAC_PORT_FOLD 3) = false) ∧
    (holds (su (dv .run [])) fun s => s.powered = true ∧ s.core.dev.fbit (F.LAC_PORT_UP 3) = false) ∧
    (holds (su (lm .run 1 [])) fun s =>
        s.powered = true ∧ s.core.dev.fbit (F.LAC_PORT_UP 3) = true ∧ s.core.dev.probesDue 3 = true) ∧
    (holds (su (lm .run 1 [(F.LAC_PORT_UP 3, 0), (F.LAC_PORT_FOLD 3, 1)])) fun s =>
        s.powered = true ∧ s.core.dev.fbit (F.LAC_PORT_FOLD 3) = true ∧ s.core.dev.portInUse 3 = true) ∧
    (holds (su { lm .run 1 [(F.LAC_CTL_UNFOLD_AUTO, 1)] with lac := { branch := { lines := true } } }) fun s =>
        s.powered = true ∧ s.core.dev.ringOfPort 3 = some false ∧ s.core.dev.fbit F.LAC_CTL_UNFOLD_AUTO = true ∧
        (s.core.dev.ring false).lines = true ∧ s.core.dev.fbit (F.LAC_PORT_FOLD (otherPort 3)) = false) ∧
    (holds (su { lm .run 1 [] with lac := { branch := { lines := true, closing := true } }, tb := 5000 }) fun s =>
        s.powered = true ∧ s.core.dev.mayFrame false = true) ∧
    (holds (su (lm .run 1 [(F.LAC_PORT_UP 3, 0)])) fun s => s.powered = true ∧ s.core.dev.portInUse 3 = true) := by
  decide +kernel

theorem witness_FrameCommands_4 :
    (holds (su (lm .run 0 [(F.LAC_PORT_UP 2, 0)])) fun s => s.powered = true ∧ s.core.dev.portInUse 2 = false) := by
  decide +kernel

theorem witness_AdmissionCommands :
    (holds (su (lm .boot 0 [])) fun s =>
        s.powered = true ∧ 127 < 128 ∧ s.core.dev.ringOfPort 1 = none ∧ s.core.dev.isMember = true ∧
        s.core.dev.role = 0 ∧ (List.replicate 126 sta).all (fun x => x.devId ≠ s.core.dev.factory.deviceId) = true) ∧
    (holds (su (lm .run 1 [])) fun s =>
        s.powered = true ∧ s.core.dev.ringOfPort 3 = some false ∧ s.core.dev.lac.bringUp = false) ∧
    (holds (su { lm .boot 0 [] with factory := { deviceId := 99 } }) fun s =>
        s.powered = true ∧ 65535 < 65536 ∧ s.core.dev.ringOfPort 0 = none ∧ s.core.dev.isMember = true ∧
        [RingRow.mk 3 98 1 1, ⟨7, 99, 2, 2⟩].find? (fun x => x.devId = s.core.dev.factory.deviceId) = some ⟨7, 99, 2, 2⟩) ∧
    (holds (su (lm .run 2 [])) fun s =>
        s.powered = true ∧ s.core.dev.ringOfPort 3 = some false ∧ s.core.dev.leads = true) ∧
    (holds (su { lm .run 0 [] with factory := { deviceId := 99 }, tb := 995000 }) fun s =>
        s.powered = true ∧ 99 = s.core.dev.factory.deviceId ∧ s.core.dev.isMember = true ∧
        s.core.dev.fget F.LAC_STAT_MEMBER < 2 ∧ s.core.dev.lac.memb.joinAfter ≤ s.core.dev.tb ∧
        (s.core.dev.portUsable 0 || s.core.dev.portUsable 1) = true ∧
        s.core.dev.betweenFrames s.core.dev.memberNs = true) ∧
    (holds (su { lm .run 1 [(⟨A.LAC_POS 127, 31, 31⟩, 1)] with factory := { deviceId := 99 } }) fun s =>
        s.powered = true ∧ 98 ≠ s.core.dev.factory.deviceId ∧ s.core.dev.ringOfPort 2 = some false ∧
        s.core.dev.leads = true ∧ 100000 = s.core.dev.fget F.LAC_TB_TB ∧ 1 = s.core.dev.rmul ∧
        s.core.dev.joinPos false 2 { devId := 98, outLen := 0, inLen := 0, tb := 100000, rmul := 1, hops := 0 } = some 127) ∧
    (holds (su { lm .run 1 [] with factory := { deviceId := 99 } }) fun s =>
        s.powered = true ∧ 98 ≠ s.core.dev.factory.deviceId ∧ s.core.dev.ringOfPort 2 = some false ∧
        s.core.dev.leads = true ∧ 100000 = s.core.dev.fget F.LAC_TB_TB ∧ 1 = s.core.dev.rmul ∧
        s.core.dev.joinPos false 2 { devId := 98, outLen := 0, inLen := 0, tb := 100000, rmul := 1, hops := 0 } = none) ∧
    (holds (su { lm .run 0 [(F.LAC_STAT_MEMBER, 1)] with factory := { deviceId := 99 } }) fun s =>
        s.powered = true ∧ 99 = s.core.dev.factory.deviceId ∧ s.core.dev.isMember = true ∧
        (1 : Fin 4).val < 2) := by
  decide +kernel

theorem witness_MailboxCommands :
    (holds (su (lm .run 0 [])) fun s =>
        s.powered = true ∧ (List.range 32).find? (fun e => s.core.dev.mbxState e = 0) = some 0) ∧
    (holds (su (lm .run 0 ((List.range 31).map fun e => (F.LAC_MBX_CTRL_STATE e, 2)))) fun s =>
        s.powered = true ∧ (List.range 32).find? (fun e => s.core.dev.mbxState e = 0) = some 31) ∧
    (holds (su (lm .run 0 ((List.range 32).map fun e => (F.LAC_MBX_CTRL_STATE e, 2)))) fun s =>
        s.powered = true ∧ (List.range 32).all (fun e => s.core.dev.mbxState e ≠ 0) = true) ∧
    (holds (su (lm .run 0 [(F.LAC_ADDR_VALID, 1), (F.LAC_ADDR_ADDR, 5), (F.LAC_INBOX_COUNT, 7)])) fun s =>
        s.powered = true ∧ 5 = s.core.dev.ownAddr ∧ s.core.dev.fbit F.LAC_ADDR_VALID = true ∧ s.core.dev.acts = true ∧
        s.core.dev.fget F.LAC_INBOX_COUNT < 8) ∧
    (holds (su (lm .run 0 [(F.LAC_ADDR_VALID, 1), (F.LAC_ADDR_ADDR, 5), (F.LAC_INBOX_COUNT, 8)])) fun s =>
        s.powered = true ∧ 5 = s.core.dev.ownAddr ∧ s.core.dev.fbit F.LAC_ADDR_VALID = true ∧ s.core.dev.acts = true ∧
        8 ≤ s.core.dev.fget F.LAC_INBOX_COUNT) ∧
    (holds (su (lm .run 0 [(F.LAC_ADDR_ADDR, 5), (F.LAC_MBX_CTRL_STATE 31, 2)])) fun s =>
        s.powered = true ∧ 5 = s.core.dev.ownAddr ∧ 31 < 32 ∧ 15 < 16 ∧ s.core.dev.mbxState 31 = 2) ∧
    (holds (su (lm .run 0 [(F.LAC_ADDR_ADDR, 5)])) fun s =>
        s.powered = true ∧ 5 = s.core.dev.ownAddr ∧ s.core.dev.mbxState 31 ≠ 2) ∧
    (holds (su { lm .run 0 [(F.LAC_ADDR_ADDR, 5), (F.LAC_MBX_CTRL_STATE 31, 2)] with lac := { mbx := [{ entry := 31, addr := 0, data := [], at_ := 0 }] }, tb := 8000000 }) fun s =>
        s.powered = true ∧ s.core.dev.role = 0 ∧ s.core.dev.mbxState 31 = 2 ∧
        s.core.dev.lac.mbx.find? (fun x => x.entry = 31) = some { entry := 31, addr := 0, data := [], at_ := 0 } ∧
        0 + 8 * s.core.dev.tbNs ≤ s.core.dev.tb) := by
  decide +kernel

theorem witness_MailboxCommands_2 :
    (holds (su (dv .run [])) fun s => s.powered = true ∧ s.core.dev.mbxState 31 ≠ 2) := by
  decide +kernel

theorem witness_WeltBlocks :
    (holds (su (pm .run 2 1 [])) fun s =>
        s.powered = true ∧ s.core.dev.paired = true ∧ s.core.dev.fbit F.WLT_STAT_LINK_UP = true ∧
        s.core.dev.wlt.awaited.contains 0 = false ∧ 0 = s.core.dev.wlt.rxSeq) ∧
    (holds (su { pm .run 4 1 [] with wlt := { awaited := [0xFFFFFFFF] } }) fun s =>
        s.powered = true ∧ s.core.dev.paired = true ∧ s.core.dev.fbit F.WLT_STAT_LINK_UP = true ∧
        s.core.dev.wlt.awaited.contains 0xFFFFFFFF = true) ∧
    (holds (su (dv .run [])) fun s => s.powered = true ∧ s.core.dev.paired = false) := by
  decide +kernel

theorem witness_WeltBlockEffects :
    (wst.state < 5) ∧
    (holds (su { pm .run 4 1 [] with wlt := { resent := [3] } }) fun s => s.core.dev.wlt.resent.contains 3 = true) ∧
    (holds (su { pm .run 2 1 [] with wlt := { mirror := [(90, 7), (96, 8), (128, 4)] } }) fun s =>
        s.core.dev.follows = true) ∧
    (holds (su (pm .run 4 1 [])) fun s => s.core.dev.follows = false) ∧
    (holds (su { pm .run 2 1 [] with wlt := { rcopy := [.recHead 3] } }) fun s =>
        s.core.dev.follows = true ∧ s.core.dev.wlt.joinBeat = none ∧ (∀ x ∈ s.core.dev.wlt.own, x.task ≠ 5)) ∧
    (holds (su { pm .run 4 1 [(F.WLT_STAT_LEASE_OK, 1)] with wlt := { own := [⟨5, 3, 4, false, 0, []⟩] }, esc := { tasks := tk fun t => { t with waitAck := true } } }) fun s =>
        s.core.dev.isHolder = true ∧ s.core.dev.wlt.own = [⟨5, 3, 4, false, 0, []⟩]) ∧
    (holds ({ core := { mem := {}, dev := { pm .run 2 1 [] with nv := { halves := #v[{}, { state := 3 }] } } } }) fun s =>
        s.core.stagedImage.isSome = true ∧ s.core.dev.follows = true) ∧
    (holds (su (pm .run 1 1 [])) fun s => s.core.dev.wltState = 1) := by
  decide +kernel

theorem witness_WeltBlockEffects_2 :
    (holds (su (pm .run 2 1 [])) fun s => s.core.dev.wltState ≠ 1) := by
  decide +kernel

theorem witness_LeaseCommands :
    (holds (su (pm .run 2 1 [(⟨A.LAC_EPOCH, 31, 0⟩, 5)])) fun s =>
        s.powered = true ∧ newerEpoch (s.core.dev.rnat A.LAC_EPOCH) 4 = true) ∧
    (holds (su { pm .run 2 1 [(⟨A.LAC_EPOCH, 31, 0⟩, 5), (F.LAC_ADDR_ADDR, 384)] with factory := { deviceId := 99 } }) fun s =>
        s.powered = true ∧ newerEpoch (s.core.dev.rnat A.LAC_EPOCH) 6 = false ∧ s.core.dev.paired = true ∧
        384 = s.core.dev.ownAddr ∧ s.core.dev.keeps 384 true = false ∧ 99 = s.core.dev.factory.deviceId) ∧
    (holds (su { pm .run 2 1 [(⟨A.LAC_EPOCH, 31, 0⟩, 5), (F.LAC_ADDR_ADDR, 384)] with factory := { deviceId := 99 } }) fun s =>
        s.powered = true ∧ newerEpoch (s.core.dev.rnat A.LAC_EPOCH) 6 = false ∧ s.core.dev.paired = true ∧
        384 = s.core.dev.ownAddr ∧ s.core.dev.keeps 384 false = false ∧ 99 = s.core.dev.factory.deviceId) ∧
    (holds (su { pm .run 4 1 [(⟨A.LAC_EPOCH, 31, 0⟩, 5), (F.LAC_ADDR_ADDR, 384)] with factory := { deviceId := 99 } }) fun s =>
        s.powered = true ∧ newerEpoch (s.core.dev.rnat A.LAC_EPOCH) 5 = false ∧ s.core.dev.paired = true ∧
        384 = s.core.dev.ownAddr ∧ s.core.dev.keeps 384 false = false ∧ 99 = s.core.dev.factory.deviceId ∧
        s.core.dev.wltState = 4 ∧ s.core.dev.leaseLc < 2 ^ 64 - 1) ∧
    (holds (su { dv .run [(F.LAC_TB_TB, 100000), (F.LAC_PORT_UP 0, 1)] with settings := sb [(2, 2)], tb := 64000000 }) fun s =>
        s.powered = true ∧ newerEpoch (s.core.dev.rnat A.LAC_EPOCH) 0 = false ∧ s.core.dev.keeps 384 false = true ∧
        s.core.dev.leaseRow 384 = none) ∧
    (holds (su { pm .run 4 1 [(F.WLT_STAT_LEASE_OK, 1)] with tb := 5000000 }) fun s =>
        s.powered = true ∧ s.core.dev.isHolder = true ∧ s.core.dev.acts = true ∧
        s.core.dev.fbit F.WLT_STAT_KEEPERLESS = false ∧ s.core.dev.wlt.yield = false ∧
        s.core.dev.wlt.renewed ≠ some s.core.dev.leaseBeat) ∧
    (holds (su (dv .run [])) fun s => s.powered = true ∧ s.core.dev.isHolder = false) ∧
    (holds (su { pm .run 4 1 [(F.WLT_STAT_LEASE_OK, 1)] with tb := 15000000 }) fun s =>
        s.powered = true ∧ s.core.dev.isHolder = true ∧ s.core.dev.fbit F.WLT_STAT_KEEPERLESS = false ∧
        s.core.dev.leaseLc + s.core.dev.leaseLen ≤ s.core.dev.leaseBeat + 1) := by
  decide +kernel

theorem witness_LeaseCommands_2 :
    (holds (su { dv .run [(F.LAC_TB_TB, 100000), (F.LAC_PORT_UP 0, 1)] with settings := sb [(2, 2)], tb := 64000000, lac := { pairs := [(384, ⟨1, 2, 384, 4294967295, 7, 99⟩)] } }) fun s =>
        s.powered = true ∧ s.core.dev.leaseRow 384 = some ⟨1, 2, 384, 4294967295, 7, 99⟩ ∧
        s.core.dev.keeps 384 false = true ∧ s.core.dev.wlt.lapsed.contains 384 = false ∧
        7 + s.core.dev.leaseLen ≤ s.core.dev.leaseBeat) ∧
    (holds (su { dv .run [(F.LAC_TB_TB, 100000), (F.LAC_PORT_UP 0, 1)] with settings := sb [(2, 2)], tb := 64000000, lac := { pairs := [(384, ⟨1, 3, 384, 4294967295, 7, 99⟩)] } }) fun s =>
        s.powered = true ∧ s.core.dev.leaseRow 384 = some ⟨1, 3, 384, 4294967295, 7, 99⟩ ∧
        s.core.dev.keeps 384 false = true ∧ s.core.dev.wlt.lapsed.contains 384 = false ∧
        7 + s.core.dev.leaseLen ≤ s.core.dev.leaseBeat) ∧
    (holds (su { dv .run [(F.LAC_TB_TB, 100000), (F.LAC_PORT_UP 0, 1)] with settings := sb [(2, 2)], tb := 64000000, lac := { pairs := [(384, ⟨1, 4, 384, 4294967295, 7, 99⟩)] } }) fun s =>
        s.powered = true ∧ s.core.dev.leaseRow 384 = some ⟨1, 4, 384, 4294967295, 7, 99⟩ ∧
        s.core.dev.keeps 384 false = true ∧ s.core.dev.wlt.lapsed.contains 384 = false ∧
        7 + s.core.dev.leaseLen ≤ s.core.dev.leaseBeat ∧ ¬ (4 = 2 ∨ 4 = 3)) ∧
    (holds (su (dv .run [])) fun s => s.powered = true ∧ s.core.dev.leaseRow 384 = none) ∧
    (holds (su (pm .run 4 1 [(F.WLT_STAT_PEER, 2), (F.WLT_STAT_LEASE_OK, 1)])) fun s =>
        s.powered = true ∧ (0x80000000#32).getLsbD 31 = true ∧ s.core.dev.isHolder = true ∧
        s.core.dev.fbit F.WLT_STAT_KEEPERLESS = false ∧ s.core.dev.fget F.WLT_STAT_PEER = 2) ∧
    (holds (su (pm .run 2 1 [])) fun s =>
        s.powered = true ∧ s.core.dev.paired = true ∧ s.core.dev.fbit F.WLT_STAT_LINK_UP = true) ∧
    (holds (su (dv .run [])) fun s => s.powered = true ∧ s.core.dev.fbit F.WLT_STAT_LINK_UP = false) ∧
    (holds (su { pm .run 2 1 [(F.WLT_STAT_LINK_UP, 0)] with wlt := { goodStatus := 1000 } }) fun s =>
        s.powered = true ∧ s.core.dev.paired = true ∧ s.core.dev.fbit F.WLT_STAT_LINK_UP = false ∧
        1000 ≤ s.core.dev.wlt.goodStatus) := by
  decide +kernel

theorem witness_LeaseCommands_3 :
    (holds (su { pm .run 2 1 [(F.WLT_STAT_LINK_UP, 0)] with wlt := { goodStatus := 999 } }) fun s =>
        s.powered = true ∧ s.core.dev.wlt.goodStatus < 1000) := by
  decide +kernel

theorem witness_ServiceRequests :
    (holds (su { dv .stop [] with svc := { sess := some ses } }) fun s =>
        s.powered = true ∧ s.core.dev.svc.sess = some ses ∧ ses.id = (rq 0x30 0 []).session ∧ ses.busy = none ∧
        (rq 0x30 0 []).seq.toNat = (ses.seq + 1) % 65536 ∧ ses.seq < 65536 ∧
        s.core.dev.fbit F.SVC_STAT_TEST_EN = false ∧ s.core.dev.st ∈ [DevState.stop]) ∧
    (holds (su { dv .run [] with svc := { sess := some ses } }) fun s =>
        s.powered = true ∧ s.core.dev.svc.sess = some ses ∧ ses.id = (rq 0x30 65535 []).session ∧ ses.busy = none ∧
        (rq 0x30 65535 []).seq.toNat = ses.seq ∧ s.core.dev.st ∉ [DevState.stop]) ∧
    (holds (su { dv .stop [] with svc := { sess := some ses } }) fun s =>
        s.core.dev.svc.sess = some ses ∧ ses.id ≠ ({ rq 0x30 0 [] with session := 6 } : SspReq).session) ∧
    (su (dv .run [])).core.dev.svc.sess = none ∧
    ({ dv .run [] with svc := { burn := some (3, 0) } } : Dev).svc.burn.isSome = true := by
  decide +kernel

theorem witness_ServiceEffects :
    (holds (su (dv .stop [])) fun s =>
        s.core.dev.st = .stop ∨ s.core.dev.st ≠ .stop ∧ 0x8000 ≤ 0x1DFFFC ∧
        0x1DFFFC + [1, 2, 3, 4].length ≤ 0x1E0000) ∧
    (holds (su { dv .stop [] with esc := { image := some img }, nv := { halves := #v[{ state := 4 }, {}] } }) fun s =>
        s.core.notHolder = false ∧ s.core.dev.esc.image = some img ∧ (s.core.halfRec img.half).state = 4 ∧
        s.core.dev.esc.stepReq = false ∧ s.core.dev.esc.stepping = false ∧ s.core.dev.esc.safeFault = false) ∧
    (holds (su (dv .stop [])) fun s => s.core.dev.esc.image = none) ∧
    (holds (su (dv .run [])) fun s => s.core.notHolder = false ∧ s.core.dev.st = .run) ∧
    (holds (su (dv .safe [])) fun s => s.core.notHolder = false ∧ s.core.dev.st = .safe) ∧
    (holds (su { dv .stop [] with esc := { image := some img }, nv := { halves := #v[{ state := 4 }, {}] } }) fun s =>
        s.core.notHolder = false ∧ s.core.dev.esc.stepReq = false ∧ s.core.dev.esc.stepping = false ∧
        s.core.dev.esc.runReq = false) ∧
    ([(1 : Byte)].length ≠ 256) ∧
    (holds (su (dv .run [])) fun s => s.core.dev.svc.intake = none) := by
  decide +kernel

theorem witness_ServiceEffects_2 :
    (holds (su { dv .stop [(F.KEP_STAT_SEALED, 1)] with svc := { intake := some { hdr := List.replicate 20 0 ++ [8, 0, 0, 0], kind := 1, rcvd := 0, lastOff := 0, lastBytes := [7] } } }) fun s =>
        s.core.dev.svc.intake = some { hdr := List.replicate 20 0 ++ [8, 0, 0, 0], kind := 1, rcvd := 0, lastOff := 0, lastBytes := [7] } ∧
        s.core.dev.fbit F.KEP_STAT_SEALED = true) ∧
    (holds (su { dv .stop [] with svc := { intake := some { hdr := List.replicate 20 0 ++ [8, 0, 0, 0], kind := 1, rcvd := 0, lastOff := 0, lastBytes := [7] } } }) fun s =>
        s.core.dev.svc.intake = some { hdr := List.replicate 20 0 ++ [8, 0, 0, 0], kind := 1, rcvd := 0, lastOff := 0, lastBytes := [7] } ∧
        s.core.dev.fbit F.KEP_STAT_SEALED = false ∧ 0 + 4 ≤ hLe (List.replicate 20 0 ++ [8, 0, 0, 0]) 20 4 ∧
        (0 = 0 ∨ 0 ≠ 0 ∨ ([1, 2, 3, 4] : List Byte) ≠ [7])) ∧
    (holds (su { dv .stop [] with svc := { intake := some { hdr := List.replicate 20 0 ++ [8, 0, 0, 0], kind := 1, rcvd := 0, lastOff := 0, lastBytes := [7] } } }) fun s =>
        s.core.dev.svc.intake = some { hdr := List.replicate 20 0 ++ [8, 0, 0, 0], kind := 1, rcvd := 0, lastOff := 0, lastBytes := [7] } ∧
        s.core.dev.fbit F.KEP_STAT_SEALED = false ∧ 0 < hLe (List.replicate 20 0 ++ [8, 0, 0, 0]) 20 4) ∧
    (holds (su { dv .stop [(F.KEP_STAT_SEALED, 1)] with svc := { intake := some { hdr := List.replicate 20 0 ++ [8, 0, 0, 0], kind := 1, rcvd := 4, lastOff := 0, lastBytes := [7] } } }) fun s =>
        s.core.dev.svc.intake = some { hdr := List.replicate 20 0 ++ [8, 0, 0, 0], kind := 1, rcvd := 4, lastOff := 0, lastBytes := [7] } ∧
        s.core.dev.fbit F.KEP_STAT_SEALED = true) ∧
    (holds (su { dv .stop [] with svc := { intake := some { hdr := List.replicate 20 0 ++ [8, 0, 0, 0], kind := 1, rcvd := 4, lastOff := 0, lastBytes := [7] } } }) fun s =>
        s.core.dev.svc.intake = some { hdr := List.replicate 20 0 ++ [8, 0, 0, 0], kind := 1, rcvd := 4, lastOff := 0, lastBytes := [7] } ∧
        s.core.dev.fbit F.KEP_STAT_SEALED = false ∧ 4 + 4 ≤ hLe (List.replicate 20 0 ++ [8, 0, 0, 0]) 20 4 ∧
        (4 = 0 ∨ 4 ≠ 0 ∨ ([1, 2, 3, 4] : List Byte) ≠ [7])) ∧
    (holds (su { dv .stop [] with svc := { intake := some { hdr := List.replicate 20 0 ++ [8, 0, 0, 0], kind := 1, rcvd := 4, lastOff := 0, lastBytes := [7] } } }) fun s =>
        s.core.dev.svc.intake = some { hdr := List.replicate 20 0 ++ [8, 0, 0, 0], kind := 1, rcvd := 4, lastOff := 0, lastBytes := [7] } ∧
        s.core.dev.fbit F.KEP_STAT_SEALED = false ∧ 4 < hLe (List.replicate 20 0 ++ [8, 0, 0, 0]) 20 4) ∧
    (holds (su { dv .stop [] with svc := { intake := some { hdr := List.replicate 20 0 ++ [8, 0, 0, 0], kind := 3, rcvd := 0, lastOff := 0, lastBytes := [7] } } }) fun s =>
        s.core.dev.svc.intake = some { hdr := List.replicate 20 0 ++ [8, 0, 0, 0], kind := 3, rcvd := 0, lastOff := 0, lastBytes := [7] } ∧
        s.core.dev.fbit F.KEP_STAT_SEALED = false ∧ 0 + 4 ≤ hLe (List.replicate 20 0 ++ [8, 0, 0, 0]) 20 4 ∧
        (0 = 0 ∨ 0 ≠ 0 ∨ ([1, 2, 3, 4] : List Byte) ≠ [7])) ∧
    (holds (su { dv .stop [] with svc := { intake := some { hdr := List.replicate 20 0 ++ [8, 0, 0, 0], kind := 3, rcvd := 0, lastOff := 0, lastBytes := [7] } } }) fun s =>
        s.core.dev.svc.intake = some { hdr := List.replicate 20 0 ++ [8, 0, 0, 0], kind := 3, rcvd := 0, lastOff := 0, lastBytes := [7] } ∧
        s.core.dev.fbit F.KEP_STAT_SEALED = false ∧ 0 < hLe (List.replicate 20 0 ++ [8, 0, 0, 0]) 20 4) := by
  decide +kernel

theorem witness_ServiceEffects_3 :
    (holds (su { dv .stop [] with svc := { intake := some { hdr := List.replicate 20 0 ++ [8, 0, 0, 0], kind := 3, rcvd := 4, lastOff := 0, lastBytes := [7] } } }) fun s =>
        s.core.dev.svc.intake = some { hdr := List.replicate 20 0 ++ [8, 0, 0, 0], kind := 3, rcvd := 4, lastOff := 0, lastBytes := [7] } ∧
        s.core.dev.fbit F.KEP_STAT_SEALED = false ∧ 4 + 4 ≤ hLe (List.replicate 20 0 ++ [8, 0, 0, 0]) 20 4 ∧
        (4 = 0 ∨ 4 ≠ 0 ∨ ([1, 2, 3, 4] : List Byte) ≠ [7])) ∧
    (holds (su { dv .stop [] with svc := { intake := some { hdr := List.replicate 20 0 ++ [8, 0, 0, 0], kind := 3, rcvd := 4, lastOff := 0, lastBytes := [7] } } }) fun s =>
        s.core.dev.svc.intake = some { hdr := List.replicate 20 0 ++ [8, 0, 0, 0], kind := 3, rcvd := 4, lastOff := 0, lastBytes := [7] } ∧
        s.core.dev.fbit F.KEP_STAT_SEALED = false ∧ 4 < hLe (List.replicate 20 0 ++ [8, 0, 0, 0]) 20 4) ∧
    ([(1 : Byte)].length ≠ 16) ∧
    (holds (su (dv .run [])) fun s => s.core.dev.svc.staged = none) ∧
    (holds (su { dv .run [] with svc := { staged := some ((List.replicate 448 0 ++ [0, 4] ++ List.replicate 62 0), 3) }, tb := 99 }) fun s =>
        s.core.dev.svc.staged = some ((List.replicate 448 0 ++ [0, 4] ++ List.replicate 62 0), 3) ∧
        Core.gensUsed {} < 8 ∧ (3 : Nat) < 4 ∧ 3 < hLe (List.replicate 448 0 ++ [0, 4] ++ List.replicate 62 0) 449 1 ∧
        (BitVec.ofNat 4 (hLe (List.replicate 448 0 ++ [0, 4] ++ List.replicate 62 0) 448 1)).getLsbD 3 = false) ∧
    ([(1 : Byte)].length ≠ 8) := by
  decide +kernel

theorem witness_SessionCommands :
    (holds (su { dv .run [] with free := 4, tb := 8 }) fun s => s.powered = true) ∧
    (holds (su { dv .run [] with svc := { nd := some (4, 3) }, tb := 10000000003 }) fun s =>
        s.powered = true ∧ (List.replicate 48 (0 : Byte)).length = 48 ∧ s.core.dev.lockedOut = false ∧
        s.core.dev.svc.nd = some (4, 3) ∧ s.core.dev.tb ≤ 3 + 10000000000 ∧
        hmacSha256 (leBytes 32 s.otp.serviceKey.toNat) (ascii4 "OPEN" ++ beBytes 16 (4#128).toNat ++ (List.replicate 48 (0 : Byte)).take 16 ++ s.core.dev.devIdBytes) ≠ (List.replicate 48 (0 : Byte)).drop 16) ∧
    (holds (su { dv .run [] with svc := { nd := some (4, 3) }, tb := 10000000003 }) fun s =>
        s.powered = true ∧
        (List.replicate 16 0 ++ hmacSha256 (leBytes 32 0) (ascii4 "OPEN" ++ beBytes 16 (4#128).toNat ++ List.replicate 16 0 ++ (dv .run []).devIdBytes)).length = 48 ∧
        s.core.dev.lockedOut = false ∧ s.core.dev.svc.nd = some (4, 3) ∧ s.core.dev.tb ≤ 3 + 10000000000 ∧
        hmacSha256 (leBytes 32 s.otp.serviceKey.toNat) (ascii4 "OPEN" ++ beBytes 16 (4#128).toNat ++ (List.replicate 16 0 ++ hmacSha256 (leBytes 32 0) (ascii4 "OPEN" ++ beBytes 16 (4#128).toNat ++ List.replicate 16 0 ++ (dv .run []).devIdBytes)).take 16 ++ s.core.dev.devIdBytes) = (List.replicate 16 0 ++ hmacSha256 (leBytes 32 0) (ascii4 "OPEN" ++ beBytes 16 (4#128).toNat ++ List.replicate 16 0 ++ (dv .run []).devIdBytes)).drop 16) ∧
    (holds (su { dv .run [] with svc := { lockUntil := some 9 }, tb := 8 }) fun s =>
        s.powered = true ∧ s.core.dev.lockedOut = true) ∧
    (holds (su { dv .run [] with svc := { lockUntil := some 9 }, tb := 9 }) fun s =>
        s.powered = true ∧ s.core.dev.lockedOut = false) ∧
    (holds (su { dv .run [(F.SVC_STAT_SESSION, 1)] with svc := { sess := some ses, intake := some { hdr := [], kind := 3 } }, tb := 10000000003 }) fun s =>
        s.powered = true ∧ s.core.dev.svc.sess = some ses ∧ ses.lastAt + 10000000000 ≤ s.core.dev.tb) ∧
    (holds (su (dv .run [])) fun s => s.powered = true ∧ s.core.dev.svc.sess = none) ∧
    (holds (su (dv .run [])) fun s => s.powered = true ∧ s.core.dev.rslArmed = false) := by
  decide +kernel

theorem witness_SessionCommands_2 :
    (holds (su { dv .run [(F.SVC_RSL_STATE, 1)] with svc := { rslAt := 4 }, tb := 60000000004 }) fun s =>
        s.powered = true ∧ s.core.dev.rslArmed = true ∧
        s.core.dev.svc.rslAt + s.core.dev.rslTmo * 1000000 ≤ s.core.dev.tb ∧ s.core.dev.paired = false) ∧
    (holds (su (dv .run [(F.SVC_MIGR_BUSY, 1)])) fun s =>
        s.powered = true ∧ s.core.dev.fbit F.SVC_MIGR_BUSY = true ∧ s.core.dev.keep.migrating = false ∧
        s.core.dev.fbit F.KEP_STAT_SEALED = false) ∧
    (holds (su (dv .run [])) fun s => s.powered = true ∧ s.core.dev.fbit F.SVC_MIGR_BUSY = false) ∧
    (holds (su { dv .run [(F.SVC_MIGR_BUSY, 1)] with keep := { migrating := true }, esc := { image := some { img with keepVer := 5 } } }) fun s =>
        s.powered = true ∧ s.core.dev.keep.migrating = true ∧ s.core.dev.fbit F.KEP_STAT_SEALED = false ∧
        s.core.dev.keep.pend = none ∧ s.core.dev.esc.image = some { img with keepVer := 5 }) ∧
    (holds (su (dv .run [])) fun s => s.powered = true ∧ s.core.dev.keep.migrating = false) ∧
    (holds ({ core := { mem := { cells := [(0x10000029, 1), (0x1000002C, 32), (0x10000100, 1), (0x10000110, 0), (0x10000118, 1)] }, dev := { dv .run [(F.SVC_RSL_STATE, 1)] with nv := { halves := #v[{ state := 3 }, {}] }, moverDirty := [4], svc := { frozen := true } } } }) fun s =>
        s.powered = true ∧ s.core.dev.fget F.SVC_RSL_STATE = 1 ∧ s.core.dev.activeTasks = [] ∧
        s.core.stagedImage.isSome = true ∧ s.core.carryIdentity = false) := by
  decide +kernel

theorem witness_BurnDone :
    (holds (su { dv .run [(F.SVC_STAT_BURNING, 1)] with svc := { burn := some (5, 2), staged := some ([1, 2], 3) }, tb := 48000004 }) fun s =>
        s.powered = true ∧ s.core.dev.svc.burn = some (5, 2) ∧ s.core.dev.svc.staged = some ([1, 2], 3) ∧
        (s.core.dev.tb < 5 + 48000000 ∨ s.core.dev.svc.torn = true)) ∧
    (holds (su { dv .run [(F.SVC_STAT_BURNING, 1)] with svc := { burn := some (5, 2), staged := some ([1, 2], 3) }, tb := 48000005 }) fun s =>
        s.powered = true ∧ s.core.dev.svc.burn = some (5, 2) ∧ s.core.dev.svc.staged = some ([1, 2], 3) ∧
        5 + 48000000 ≤ s.core.dev.tb ∧ s.core.dev.svc.torn = false) := by
  decide +kernel

theorem witness_KeepCommands :
    (holds (su (dv .run [])) fun s => s.powered = true ∧ (0x10000 ≤ 0x10000 ∧ 0x10000 < 0x1000_0000 / 32)) ∧
    (holds (su (dv .run [])) fun s =>
        s.powered = true ∧ s.core.poisoned 0xFFFF = false ∧ s.core.dev.fbit F.WKM_CTL_SCRUB_EN = true ∧
        0xFFFF ∉ s.core.dev.unwatched ∧ s.core.readClass 0xFFFF [] = .clean) ∧
    (holds (su (dv .run [(F.WKM_CTL_SCRUB_EN, 0)])) fun s =>
        s.powered = true ∧ s.core.dev.fbit F.WKM_CTL_SCRUB_EN = false) ∧
    (holds (su (dv .run [(F.WKM_SCRUB_PASSES, 65534)])) fun s =>
        s.powered = true ∧ s.core.dev.fbit F.WKM_CTL_SCRUB_EN = true ∧ s.core.dev.fget F.WKM_SCRUB_PASSES < 65535) ∧
    (holds (su { dv .run [] with watch := (List.range 32).map fun k => (k + 40, 100000000) }) fun s =>
        s.powered = true ∧ s.core.poisoned 5 = false ∧ 5 ∉ s.core.dev.unwatched ∧
        s.core.readClass 5 [(3, 1)] = .correctable 3 1 ∧ 32 ≤ s.core.dev.watch.length ∧
        (∀ w ∈ s.core.dev.watch, w.1 ≠ 5)) ∧
    (holds (su { dv .run [] with unwatched := [5, 6] }) fun s =>
        s.powered = true ∧ s.core.poisoned 5 = false ∧ 5 ∈ s.core.dev.unwatched ∧ s.core.readClass 5 [] = .clean) ∧
    (holds (su (dv .run [])) fun s =>
        s.powered = true ∧ s.core.poisoned 5 = false ∧ 5 ∉ s.core.dev.unwatched ∧
        s.core.readClass 5 [(3, 1)] = .correctable 3 1 ∧ s.core.dev.watch.length < 32 ∧
        (∀ w ∈ s.core.dev.watch, w.1 ≠ 5)) ∧
    (holds ({ core := { mem := { cells := [(160, 7)], errs := [(5, [(3, 1)])] }, dev := dv .run [] } }) fun s =>
        s.powered = true ∧ s.core.poisoned 5 = false ∧ s.core.readClass 5 [] = .correctable 3 1 ∧
        s.core.mem.errsOf 5 ≠ []) := by
  decide +kernel

theorem witness_KeepCommands_2 :
    (holds (su (dv .run [])) fun s =>
        s.powered = true ∧ s.core.mem.poisonOf 0 = none ∧ s.core.mem.poisonFree ≠ none ∧
        (s.core.readClass 0 [(3, 1), (4, 1)]).bad = true ∧ (s.core.readClass 0 [(3, 1), (4, 1)]).bad = true) ∧
    (holds (su { dv .run [] with watch := [(5, 100000000)], tb := 99999999 }) fun s =>
        s.powered = true ∧ (∀ w ∈ s.core.dev.watch, w.1 = foldGroup 5 → s.core.dev.tb < w.2)) ∧
    (holds (su { dv .run [] with watch := [(5, 100000000)], tb := 100000000 }) fun s =>
        s.powered = true ∧ ((foldGroup 5, 100000000) ∈ s.core.dev.watch) ∧ s.core.readClass 5 [] = .clean) ∧
    (holds (su (dv .run [])) fun s => s.powered = true ∧ s.core.dev.keep.power = none ∧ s.core.dev.keep.pend = none) ∧
    (holds (su { dv .run [] with keep := { pend := some ⟨12286, 0, [(1, false), (2, false), (3, true), (4, false)], [7], [(7, 2)], 0, [], 9, 0, 0, false⟩ } }) fun s =>
        s.powered = true ∧ s.core.dev.keep.power = none ∧
        s.core.dev.keep.pend = some ⟨12286, 0, [(1, false), (2, false), (3, true), (4, false)], [7], [(7, 2)], 0, [], 9, 0, 0, false⟩ ∧
        4 ≤ ringSlots) ∧
    (holds (su (dv .run [(F.KEP_STAT_SCAN_BUSY, 1)])) fun s =>
        s.powered = true ∧ s.core.dev.acts = true ∧ s.core.recordsBusy = true) ∧
    (holds (su { dv .run [(F.KEP_STAT_SCAN_BUSY, 0), (⟨A.KEP_RKEY 0, 31, 0⟩, 600)] with keep := { idx := (List.range 512).map fun k => ⟨k, k, k, 1, 4⟩ } }) fun s =>
        s.powered = true ∧ s.core.dev.acts = true ∧ s.core.recordsBusy = false ∧
        (∀ x ∈ s.core.dev.keep.idx, x.key ≠ s.core.dev.rnat (A.KEP_RKEY (Dev.stagingOf .program))) ∧
        512 ≤ s.core.dev.keep.idx.length) ∧
    (holds (su { dv .run [(F.KEP_STAT_SCAN_BUSY, 0), (⟨A.KEP_RKEY 2, 31, 0⟩, 600), (⟨A.KEP_RDATA 2 0, 31, 0⟩, 0x12345678)] with keep := { idx := [⟨600, 0, 1, 1, 4⟩] } }) fun s =>
        s.powered = true ∧ s.core.dev.acts = true ∧ s.core.recordsBusy = false ∧ s.core.dev.keep.idx.length < 512 ∧
        ((s.core.dev.keep.writes.filter fun t => s.core.dev.tb < t + 1000000000).length ≤ 8000)) := by
  decide +kernel

theorem witness_KeepCommands_3 :
    (holds (su (dv .run [(F.SVC_STAT_WARN, 1)])) fun s => s.powered = true ∧ s.core.recordsBusy = true) ∧
    (holds (su { dv .run [(F.KEP_STAT_SCAN_BUSY, 0), (⟨A.KEP_RKEY 0, 31, 0⟩, 600)] with keep := { idx := [⟨600, 3, 1, 1, 0⟩] } }) fun s =>
        s.powered = true ∧ s.core.recordsBusy = false ∧
        s.core.dev.keep.idx.find? (fun x => x.key = s.core.dev.rnat (A.KEP_RKEY (Dev.stagingOf .program)) && x.len ≠ 0) = none) ∧
    (holds ({ core := { mem := { cells := [(0x20000301, 9)] }, dev := { dv .run [(F.KEP_STAT_SCAN_BUSY, 0), (⟨A.KEP_RKEY 0, 31, 0⟩, 600)] with keep := { idx := [⟨600, 3, 17, 5, 224⟩] } } } }) fun s =>
        s.powered = true ∧ s.core.recordsBusy = false ∧
        s.core.dev.keep.idx.find? (fun x => x.key = s.core.dev.rnat (A.KEP_RKEY (Dev.stagingOf .program)) && x.len ≠ 0) = some ⟨600, 3, 17, 5, 224⟩ ∧
        (∀ g ∈ pageGroups 3 224, s.core.readClass (0x1000000 + g) [] = .clean)) ∧
    (holds (su (dv .run [(F.KEP_STAT_SCAN_BUSY, 1)])) fun s =>
        s.powered = true ∧ s.core.dev.fbit F.KEP_STAT_SCAN_BUSY = true ∧ s.core.mem.errs = []) ∧
    (holds (su (dv .run [(F.KEP_STAT_SCAN_BUSY, 0)])) fun s =>
        s.powered = true ∧ s.core.dev.fbit F.KEP_STAT_SCAN_BUSY = false) ∧
    (holds (su { dv .run [] with locks := [(.host, 5)] }) fun s =>
        s.powered = true ∧ s.core.dev.unlocked .host 5 = true) ∧
    (holds (su { dv .run [] with locks := [(.host, 4)] }) fun s =>
        s.powered = true ∧ s.core.dev.unlocked .host 5 = false) := by
  decide +kernel

theorem witness_FieldCommands :
    (holds (su (dv .run [])) fun s => s.powered = true) ∧
    (holds (su (dv .run [])) fun s => s.powered = true ∧ s.core.dev.field.pend = none) ∧
    (holds (su { dv .run [] with field := { pend := some { edge := 7, alm := 3 } }, tb := 50 }) fun s =>
        s.powered = true ∧ s.core.dev.field.pend = some { edge := 7, alm := 3 }) ∧
    (holds (su { dv .run [] with field := { lastSent := 1 }, tb := 1000000 }) fun s =>
        s.powered = true ∧ s.core.dev.tb < s.core.dev.field.lastSent + 1000000) ∧
    (holds (su { dv .safe [] with field := { lastSent := 1, released := true, last := { edge := 7, alm := 3 } }, tb := 1000001 }) fun s =>
        s.powered = true ∧ s.core.dev.st = .safe ∧ s.core.dev.field.released = true ∧ s.core.dev.field.power = true ∧
        s.core.dev.field.pend = none ∧ s.core.dev.field.lastSent + 1000000 ≤ s.core.dev.tb) ∧
    (holds (su { dv .run [] with field := { held := [{ edge := 7, alm := 3 }, { edge := 60 }], released := true }, tb := 7 }) fun s =>
        s.powered = true ∧
        (s.core.dev.field.held.filter fun x => x.edge ≤ s.core.dev.tb).getLast? = some { edge := 7, alm := 3 } ∧
        s.core.dev.field.silent = false ∧ s.core.dev.field.released = true ∧ s.core.dev.field.power = true) ∧
    (holds (su { dv .run [] with field := { held := [{ edge := 7, alm := 3 }], released := true }, tb := 6 }) fun s =>
        s.powered = true ∧ (s.core.dev.field.held.filter fun x => x.edge ≤ s.core.dev.tb) = []) ∧
    (holds (su { dv .run [(F.FLD_SILENCE_MS, 2)] with field := { released := true }, tb := 1900000 }) fun s =>
        s.powered = true ∧ s.core.dev.field.released = true ∧ s.core.dev.field.silent = false ∧
        s.core.dev.field.lastGood + 950000 * s.core.dev.fget F.FLD_SILENCE_MS ≤ s.core.dev.tb) := by
  decide +kernel

theorem witness_FieldCommands_2 :
    (holds (su { dv .run [] with field := { silent := true } }) fun s =>
        s.powered = true ∧ s.core.dev.field.silent = true) ∧
    (holds (su { dv .run [] with field := { fails := 8 } }) fun s =>
        s.powered = true ∧ 8 ≤ s.core.dev.field.fails ∧ s.core.dev.fbit F.FLD_STAT_DIE_DOWN = false) ∧
    (holds (su { dv .run [] with field := { fails := 7 } }) fun s => s.powered = true ∧ s.core.dev.field.fails < 8) ∧
    (holds (su { dv .run [] with field := { det := Vector.replicate 4 { openN := 39 }, applied := { code := Vector.replicate 4 0x800 } } }) fun s =>
        s.powered = true ∧ s.core.dev.fbit (F.FLD_AOSTAT_OPEN 1) = false ∧
        (vget s.core.dev.field.det 1 {}).openN = 39 ∧ 0x800 ≤ vget s.core.dev.field.applied.code 1 0 ∧ 545 < 546) ∧
    (holds (su { dv .run [(F.FLD_AOSTAT_COMPLIANCE 3, 1)] with field := { det := Vector.replicate 4 { openN := 39 } } }) fun s =>
        s.powered = true ∧ s.core.dev.fbit (F.FLD_AOSTAT_COMPLIANCE 3) = true) ∧
    (holds (su (dv .run [])) fun s =>
        s.powered = true ∧ s.core.dev.keep.idx.find? (fun r => r.key = 0x46444101) = none) ∧
    (holds ({ core := { mem := { cells := [(0x20000300, 9)] }, dev := { dv .run [] with keep := { idx := [⟨0x46444101, 3, 17, 5, 4⟩] } } } }) fun s =>
        s.powered = true ∧ s.core.dev.keep.idx.find? (fun r => r.key = 0x46444101) = some ⟨0x46444101, 3, 17, 5, 4⟩ ∧
        (∀ g ∈ pageGroups 3 4, s.core.readClass (0x1000000 + g) [] = .clean)) ∧
    (holds (su (dv .run [(F.FLD_AICFG_EN 0, 0)])) fun s =>
        s.powered = true ∧ s.core.dev.fbit (F.FLD_AICFG_EN 0) = false) := by
  decide +kernel

theorem witness_FieldCommands_3 :
    (holds (su { dv .run [(F.FLD_AICFG_EN 0, 1)] with factory := { aiTrim := Vector.replicate 4 0xD5552AAB } }) fun s =>
        s.powered = true ∧ s.core.dev.fbit (F.FLD_AICFG_EN 0) = true ∧ s.core.dev.fget (F.FLD_AICFG_AVG 0) = 0 ∧
        vget s.core.dev.field.aiSum 0 (0, 0) = (0, 0)) ∧
    (holds (su (dv .off [(F.FLD_STAT_VF_UV, 1)])) fun s => s.core.dev.fbit F.FLD_STAT_VF_UV = true) ∧
    (holds (su (dv .run [])) fun s => s.core.dev.fbit F.FLD_STAT_VF_UV = false ∧ s.core.dev.field.power = true) := by
  decide +kernel

theorem witness_LoopCommands :
    (holds (su (dv .stop [(F.LOP_CFG_EN 63, 1), (F.LOP_CFG_AUTO 63, 1), (F.LOP_PER_PERIOD 63, 1000), (F.LOP_LIM_OUT_HI 63, 0x7FFF), (F.LOP_LIM_OUT_LO 63, 0xFFF0), (F.LOP_SP_SP 63, 1000), (F.LOP_KP_KP 63, 16384), (F.LOP_KI_KI 63, 100), (F.LOP_SUP_NLIM 63, 1), (F.LOP_SAFE_SAFE 63, 77), (F.LOP_CFG_KSH 63, 1), (F.LOP_OUT_OUT 63, 0xFFFE)])) fun s =>
        s.powered = true ∧ s.core.dev.loopSteps 63 = false) ∧
    (holds (su { dv .run [(F.LOP_CFG_EN 63, 1), (F.LOP_CFG_AUTO 63, 1), (F.LOP_PER_PERIOD 63, 1000), (F.LOP_LIM_OUT_HI 63, 0x7FFF), (F.LOP_LIM_OUT_LO 63, 0xFFF0), (F.LOP_SP_SP 63, 1000), (F.LOP_KP_KP 63, 16384), (F.LOP_KI_KI 63, 100), (F.LOP_SUP_NLIM 63, 1), (F.LOP_SAFE_SAFE 63, 77), (F.LOP_CFG_KSH 63, 1), (F.LOP_OUT_OUT 63, 0xFFFE)] with tb := 999999 }) fun s =>
        s.powered = true ∧
        s.core.dev.tb / s.core.dev.loopPeriod 63 * s.core.dev.loopPeriod 63 ≤ (s.core.dev.loopSt 63).lastDue) ∧
    (holds (su { dv .run [(F.LOP_CFG_EN 63, 1), (F.LOP_CFG_AUTO 63, 1), (F.LOP_PER_PERIOD 63, 1000), (F.LOP_LIM_OUT_HI 63, 0x7FFF), (F.LOP_LIM_OUT_LO 63, 0xFFF0), (F.LOP_SP_SP 63, 1000), (F.LOP_KP_KP 63, 16384), (F.LOP_KI_KI 63, 100), (F.LOP_SUP_NLIM 63, 1), (F.LOP_SAFE_SAFE 63, 77), (F.LOP_CFG_KSH 63, 1), (F.LOP_OUT_OUT 63, 0xFFFE)] with tb := 3000000 }) fun s =>
        s.powered = true ∧ s.core.dev.loopSteps 63 = true ∧ s.core.dev.loopPeriod 63 ≠ 0 ∧
        (s.core.dev.loopSt 63).lastDue < s.core.dev.tb / s.core.dev.loopPeriod 63 * s.core.dev.loopPeriod 63) ∧
    (holds (su { dv .run [(F.LOP_CFG_EN 63, 1), (F.LOP_CFG_AUTO 63, 1), (F.LOP_PER_PERIOD 63, 1000), (F.LOP_LIM_OUT_HI 63, 0x7FFF), (F.LOP_LIM_OUT_LO 63, 0xFFF0), (F.LOP_SP_SP 63, 1000), (F.LOP_KP_KP 63, 16384), (F.LOP_KI_KI 63, 100), (F.LOP_SUP_NLIM 63, 1), (F.LOP_SAFE_SAFE 63, 77), (F.LOP_CFG_KSH 63, 1), (F.LOP_OUT_OUT 63, 0xFFFE)] with tb := 3000000 }) fun s =>
        s.powered = true ∧ s.core.dev.loopSteps 63 = true ∧ s.core.dev.loopPeriod 63 ≠ 0 ∧
        (s.core.dev.loopSt 63).lastDue < s.core.dev.tb / s.core.dev.loopPeriod 63 * s.core.dev.loopPeriod 63 ∧
        (classify [(3, 1), (4, 1)]).bad = true) ∧
    (holds (su { dv .run [(F.LOP_CFG_EN 63, 1), (F.LOP_CFG_AUTO 63, 1), (F.LOP_PER_PERIOD 63, 1000), (F.LOP_LIM_OUT_HI 63, 0x7FFF), (F.LOP_LIM_OUT_LO 63, 0xFFF0), (F.LOP_SP_SP 63, 1000), (F.LOP_KP_KP 63, 16384), (F.LOP_KI_KI 63, 100), (F.LOP_SUP_NLIM 63, 1), (F.LOP_SAFE_SAFE 63, 77), (F.LOP_CFG_KSH 63, 1), (F.LOP_OUT_OUT 63, 0xFFFE)] with tb := 3000000 }) fun s =>
        s.powered = true ∧ s.core.dev.turnedAway .host (A.LOP_CFG 63) = false ∧ s.core.loopBad 63 = false) ∧
    (holds (su { dv .run ([(F.LOP_CFG_EN 63, 1), (F.LOP_CFG_AUTO 63, 1), (F.LOP_PER_PERIOD 63, 1000), (F.LOP_LIM_OUT_HI 63, 0x7FFF), (F.LOP_LIM_OUT_LO 63, 0xFFF0), (F.LOP_SP_SP 63, 1000), (F.LOP_KP_KP 63, 16384), (F.LOP_KI_KI 63, 100), (F.LOP_SUP_NLIM 63, 1), (F.LOP_SAFE_SAFE 63, 77), (F.LOP_CFG_KSH 63, 1), (F.LOP_OUT_OUT 63, 0xFFFE)] ++ [(F.LOP_CFG_EN 63, 0), (F.LOP_STS_FAULT 63, 1)]) with locks := [(.host, 8)] }) fun s =>
        s.powered = true ∧ s.core.dev.turnedAway .host (A.LOP_CFG 63) = false ∧ s.core.loopBad 63 = false ∧
        s.core.dev.unlocked .host 8 = true) ∧
    (holds (su { dv .run [(F.LOP_CFG_EN 63, 1), (F.LOP_CFG_AUTO 63, 1), (F.LOP_PER_PERIOD 63, 1000), (F.LOP_LIM_OUT_HI 63, 0x7FFF), (F.LOP_LIM_OUT_LO 63, 0xFFF0), (F.LOP_SP_SP 63, 1000), (F.LOP_KP_KP 63, 16384), (F.LOP_KI_KI 63, 100), (F.LOP_SUP_NLIM 63, 1), (F.LOP_SAFE_SAFE 63, 77), (F.LOP_CFG_KSH 63, 1), (F.LOP_OUT_OUT 63, 0xFFFE)] with tb := 3000000 }) fun s =>
        s.powered = true ∧ s.core.dev.turnedAway .host (A.LOP_CFG 63) = false ∧ s.core.loopBad 63 = false ∧
        s.core.dev.unlocked .host 8 = false) ∧
    (holds (su { dv .run ([(F.LOP_CFG_EN 63, 1), (F.LOP_CFG_AUTO 63, 1), (F.LOP_PER_PERIOD 63, 1000), (F.LOP_LIM_OUT_HI 63, 0x7FFF), (F.LOP_LIM_OUT_LO 63, 0xFFF0), (F.LOP_SP_SP 63, 1000), (F.LOP_KP_KP 63, 16384), (F.LOP_KI_KI 63, 100), (F.LOP_SUP_NLIM 63, 1), (F.LOP_SAFE_SAFE 63, 77), (F.LOP_CFG_KSH 63, 1), (F.LOP_OUT_OUT 63, 0xFFFE)] ++ [(F.LOP_STS_PLAUSIBILITY 63, 1), (F.LOP_STS_CNT 63, 9)]) with loops := [(63, { hold := true })] }) fun s =>
        s.powered = true ∧ s.core.dev.turnedAway .host (A.LOP_CFG 63) = false ∧ s.core.loopBad 63 = false ∧
        s.core.dev.fbit (F.LOP_STS_PLAUSIBILITY 63) = true) := by
  decide +kernel

theorem witness_LoopCommands_2 :
    (holds (su (dv .run ([(F.LOP_CFG_EN 63, 1), (F.LOP_CFG_AUTO 63, 1), (F.LOP_PER_PERIOD 63, 1000), (F.LOP_LIM_OUT_HI 63, 0x7FFF), (F.LOP_LIM_OUT_LO 63, 0xFFF0), (F.LOP_SP_SP 63, 1000), (F.LOP_KP_KP 63, 16384), (F.LOP_KI_KI 63, 100), (F.LOP_SUP_NLIM 63, 1), (F.LOP_SAFE_SAFE 63, 77), (F.LOP_CFG_KSH 63, 1), (F.LOP_OUT_OUT 63, 0xFFFE)] ++ [(F.LOP_PER_PERIOD 63, 49)]))) fun s =>
        s.powered = true ∧ s.core.dev.turnedAway .host (A.LOP_CFG 63) = false ∧ s.core.loopBad 63 = true) ∧
    (holds (su { dv .run [(F.LOP_CFG_EN 63, 1), (F.LOP_CFG_AUTO 63, 1), (F.LOP_PER_PERIOD 63, 1000), (F.LOP_LIM_OUT_HI 63, 0x7FFF), (F.LOP_LIM_OUT_LO 63, 0xFFF0), (F.LOP_SP_SP 63, 1000), (F.LOP_KP_KP 63, 16384), (F.LOP_KI_KI 63, 100), (F.LOP_SUP_NLIM 63, 1), (F.LOP_SAFE_SAFE 63, 77), (F.LOP_CFG_KSH 63, 1), (F.LOP_OUT_OUT 63, 0xFFFE)] with settings := BitVec.ofNat 4096 (2 ^ 16 + 2 ^ 38) }) fun s =>
        s.powered = true ∧ s.core.dev.turnedAway .host (A.LOP_CFG 63) = true) := by
  decide +kernel

theorem witness_SafeCommands :
    (holds (su { dv .run [(F.FLD_STAT_VF_UV, 0)] with safe := { laneIn := some 7, laneBad := true, laneFail := true, dieFilt := 0xF1 } }) fun s =>
        s.powered = true ∧ s.core.dev.safe.laneIn = some 7) ∧
    (holds (su (dv .run [])) fun s => s.powered = true ∧ s.core.dev.safe.laneFail = false) ∧
    (holds (su { dv .run [(F.SAF_AX_STATE 1, 0)] with settings := BitVec.ofNat 4096 (2 ^ (8 * 264 + 7) + 2 ^ (8 * 320 + 7) + 2 ^ (8 * 264) + 2 ^ (8 * 320)), safe := { laneFail := true, absent := false, blockOk := true } }) fun s =>
        s.powered = true ∧ s.core.dev.safe.laneFail = true ∧ s.core.dev.safe.laneBad = false ∧
        s.core.dev.safe.absent = false ∧ s.core.dev.safe.blockOk = true ∧ s.core.dev.axConfigured 1 = true) ∧
    (holds (su { dv .run [] with safe := { dieSq := 15, dieOpen := false }, tb := 950000 }) fun s =>
        s.powered = true ∧ s.core.dev.safe.dieLast + 950000 ≤ s.core.dev.tb) ∧
    (holds (su { dv .run [] with safe := { dieSq := 15, dieOpen := false }, tb := 949999 }) fun s =>
        s.powered = true ∧ s.core.dev.tb < s.core.dev.safe.dieLast + 950000) ∧
    (holds (su { dv .run [] with safe := { dieFilt := 0x81 }, tb := 9 }) fun s =>
        s.powered = true ∧ s.core.dev.siStp 7 = 0) ∧
    (holds (su { dv .run [] with safe := { blockOk := true, dieBlank := Vector.replicate 2 8 }, tb := 7, settings := BitVec.ofNat 4096 (1 * 2 ^ (8 * 379 + 4) + 2 * 2 ^ (8 * 383 + 4)) }) fun s =>
        s.powered = true ∧ s.core.dev.safe.blockOk = true ∧ s.core.dev.siStp 3 ≠ 0 ∧
        s.core.dev.tb < vget s.core.dev.safe.dieBlank (s.core.dev.siStp 3 - 1) 0) ∧
    (holds (su { dv .run [] with safe := { blockOk := true, tpMiss := 0x88 }, tb := 7, settings := BitVec.ofNat 4096 (1 * 2 ^ (8 * 379 + 4) + 2 * 2 ^ (8 * 383 + 4)) }) fun s =>
        s.powered = true ∧ s.core.dev.safe.blockOk = true) := by
  decide +kernel

theorem witness_SafeCommands_2 :
    (holds (su (dv .run [])) fun s => s.powered = true ∧ s.core.dev.safe.blockOk = false) ∧
    (holds (su { dv .run [] with safe := { blockOk := true, tpMiss := 0x80 }, settings := BitVec.ofNat 4096 (1 * 2 ^ (8 * 379 + 4) + 2 * 2 ^ (8 * 383 + 4)) }) fun s =>
        s.powered = true ∧ (∀ n ∈ s.core.dev.tied 0, s.core.dev.safe.tpMiss.getLsbD n = false)) ∧
    (holds (su { dv .run [] with safe := { blockOk := true, tpMiss := 0x88 }, tb := 7, settings := BitVec.ofNat 4096 (1 * 2 ^ (8 * 379 + 4) + 2 * 2 ^ (8 * 383 + 4)) }) fun s =>
        s.powered = true ∧ 7 ∈ s.core.dev.tied 1 ∧ s.core.dev.safe.blockOk = true ∧
        s.core.dev.safe.tpMiss.getLsbD 7 = true ∧ (0#8).getLsbD 7 = false) ∧
    (holds (su { dv .run [] with safe := { blockOk := true, diffAt := Vector.replicate 4 (some 0) }, tb := 9500001, settings := BitVec.ofNat 4096 (2 ^ (8 * 382 + 6) + 2 ^ (8 * 391)) }) fun s =>
        s.powered = true ∧ vget s.core.dev.safe.diffAt 3 none = some 0 ∧ s.core.dev.safe.blockOk = true ∧
        s.core.dev.siDual (2 * 3) = true ∧ s.core.dev.safe.disc.getLsbD 3 = false ∧
        0 + 9500000 * s.core.dev.spLe (132 + 3) 1 < s.core.dev.tb) ∧
    (holds (su (dv .run [])) fun s => s.powered = true ∧ vget s.core.dev.safe.diffAt 3 none = none) ∧
    (holds (su (dv .run [])) fun s => s.powered = true ∧ s.core.dev.axState 1 ≠ 1) ∧
    (holds (su { dv .run [(F.SAF_AX_STATE 1, 1), (F.SAF_REQ_SS1, 2)] with settings := BitVec.ofNat 4096 (2 ^ (8 * 264 + 7) + 2 ^ (8 * 320 + 7) + 2 ^ (8 * 264) + 2 ^ (8 * 320)), safe := { absent := false, blockOk := true } }) fun s =>
        s.powered = true ∧ s.core.dev.axState 1 = 1 ∧ s.core.dev.safe.blockOk = true ∧
        s.core.dev.safe.absent = false ∧ s.core.dev.axConfigured 1 = true ∧ s.core.dev.ss1Causes 1 ≠ [] ∧
        4 * s.core.dev.axLe 1 20 2 ≤ (s.core.dev.axis 1).ss1N + 1) ∧
    (holds (su { dv .run [] with safe := { blockOk := true } }) fun s =>
        s.powered = true ∧ s.core.dev.axConfigured 1 = false) := by
  decide +kernel

theorem witness_SafeCommands_3 :
    (holds (su { dv .run [(F.SAF_AX_STATE 1, 0)] with settings := BitVec.ofNat 4096 (2 ^ (8 * 320 + 7) + 2 ^ (8 * 320) + 20 * 2 ^ (8 * 321)), safe := { absent := false, blockOk := true, axes := Vector.replicate 2 { inc := 0xFFFFFFFE, hist := [5, 4, 3, 2], ssi := 0xFFFFFFFF } } }) fun s =>
        s.powered = true ∧ s.core.dev.safe.blockOk = true ∧ s.core.dev.axConfigured 1 = true ∧
        s.core.dev.axBit 1 0 = true) ∧
    (holds (su (dv .run [(F.SAF_STAT_SQ, 8)])) fun s =>
        s.powered = true ∧ s.core.dev.fget F.SAF_STAT_SQ / 2 ^ 3 % 2 = 1 ∧ s.core.dev.safe.opRetry = none) ∧
    (holds (su (dv .run [(F.SAF_STAT_SQ, 8)])) fun s =>
        s.powered = true ∧ s.core.dev.fget F.SAF_STAT_SQ / 2 ^ 2 % 2 = 0) ∧
    (holds (su { dv .run [(F.SAF_STAT_SQ, 8)] with safe := { opRetry := some 3 } }) fun s =>
        s.powered = true ∧ s.core.dev.safe.opRetry = some 3) ∧
    (holds (su (dv .run [])) fun s => s.powered = true ∧ s.core.dev.safe.opRetry ≠ some 3) ∧
    (holds (su (dv .run [])) fun s => s.powered = true ∧ s.core.dev.safe.resetPend = false) ∧
    (holds (su { dv .run [] with safe := { resetPend := true } }) fun s =>
        s.powered = true ∧ s.core.dev.resetReady = false ∧ s.core.dev.safe.resetPend = true) ∧
    (holds (su (dv .run [])) fun s => s.powered = true ∧ s.core.dev.resetReady = false) := by
  decide +kernel

theorem witness_SafeCommands_4 :
    (holds (su { dv .run [(F.SAF_AX_STATE 1, 3), (F.SAF_AX_STATE 0, 3)] with settings := BitVec.ofNat 4096 (2 ^ (8 * 264 + 7) + 2 ^ (8 * 320 + 7) + 2 ^ (8 * 264) + 2 ^ (8 * 320)), safe := { absent := false, blockOk := true } }) fun s =>
        s.powered = true ∧ s.core.dev.resetReady = true ∧ s.core.dev.safe.absent = false ∧
        s.core.dev.axConfigured 1 = true ∧ s.core.dev.axState 1 = 3) ∧
    (holds (su (dv .run [(⟨A.SAF_SIG, 31, 0⟩, 99)])) fun s => s.powered = true ∧ 99 = s.core.dev.rget A.SAF_SIG) ∧
    (holds (su (dv .run [(⟨A.SAF_SIG, 31, 0⟩, 99)])) fun s => s.powered = true ∧ 98 ≠ s.core.dev.rget A.SAF_SIG) ∧
    (holds (su { dv .run [] with safe := { blockOk := true, sigBad := true } }) fun s =>
        s.powered = true ∧ s.core.dev.safe.blockOk = true ∧ (1 : Fin 3).val ≤ 1) ∧
    (holds (su { dv .run [] with safe := { blockOk := true } }) fun s =>
        s.powered = true ∧ s.core.dev.safe.blockOk = true ∧ s.core.dev.safe.sigBad = false) := by
  decide +kernel

theorem witness_CanCommands :
    (holds (su (dv .run [])) fun s => s.powered = true ∧ s.core.dev.canActive 1 = false) ∧
    (holds (su { dv .run [(F.CAN_CTL_INIT, 0)] with can := Vector.replicate 2 { integrated := true } }) fun s =>
        s.powered = true ∧ s.core.dev.canActive 1 = true ∧
        s.core.dev.frameTarget 1 { sof := 77, ide := false, id := 0x048C0000, fdf := false, brs := false, esi := true, rtr := false, dlc := 8, data := [1, 2, 3, 4, 5, 6, 7, 8] } = none) ∧
    (holds (su { dv .run [(F.CAN_CTL_INIT, 0), (⟨objAddr 1 127 0, 31, 31⟩, 1), (⟨objAddr 1 127 0, 28, 0⟩, 0x048C0000), (⟨objAddr 1 127 1, 28, 0⟩, 0x1FFC0000)] with can := Vector.replicate 2 { integrated := true } }) fun s =>
        s.powered = true ∧ s.core.dev.canActive 1 = true ∧ s.core.dev.canStores = true ∧
        s.core.dev.frameTarget 1 { sof := 77, ide := false, id := 0x048C0000, fdf := false, brs := false, esi := true, rtr := false, dlc := 8, data := [1, 2, 3, 4, 5, 6, 7, 8] } = some (127, 127) ∧
        127 < 128) ∧
    (holds (su { dv .run [(F.CAN_CTL_INIT, 0)] with can := Vector.replicate 2 { integrated := true } }) fun s =>
        s.powered = true ∧ s.core.dev.canWinner 1 9 = none) ∧
    (holds (su { dv .run [(F.CAN_CTL_INIT, 0), (⟨objAddr 1 5 0, 31, 30⟩, 3), (⟨objAddr 1 5 3, 31, 31⟩, 1)] with can := Vector.replicate 2 { integrated := true, reqs := [(5, 3)] } }) fun s =>
        s.powered = true ∧ s.core.dev.canActive 1 = true ∧ s.core.dev.canListen 1 = false ∧
        s.core.dev.canWinner 1 9 = some 5 ∧ 5 < 128) ∧
    (holds (su { dv .run [(F.CAN_CTL_INIT, 0), (⟨objAddr 1 5 0, 31, 30⟩, 3), (⟨objAddr 1 5 3, 31, 31⟩, 1), (F.CAN_CFG_RETX 1, 2)] with can := Vector.replicate 2 { integrated := true, reqs := [(5, 3)] } }) fun s =>
        s.powered = true ∧ s.core.dev.canActive 1 = true ∧ s.core.dev.canListen 1 = false ∧
        s.core.dev.canWinner 1 9 = some 5 ∧ (2 : Fin 3) ≠ 0 ∧ s.core.dev.fget (F.CAN_CFG_RETX 1) = 2) ∧
    (holds (su { dv .run [(F.CAN_CTL_INIT, 0), (F.CAN_ERR_TEC 1, 250)] with can := Vector.replicate 2 { integrated := true } }) fun s =>
        s.powered = true ∧ s.core.dev.canActive 1 = true ∧ 15 < 16) ∧
    (holds (su { dv .run [(F.CAN_CTL_INIT, 0), (F.CAN_ERR_REC 1, 500)] with can := Vector.replicate 2 { integrated := true } }) fun s =>
        s.powered = true ∧ s.core.dev.canActive 1 = true) := by
  decide +kernel

theorem witness_CanCommands_2 :
    (holds (su { dv .run [(F.CAN_CTL_INIT, 0), (F.CAN_ERR_STATE 1, 3), (F.CAN_ERR_TEC 1, 300)] with can := Vector.replicate 2 { integrated := true } }) fun s =>
        s.powered = true ∧ s.core.dev.canState 1 = 3) ∧
    (holds (su { dv .run [(F.CAN_CTL_INIT, 0)] with can := Vector.replicate 2 { integrated := true } }) fun s =>
        s.powered = true ∧ s.core.dev.canState 1 ≠ 3) ∧
    (holds (su { dv .run [(F.CAN_CTL_INIT, 0), (F.CAN_ERR_STATE 1, 2)] with can := Vector.replicate 2 { integrated := true } }) fun s =>
        s.powered = true ∧ s.core.dev.turnedAway .host A.CAN_CTL = false ∧ (0x300#32).getLsbD (8 + 1) = true ∧
        s.core.dev.canState 1 = 2) ∧
    (holds (su { dv .run [(F.CAN_CTL_INIT, 0)] with can := Vector.replicate 2 { integrated := true } }) fun s =>
        s.powered = true ∧ s.core.dev.turnedAway .host A.CAN_CTL = false ∧ (0x300#32).getLsbD (8 + 1) = true ∧
        s.core.dev.canState 1 ≠ 2) ∧
    (holds (su { dv .run [(F.CAN_CTL_INIT, 0)] with locks := [(.host, 10)], can := Vector.replicate 2 { integrated := true } }) fun s =>
        s.powered = true ∧ s.core.dev.turnedAway .host A.CAN_CTL = false ∧ s.core.dev.unlocked .host 10 = true) ∧
    (holds (su { dv .run [(F.CAN_CTL_INIT, 0)] with can := Vector.replicate 2 { integrated := true } }) fun s =>
        s.powered = true ∧ s.core.dev.turnedAway .host A.CAN_CTL = false ∧ s.core.dev.unlocked .host 10 = false) ∧
    (holds (su { dv .run [(F.CAN_CTL_INIT, 0), (⟨objAddr 1 127 0, 31, 30⟩, 3)] with can := Vector.replicate 2 { integrated := true } }) fun s =>
        s.powered = true ∧ s.core.dev.turnedAway .host (A.CAN_CMD 1) = false ∧ s.core.dev.objBit 1 127 0 31 = true ∧
        s.core.dev.objBit 1 127 0 30 = true ∧ s.core.dev.objBit 1 127 2 26 = false ∧
        s.core.dev.objBit 1 127 2 31 = false ∧ s.core.dev.objBit 1 127 3 31 = false) ∧
    (holds (su { dv .run [(F.CAN_CTL_INIT, 0)] with can := Vector.replicate 2 { integrated := true } }) fun s =>
        s.powered = true ∧ s.core.dev.turnedAway .host (A.CAN_CMD 1) = false ∧
        s.core.dev.objBit 1 127 0 31 = false) := by
  decide +kernel

theorem witness_CanCommands_3 :
    (holds (su { dv .run [(F.CAN_CTL_INIT, 0), (⟨objAddr 1 5 0, 31, 30⟩, 3), (⟨objAddr 1 5 3, 31, 31⟩, 1)] with can := Vector.replicate 2 { integrated := true, reqs := [(5, 3)] } }) fun s =>
        s.powered = true ∧ s.core.dev.turnedAway .host (A.CAN_CMD 1) = false ∧ s.core.dev.objBit 1 5 0 30 = true ∧
        s.core.dev.objBit 1 5 3 31 = true) ∧
    (holds (su { dv .run [(F.CAN_CTL_INIT, 0), (⟨objAddr 1 5 0, 31, 30⟩, 3)] with can := Vector.replicate 2 { integrated := true } }) fun s =>
        s.powered = true ∧ s.core.dev.turnedAway .host (A.CAN_CMD 1) = false ∧ s.core.dev.objBit 1 5 0 30 = true ∧
        s.core.dev.objBit 1 5 3 31 = false) ∧
    (holds (su { dv .run [(F.CAN_CTL_INIT, 0), (⟨objAddr 1 5 3, 31, 31⟩, 1)] with can := Vector.replicate 2 { integrated := true } }) fun s =>
        s.powered = true ∧ s.core.dev.turnedAway .host (A.CAN_CMD 1) = false ∧ s.core.dev.objBit 1 5 0 30 = false) ∧
    (holds (su { dv .run [(F.CAN_CTL_INIT, 0), (⟨objAddr 1 5 0, 31, 30⟩, 3), (⟨objAddr 1 5 3, 31, 31⟩, 1)] with can := Vector.replicate 2 { integrated := true } }) fun s =>
        s.powered = true ∧ s.core.dev.turnedAway .host (A.CAN_CMD 1) = false ∧ s.core.dev.objBit 1 5 0 30 = true) ∧
    (holds (su (dv .run [])) fun s => s.powered = true ∧ (0xA0FFF < 0xA1000 ∨ 0xA7000 ≤ 0xA0FFF)) ∧
    (holds (su { dv .run [(F.CAN_CTL_INIT, 0), (⟨objAddr 1 127 0, 31, 31⟩, 1)] with can := Vector.replicate 2 { integrated := true } }) fun s =>
        s.powered = true ∧ s.core.dev.turnedAway .host A.CAN_CTL = false ∧ 23 < 24 ∧
        (s.core.dev.objBit 1 127 0 30 && s.core.dev.objBit 1 127 3 31) = false) ∧
    (holds (su { dv .run [(F.CAN_CTL_INIT, 0), (⟨objAddr 1 127 0, 31, 31⟩, 1)] with can := Vector.replicate 2 { integrated := true } }) fun s =>
        s.powered = true ∧ s.core.dev.turnedAway .host A.CAN_CTL = false ∧ s.core.dev.objBit 1 127 0 31 = true) ∧
    (holds (su { dv .run [(F.CAN_CTL_INIT, 0)] with can := Vector.replicate 2 { integrated := true } }) fun s =>
        s.powered = true ∧ s.core.dev.turnedAway .host A.CAN_CTL = false ∧ s.core.dev.objBit 1 127 0 31 = false ∧
        (0x7FFFFFFF#32).getLsbD 31 = false) := by
  decide +kernel

theorem witness_CanCommands_4 :
    (holds (su { dv .run [(F.CAN_CTL_INIT, 0)] with can := Vector.replicate 2 { integrated := true } }) fun s =>
        s.powered = true ∧ s.core.dev.fget (F.CAN_CFG_TT_MODE 1) ≠ 1) ∧
    (holds (su { dv .run [(F.CAN_CTL_INIT, 0), (F.CAN_CFG_TT_MODE 1, 1), (F.CAN_CFG_NCYC_M1 1, 63), (F.CAN_TTSTAT_CYCCNT 1, 63)] with can := Vector.replicate 2 { integrated := true } }) fun s =>
        s.powered = true ∧ s.core.dev.fget (F.CAN_CFG_TT_MODE 1) = 1 ∧ s.core.dev.canActive 1 = true ∧
        s.core.dev.canListen 1 = false ∧ s.core.dev.ttDue 1 = true ∧ s.core.dev.ttTaken 1 = false) ∧
    (holds (su { dv .run [(F.CAN_CTL_INIT, 0)] with can := Vector.replicate 2 { integrated := true } }) fun s =>
        s.powered = true ∧ (s.core.dev.canc 1).ttStart = none) ∧
    (holds (su { dv .run [(F.CAN_CTL_INIT, 0), (F.CAN_CFG_TT_MODE 1, 1), (F.CAN_CFG_NCYC_M1 1, 63), (F.CAN_TTSTAT_CYCCNT 1, 63), (⟨objAddr 1 5 0, 31, 30⟩, 3), (⟨objAddr 1 5 2, 26, 26⟩, 1), (⟨objAddr 1 5 2, 15, 0⟩, 0), (⟨objAddr 1 5 1, 13, 8⟩, 63), (⟨objAddr 1 5 1, 5, 0⟩, 63)] with can := Vector.replicate 2 { integrated := true, ttStart := some 0 } }) fun s =>
        s.powered = true ∧ (s.core.dev.canc 1).ttStart = some 0 ∧ s.core.dev.fget (F.CAN_CFG_TT_MODE 1) ≠ 0 ∧
        (s.core.dev.canc 1).noRef = false ∧ s.core.dev.objBit 1 5 0 31 = true ∧ s.core.dev.objBit 1 5 0 30 = true ∧
        s.core.dev.objBit 1 5 2 26 = true ∧ 5 ∉ (s.core.dev.canc 1).marked ∧
        s.core.dev.fget (F.CAN_TTSTAT_CYCCNT 1) % (bitsOf (s.core.dev.obj 1 5 1).toNat 13 8 + 1) = bitsOf (s.core.dev.obj 1 5 1).toNat 5 0 ∧
        0 + bitsOf (s.core.dev.obj 1 5 2).toNat 15 0 * 1000 ≤ s.core.dev.tb) ∧
    (holds (su { dv .run [(F.CAN_CTL_INIT, 0)] with can := Vector.replicate 2 { integrated := true } }) fun s =>
        s.powered = true ∧ (s.core.dev.canc 1).lastRef = none) ∧
    (holds (su { dv .run [(F.CAN_CTL_INIT, 0), (F.CAN_CFG_TT_MODE 1, 2)] with tb := 2000000, can := Vector.replicate 2 { integrated := true, lastRef := some 0 } }) fun s =>
        s.powered = true ∧ (s.core.dev.canc 1).lastRef = some 0 ∧ s.core.dev.fget (F.CAN_CFG_TT_MODE 1) = 2 ∧
        s.core.dev.canActive 1 = true ∧ (s.core.dev.canc 1).noRef = false ∧
        0 + s.core.dev.fget (F.CAN_TTCYC_CYCLE 1) * 2000 ≤ s.core.dev.tb) ∧
    (holds (su { dv .run [(F.CAN_CTL_INIT, 0)] with can := Vector.replicate 2 { integrated := true } }) fun s =>
        s.powered = true ∧ (s.core.dev.canc 1).integrated = true) ∧
    (holds (su (dv .run [(F.CAN_CTL_INIT, 0)])) fun s =>
        s.powered = true ∧ s.core.dev.canInit 1 = false ∧ (s.core.dev.canc 1).integrated = false) := by
  decide +kernel

theorem witness_WatchCommands :
    (holds (su { dv .run [(F.WDG_STAT_STATE, 1), (F.WDG_FLT_CAUSE, 0)] with wdg := { period := 100, opn := 50 }, tb := 60000 }) fun s =>
        s.powered = true ∧ 0xA4 ≠ 0xA5#32) ∧
    (holds (su { dv .run [(F.WDG_STAT_STATE, 1), (F.WDG_FLT_CAUSE, 0)] with wdg := { period := 100, opn := 50, dupTasks := 4 }, tb := 100000 }) fun s =>
        s.powered = true ∧ s.core.dev.wdgState = 1 ∧ 1000 * s.core.dev.wdg.period ≤ s.core.dev.wdgElapsed) ∧
    (holds (su { dv .run [(F.WDG_STAT_STATE, 1), (F.WDG_FLT_CAUSE, 0)] with wdg := { period := 100, opn := 50 }, tb := 99999 }) fun s =>
        s.powered = true ∧ s.core.dev.wdgState = 1 ∧ s.core.dev.wdgElapsed < 1000 * s.core.dev.wdg.period) ∧
    (holds (su { dv .run [(F.WDG_STAT_STATE, 1), (F.WDG_FLT_CAUSE, 0)] with wdg := { period := 100, opn := 50 }, tb := 49999 }) fun s =>
        s.powered = true ∧ s.core.dev.wdgState = 1 ∧ s.core.dev.wdgElapsed < 1000 * s.core.dev.wdg.period ∧
        s.core.dev.wdgElapsed < 1000 * s.core.dev.wdg.opn) ∧
    (holds (su { dv .run [(F.WDG_STAT_STATE, 1), (F.WDG_FLT_CAUSE, 0)] with wdg := { period := 100, opn := 50, dupTasks := 4 }, tb := 50000 }) fun s =>
        s.powered = true ∧ s.core.dev.wdgState = 1 ∧ s.core.dev.wdgElapsed < 1000 * s.core.dev.wdg.period ∧
        1000 * s.core.dev.wdg.opn ≤ s.core.dev.wdgElapsed ∧ s.core.dev.wdg.dupTasks ≠ 0) ∧
    (holds (su { dv .run [(F.WDG_STAT_STATE, 1), (F.WDG_FLT_CAUSE, 0), (F.WDG_MASK_CHK, 1)] with wdg := { period := 100, opn := 50 }, tb := 50000 }) fun s =>
        s.powered = true ∧ s.core.dev.wdgState = 1 ∧ s.core.dev.wdgElapsed < 1000 * s.core.dev.wdg.period ∧
        1000 * s.core.dev.wdg.opn ≤ s.core.dev.wdgElapsed ∧ s.core.dev.wdg.dupTasks = 0 ∧
        s.core.dev.fget F.WDG_MASK_CHK ≠ s.core.dev.fget F.WDG_MASK_EXP) ∧
    (holds (su { dv .run [(F.WDG_STAT_STATE, 1), (F.WDG_FLT_CAUSE, 0), (F.WDG_MASK_CHK, 1), (F.WDG_MASK_EXP, 1)] with wdg := { period := 100, opn := 50 }, tb := 50000 }) fun s =>
        s.powered = true ∧ s.core.dev.wdgState = 1 ∧ s.core.dev.wdgElapsed < 1000 * s.core.dev.wdg.period ∧
        1000 * s.core.dev.wdg.opn ≤ s.core.dev.wdgElapsed ∧ s.core.dev.wdg.dupTasks = 0 ∧
        s.core.dev.fget F.WDG_MASK_CHK = s.core.dev.fget F.WDG_MASK_EXP) ∧
    (holds (su (dv .run [])) fun s => s.powered = true ∧ s.core.dev.wdgState ≠ 1) := by
  decide +kernel

theorem witness_WatchCommands_2 :
    (holds (su (dv .run [])) fun s => s.powered = true ∧ s.core.dev.clockChecks = true) ∧
    (holds (su (dv .run [])) fun s =>
        s.powered = true ∧ s.core.dev.clockChecks = true ∧ s.core.dev.tbStopped = false) ∧
    (holds (su (dv .run [])) fun s => s.powered = true ∧ s.core.dev.clockChecks = true ∧ 869 < 870) ∧
    (holds (su (dv .run [])) fun s => s.powered = true ∧ s.core.dev.clockChecks = true ∧ 1178 < 1179) ∧
    (holds (su (dv .boot [])) fun s => s.powered = true ∧ s.core.dev.clockChecks = false) ∧
    (holds (su (dv .run [])) fun s => s.powered = true ∧ 25 ≤ (25 : Fin 64).val) ∧
    (holds (su { dv .run [] with tb := 1000 }) fun s =>
        s.powered = true ∧ (24 : Fin 64).val < 25 ∧ s.core.dev.rcd.queue = [] ∧
        (∀ x ∈ s.core.dev.rcd.lastW, x.1 ≠ 24) ∧ (Dev.privileged 24 || !s.core.dev.fbit F.REC_STAT_ORD_FULL) = true) ∧
    (holds (su { dv .run [(F.REC_STAT_ORD_FULL, 1)] with tb := 1000 }) fun s =>
        s.powered = true ∧ (Dev.privileged 7 || !s.core.dev.fbit F.REC_STAT_ORD_FULL) = true) := by
  decide +kernel

theorem witness_WatchCommands_3 :
    (holds (su (dv .run [])) fun s => s.powered = true ∧ s.core.dev.rcd.queue = []) ∧
    (holds (su { dv .run [] with rcd := { queue := [⟨1, 2, 3, 0, 0, []⟩] } }) fun s =>
        s.powered = true ∧ s.core.dev.rcd.scanning = true) ∧
    (holds (su { dv .run [(F.KEP_STAT_SEALED, 0), (F.REC_PNEXT_SLOT, 639)] with rcd := { queue := [⟨7, 2, 3, 0, 0, [9]⟩], scanning := false } }) fun s =>
        s.powered = true ∧ s.core.dev.rcd.queue = [⟨7, 2, 3, 0, 0, [9]⟩] ∧ s.core.dev.rcd.scanning = false ∧
        s.core.dev.fbit F.KEP_STAT_SEALED = false ∧ s.core.dev.rcd.lostN = 0 ∧ 7 < 64 ∧ Dev.privileged 7 = true ∧
        s.core.dev.fbit F.REC_STAT_PRIV_CIRC = false) ∧
    (holds (su { dv .run [(F.KEP_STAT_SEALED, 0), (F.REC_ORD_N_N, 3839)] with rcd := { queue := [⟨8, 2, 3, 0, 0, [9]⟩], scanning := false } }) fun s =>
        s.powered = true ∧ s.core.dev.rcd.queue = [⟨8, 2, 3, 0, 0, [9]⟩] ∧ s.core.dev.rcd.scanning = false ∧
        s.core.dev.fbit F.KEP_STAT_SEALED = false ∧ s.core.dev.rcd.lostN = 0 ∧ 8 < 64 ∧ Dev.privileged 8 = false ∧
        s.core.dev.fbit F.REC_STAT_ORD_FULL = false) ∧
    (holds (su { dv .run [(F.KEP_STAT_SEALED, 0), (F.REC_STAT_ORD_FULL, 1)] with rcd := { queue := [⟨8, 2, 3, 0, 0, [9]⟩], scanning := false } }) fun s =>
        s.powered = true ∧ s.core.dev.rcd.queue = [⟨8, 2, 3, 0, 0, [9]⟩] ∧ s.core.dev.rcd.scanning = false ∧
        s.core.dev.fbit F.KEP_STAT_SEALED = false ∧ s.core.dev.rcd.lostN = 0 ∧ 8 < 64 ∧ Dev.privileged 8 = false ∧
        s.core.dev.fbit F.REC_STAT_ORD_FULL = true) ∧
    (holds (su (dv .run [])) fun s => s.powered = true ∧ (s.core.dev.rcd.merged.find? fun m => m.1 = 5) = none) ∧
    (holds ({ area := { slots := [(5, 0x123456789ABCDEF0123456789ABCDEF)] }, core := { dev := { dv .run [(F.KEP_STAT_SEALED, 0)] with rcd := { merged := [(5, 7, 8)] } } } }) fun s =>
        s.powered = true ∧ (s.core.dev.rcd.merged.find? fun m => m.1 = 5) = some (5, 7, 8) ∧
        s.core.dev.fbit F.KEP_STAT_SEALED = false) ∧
    (holds (su { dv .run [] with rcd := { scanning := false } }) fun s =>
        s.powered = true ∧ s.core.dev.rcd.scanning = false) := by
  decide +kernel

theorem witness_WatchCommands_4 :
    (holds (su { dv .run [(⟨A.TAL_L_HI 15 3, 31, 0⟩, 7), (⟨A.TAL_PCNT_HI 7, 31, 0⟩, 8), (⟨A.TAL_L_LO 13 0, 31, 0⟩, 0xFFFFFFFF)] with tb := 2 ^ 33 + 5, beatCnt := 6 }) fun s =>
        s.powered = true ∧ (Requester.service ≠ .host)) := by
  decide +kernel

theorem witness_HostCommands :
    (holds (su (dv .run [])) fun s => s.powered = true) ∧
    (holds (su (dv .run [(F.ESC_TCFG_EN 15, 1), (F.ESC_TCFG_TRIG 15, 1), (F.ESC_TCFG_ALERT 15, 15)])) fun s =>
        s.powered = true ∧ 7 < 8 ∧ (0x80#32).getLsbD 7 = true ∧ s.core.dev.fbit (F.ESC_TCFG_EN 15) = true ∧
        s.core.dev.fbit (F.ESC_TCFG_TRIG 15) = true ∧ s.core.dev.fget (F.ESC_TCFG_ALERT 15) = 8 + 7 ∧
        (s.core.dev.task 15).halted = false) ∧
    (holds (su (dv .run [])) fun s => s.powered = true ∧ Dev.bar0Mapped 0x0200FFF = true) ∧
    (holds (su (dv .run [])) fun s => s.powered = true ∧ Dev.bar0Mapped 0x0201000 = false) ∧
    (holds (su (dv .run [(F.HST_STAT_LINK_UP, 1)])) fun s =>
        s.powered = true ∧ s.core.dev.fbit F.HST_STAT_LINK_UP = true) ∧
    (holds (su (dv .run [])) fun s => s.powered = true ∧ s.core.dev.fbit F.HST_STAT_LINK_UP = false) := by
  decide +kernel

theorem witness_RegisterCommands :
    (holds (su { dv .run [] with locks := [(.service, 15), (.host, 14)] }) fun s =>
        s.powered = true ∧ s.core.dev.turnedAway .host (15 * 0x10000 + 0x1C) = false) ∧
    (holds (su (dv .run [])) fun s =>
        s.powered = true ∧ A.HST_CTL % 4 = 0 ∧ A.HST_CTL / 0x10000 < 16 ∧
        s.core.dev.turnedAway .service A.HST_CTL = true) ∧
    (holds (su (dv .run [])) fun s =>
        s.powered = true ∧ 0xFFFFC % 4 = 0 ∧ 0xFFFFC / 0x10000 < 16 ∧ s.core.dev.turnedAway .host 0xFFFFC = false ∧
        0xFFFFC % 0x10000 ≠ 0x1C ∧ ¬ (0xA1000 ≤ 0xFFFFC ∧ 0xFFFFC < 0xA7000) ∧ 0xFFFFC ≠ A.CAN_CTL ∧
        regRow 0xFFFFC = none) ∧
    (holds (su (dv .run [])) fun s =>
        s.powered = true ∧ A.MOV_TRAP_PC % 4 = 0 ∧ A.MOV_TRAP_PC / 0x10000 < 16 ∧
        s.core.dev.turnedAway .host A.MOV_TRAP_PC = false ∧ A.MOV_TRAP_PC % 0x10000 ≠ 0x1C ∧
        ¬ (0xA1000 ≤ A.MOV_TRAP_PC ∧ A.MOV_TRAP_PC < 0xA7000) ∧ A.MOV_TRAP_PC ≠ A.CAN_CTL ∧
        (regRow A.MOV_TRAP_PC).any (fun r => r.rw ||| r.rwl ||| r.w1c ||| r.wo = 0) = true) ∧
    (holds (su (dv .run [])) fun s =>
        s.powered = true ∧ A.MOV_CTL % 4 = 0 ∧ A.MOV_CTL / 0x10000 < 16 ∧
        s.core.dev.turnedAway .host A.MOV_CTL = false ∧ A.MOV_CTL % 0x10000 ≠ 0x1C ∧ ¬ (0xA1000 ≤ A.MOV_CTL ∧
        A.MOV_CTL < 0xA7000) ∧ A.MOV_CTL ≠ A.CAN_CTL ∧
        (regRow A.MOV_CTL).any (fun r => r.rw ||| r.w1c ||| r.wo = 0 && r.rwl ≠ 0) = true ∧
        s.core.dev.unlocked .host 0 = false) ∧
    (holds (su (dv .run [(F.MOV_EVT_TRAP, 1)])) fun s =>
        s.powered = true ∧ 0x10 % 4 = 0 ∧ 0x10 / 0x10000 < 16 ∧ s.core.dev.turnedAway .host 0x10 = false ∧
        0x10 % 0x10000 ≠ 0x1C ∧ ¬ (0xA1000 ≤ 0x10 ∧ 0x10 < 0xA7000) ∧ 0x10 ≠ A.CAN_CTL ∧
        (regRow 0x10).any (fun r => r.w1c ≠ 0) = true ∧ 0x10 % 0x10000 = 0x10 ∧ 0x10 / 0x10000 ≠ 0xD) ∧
    (holds (su { dv .run [] with locks := [(.host, 0)] }) fun s =>
        s.powered = true ∧ s.core.dev.unlocked .host 0 = true) ∧
    (holds (su (dv .run [])) fun s => s.powered = true ∧ s.core.dev.unlocked .host 0 = false) := by
  decide +kernel

theorem witness_RegisterCommands_2 :
    (holds (su { dv .run [] with gt := { anchor := { sec := 2 ^ 33 + 4 } }, latches := [(.host, A.REG_CAL_BSUB, 6)] }) fun s =>
        s.powered = true ∧ (Requester.service ≠ .host) ∧ Dev.isHigh A.REG_CAL_BSEC_LO = false) ∧
    (holds (su (dv .run [])) fun s =>
        s.powered = true ∧ (Requester.service ≠ .host) ∧ Dev.isHigh A.REG_CAL_BSUB = true) := by
  decide +kernel

theorem witness_StepTakesTheFront :
    (holds ({ su { dv .run [] with tb := 5 } with pending := [.beat, .vfUv] }) fun s => s.pending = [.beat, .vfUv]) ∧
    (holds (su { dv .run [] with tb := 5 }) fun s =>
        s.pending = [] ∧ s.powered = true ∧ s.core.dev.tbStopped = false) ∧
    (holds (State.reset) fun s => s.pending = [] ∧ (s.powered = false ∨ s.core.dev.tbStopped = true)) := by
  decide +kernel

theorem witness_EveryCommandAnswers :
    (holds (State.reset) fun s => s.powered = false) := by
  decide +kernel

theorem witness_InvariantKept :
    sQueue.area.wf = true ∧ sQueue.pending.all Instr.wellFormed = true ∧ sQueue.otp.keyRevoked = 3 ∧
    (match step sQueue with | .next t => t.pending == [Instr.vfUv] | _ => false) = true := by
  decide +kernel

theorem witness_CanonicalKept :
    sQueue.canonical = true ∧ sQueue.core.mem.cells ≠ [] ∧ sQueue.core.dev.regs ≠ [] ∧ sQueue.area.slots ≠ [] := by
  decide +kernel

theorem witness_DeviceFrames :
    (holds (su (dv .run [])) fun s => s.powered = true) := by
  decide +kernel

end Sys2Proof.Tests
end

section
/-! SUPPORT. What start-up decides about a device, and that the operations of the blocks keep it: the device state
(Table 0.6), the non-volatile records with the SAFE flag (R7), and whether bring-up is in progress (R179). -/

namespace Sys2Proof.Machine

namespace Dev

/-- The device state, the non-volatile records, and whether bring-up is in progress. -/
def stage (d : Dev) : DevState × Nv × Bool := (d.st, d.nv, d.lac.bringUp)

theorem st_of_stage {d e : Dev} (h : stage d = stage e) : d.st = e.st := congrArg (·.1) h

theorem nv_of_stage {d e : Dev} (h : stage d = stage e) : d.nv = e.nv := congrArg (·.2.1) h

theorem bringUp_of_stage {d e : Dev} (h : stage d = stage e) : d.lac.bringUp = e.lac.bringUp := congrArg (·.2.2) h

/-- An operation that keeps `rest` keeps the stage. -/
theorem stage_of_rest {d e : Dev} (h : rest d = rest e) : stage d = stage e := of_rest stage (fun _ => rfl) h

/-- A fold whose steps keep the stage keeps it. -/
theorem stage_foldl {α : Type} (f : Dev → α → Dev) (h : ∀ d a, stage (f d a) = stage d) (l : List α) (d : Dev) :
    stage (l.foldl f d) = stage d := foldl_keeps stage f h l d

/-- A choice between two devices of one stage has that stage. -/
theorem stage_choice {p : Prop} [Decidable p] {x y d : Dev} (hx : stage x = stage d) (hy : stage y = stage d) :
    stage (if p then x else y) = stage d := by
  split
  · exact hx
  · exact hy

/-! ### Updates of one part

Each is proved by `(rfl)`, not `rfl`: `simp` then uses it as a rewrite with a proof term, where a definitional step would
have the kernel compare two devices by evaluating them. -/

variable (d : Dev)

@[simp] theorem stage_rset (a : Nat) (w : Word) : stage (d.rset a w) = stage d := (rfl)
@[simp] theorem stage_rsetN (a n : Nat) : stage (d.rsetN a n) = stage d := (rfl)
@[simp] theorem stage_rreset (a : Nat) : stage (d.rreset a) = stage d := (rfl)
@[simp] theorem stage_fset (f : Fld) (v : Nat) : stage (d.fset f v) = stage d := (rfl)
@[simp] theorem stage_fput (f : Fld) (b : Bool) : stage (d.fput f b) = stage d := (rfl)
@[simp] theorem stage_finc (f : Fld) (n : Nat) : stage (d.finc f n) = stage d := (rfl)
@[simp] theorem stage_nextFree : stage d.nextFree = stage d := (rfl)
@[simp] theorem stage_modEsc (f : Esc → Esc) : stage (d.modEsc f) = stage d := (rfl)
@[simp] theorem stage_modSvc (f : Svc → Svc) : stage (d.modSvc f) = stage d := (rfl)
@[simp] theorem stage_modSess (f : Session → Session) : stage (d.modSess f) = stage d := (rfl)
@[simp] theorem stage_modField (f : FieldSt → FieldSt) : stage (d.modField f) = stage d := (rfl)
@[simp] theorem stage_modWlt (f : Wlt → Wlt) : stage (d.modWlt f) = stage d := (rfl)
@[simp] theorem stage_modAxis (a : Nat) (f : AxisSt → AxisSt) : stage (d.modAxis a f) = stage d := (rfl)
@[simp] theorem stage_modLoop (n : Nat) (f : LoopSt → LoopSt) : stage (d.modLoop n f) = stage d := (rfl)
@[simp] theorem stage_modTask (n : Nat) (f : Task → Task) : stage (d.modTask n f) = stage d := (rfl)
@[simp] theorem stage_modRing (l : Bool) (f : Ring → Ring) : stage (d.modRing l f) = stage d := by cases l <;> rfl
@[simp] theorem stage_setLeaseRow (p : Nat) (l : Lease) : stage (d.setLeaseRow p l) = stage d := (rfl)
@[simp] theorem stage_leaseLater (n : Nat) (l : Lease) : stage (d.leaseLater n l) = stage d := (rfl)
@[simp] theorem stage_sspSend (bs : List Byte) : stage (d.sspSend bs) = stage d := (rfl)

@[simp] theorem stage_trains (m : Mov) : stage { d with mov := m } = stage d := (rfl)
@[simp] theorem stage_slots (l : List (Nat × Slot)) : stage { d with slots := l } = stage d := (rfl)

/-! ### What is noted -/

@[simp] theorem stage_fsticky (f : Fld) (v : Nat) : stage (d.fsticky f v) = stage d := stage_of_rest (rest_fsticky ..)
@[simp] theorem stage_tally (ev n : Nat) : stage (d.tally ev n) = stage d := stage_of_rest (rest_tally ..)
@[simp] theorem stage_raise (f : Fld) : stage (d.raise f) = stage d := stage_of_rest (rest_raise ..)
@[simp] theorem stage_raiseRec (f : Fld) : stage (d.raiseRec f) = stage d := stage_of_rest (rest_raiseRec ..)
@[simp] theorem stage_occurBlk (s c b : Nat) : stage (d.occurBlk s c b) = stage d := stage_of_rest (rest_occurBlk ..)
@[simp] theorem stage_occurPair (s c : Nat) (w : List Word) : stage (d.occurPair s c w) = stage d :=
  stage_of_rest (rest_occurPair ..)
@[simp] theorem stage_transient (n : Nat) : stage (d.transient n) = stage d := stage_of_rest (rest_transient ..)
@[simp] theorem stage_lasting (n b : Nat) : stage (d.lasting n b) = stage d := stage_of_rest (rest_lasting ..)

/-- An alert changes tasks and what is noted (R40, R41). -/
@[simp] theorem stage_alert (src : Nat) : stage (d.alert src) = stage d := by
  unfold alert
  refine stage_foldl _ (fun d n => ?_) _ _
  split
  · split <;> simp
  · rfl

/-! ### SAFE -/

@[simp] theorem stage_safFlt (c p : Nat) : stage (d.safFlt c p) = stage d := by
  unfold safFlt; split <;> simp

@[simp] theorem stage_safEntry (c b : Nat) : stage (d.safEntry c b) = stage d := stage_occurBlk ..

@[simp] theorem stage_enterSto (a c : Nat) : stage (d.enterSto a c) = stage d := by simp [enterSto]

@[simp] theorem stage_latchAxis (a : Nat) : stage (d.latchAxis a) = stage d := by simp [latchAxis]

@[simp] theorem stage_encCapture (a : Nat) : stage (d.encCapture a) = stage d := by simp [encCapture]

@[simp] theorem stage_ss1Check (a : Nat) : stage (d.ss1Check a) = stage d := by
  unfold ss1Check
  dsimp only
  exact stage_choice (by simp only [stage_enterSto, stage_safFlt, stage_modAxis])
    (stage_choice (by simp only [stage_enterSto, stage_modAxis]) (stage_modAxis ..))

@[simp] theorem stage_startSs1 (a c : Nat) : stage (d.startSs1 a c) = stage d := by simp [startSs1]

/-- Whichever transition an axis makes (R308), the stage stays. -/
@[simp] theorem stage_settleAxis (a : Nat) : stage (d.settleAxis a) = stage d := by
  unfold settleAxis
  dsimp only
  refine stage_choice (stage_fset ..) (stage_choice (stage_fset ..) (stage_choice (stage_fset ..) (stage_choice ?demand
    (stage_choice ?ended (stage_choice (stage_startSs1 ..) rfl)))))
  case demand =>
    refine stage_choice ((stage_modAxis ..).trans ?_) ?_ <;>
      exact stage_choice (stage_enterSto ..) (stage_choice (by simp only [stage_modAxis, stage_fset]) rfl)
  case ended => exact stage_choice (stage_fset ..) (stage_latchAxis ..)

@[simp] theorem stage_safShow : stage d.safShow = stage d := by
  unfold safShow
  dsimp only
  rw [stage_fput, stage_fset, stage_foldl]
  simp

@[simp] theorem stage_safSettle : stage d.safSettle = stage d := by simp [safSettle]

@[simp] theorem stage_safState : stage d.safState = stage d := by
  unfold safState; split <;> simp

@[simp] theorem stage_holdBoth (c : Nat) : stage (d.holdBoth c) = stage d := by
  unfold holdBoth
  dsimp only
  rw [stage_safSettle, stage_foldl, stage_fput]
  intro d a
  split <;> simp

@[simp] theorem stage_cutoffTest (res : Nat) : stage (d.cutoffTest res) = stage d := by
  unfold cutoffTest; split <;> simp

@[simp] theorem stage_safBootEnd (cut : Nat) : stage (d.safBootEnd cut) = stage d := by simp [safBootEnd]

/-! ### FIELD -/

@[simp] theorem stage_fldFlt (c n : Nat) : stage (d.fldFlt c n) = stage d := by
  unfold fldFlt; split <;> simp

@[simp] theorem stage_fieldShow : stage d.fieldShow = stage d := by
  unfold fieldShow
  dsimp only
  rw [stage_nextFree, stage_fset, stage_foldl]
  simp

@[simp] theorem stage_linkRetried : stage d.linkRetried = stage d := by simp [linkRetried]

@[simp] theorem stage_linkFailed : stage d.linkFailed = stage d := by
  unfold linkFailed
  dsimp only
  split <;> simp

@[simp] theorem stage_fieldRelease : stage d.fieldRelease = stage d := by
  unfold fieldRelease
  dsimp only
  refine stage_choice rfl (stage_choice (by simp only [stage_modField, stage_linkFailed]) ?_)
  rw [stage_fieldShow, stage_fput, stage_modField]
  exact stage_choice (stage_linkRetried _) rfl

/-! ### LACE and the crown -/

@[simp] theorem stage_ringShow : stage d.ringShow = stage d := by
  unfold ringShow; split <;> simp

@[simp] theorem stage_markPresent (l : Bool) (n : Nat) : stage (d.markPresent l n) = stage d := by
  unfold markPresent
  dsimp only
  refine stage_choice rfl ((stage_ringShow _).trans (stage_choice ?again ?first))
  case again => simp only [stage_alert, stage_finc, stage_raise, stage_rset, stage_modRing]
  case first => simp only [stage_rset, stage_modRing]

@[simp] theorem stage_loadRing (im : Image) : stage (d.loadRing im) = stage d := by
  unfold loadRing
  dsimp only
  simp only [stage_rsetN, stage_fset]
  rw [stage_foldl]
  intro d i
  split <;> simp

@[simp] theorem stage_ringRun : stage d.ringRun = stage d := by
  unfold ringRun; split <;> simp

@[simp] theorem stage_emit (e : Emission) : stage (d.emit e) = stage d := by
  unfold emit; split <;> rfl

@[simp] theorem stage_mgmtSend (l : Lease) : stage (d.mgmtSend l) = stage d := by
  unfold mgmtSend
  exact stage_choice (stage_emit ..) (stage_choice (stage_emit ..) rfl)

@[simp] theorem stage_grantTo (p e : Nat) (who : BitVec 128) (later : Bool) :
    stage (d.grantTo p e who later) = stage d := by
  cases later <;> simp [grantTo]

@[simp] theorem stage_loopCold (n : Nat) : stage (d.loopCold n) = stage d := by simp [loopCold]

@[simp] theorem stage_loopStart (n : Nat) : stage (d.loopStart n) = stage d := by simp [loopStart]

@[simp] theorem stage_loopsHolder : stage d.loopsHolder = stage d := by
  unfold loopsHolder
  rw [stage_foldl]
  intro d n
  split <;> simp

@[simp] theorem stage_becomeHolder (e : Nat) : stage (d.becomeHolder e) = stage d := by
  simp [becomeHolder, unfollow, crownChange, setLc]

/-- The keeper's first grants and a pair without a keeper (R206) change no stage. -/
@[simp] theorem stage_crownBringUp : stage d.crownBringUp = stage d := by
  unfold crownBringUp
  extract_lets keeperless crowned granted
  have hk : stage keeperless = stage d := stage_fput ..
  clear_value keeperless
  have hc : stage crowned = stage d := stage_choice (stage_choice ((stage_becomeHolder ..).trans hk) hk) rfl
  have hg : stage granted = stage d := by
    unfold granted
    clear_value crowned
    split
    · rw [stage_foldl _ ?_, hc]
      intro d x
      split <;> simp
    · exact hc
  clear_value granted
  split <;> simp [hg]

/-! ### ESCAPEMENT, the mover and the service port -/

@[simp] theorem stage_idleTasks : stage d.idleTasks = stage d := by
  unfold idleTasks
  dsimp only
  rw [stage_foldl _ (by simp)]
  exact stage_trains d.escMark _

@[simp] theorem stage_wdgSuspend : stage d.wdgSuspend = stage d := by
  unfold wdgSuspend; split <;> simp

@[simp] theorem stage_rslCancel : stage d.rslCancel = stage d := by
  unfold rslCancel; split <;> simp [moverStop]

@[simp] theorem stage_leaveRun : stage d.leaveRun = stage d := by simp [leaveRun]

@[simp] theorem stage_countersRestart : stage d.countersRestart = stage d := by
  unfold countersRestart
  dsimp only
  rw [stage_rreset, stage_foldl]
  simp

@[simp] theorem stage_wdgExpect : stage d.wdgExpect = stage d := stage_fset ..

@[simp] theorem stage_loopsRun : stage d.loopsRun = stage d := by
  unfold loopsRun
  dsimp only
  rw [stage_rsetN, stage_foldl]
  intro d n
  split <;> simp

@[simp] theorem stage_respond (status : Nat) (bs : List Byte) : stage (d.respond status bs) = stage d := by
  unfold respond
  split
  · rfl
  · split
    · rfl
    · simp

@[simp] theorem stage_respondTo (cmd status : Nat) (bs : List Byte) : stage (d.respondTo cmd status bs) = stage d := by
  unfold respondTo; split
  · exact stage_respond ..
  · rfl

@[simp] theorem stage_loadEsc : stage (Core.loadEsc d) = stage d := by
  unfold Core.loadEsc
  split
  · simp
  · rw [stage_foldl _ (by simp)]
    simp

/-- Entry to STOP changes of the stage the device state alone. -/
theorem stage_enterStop : stage d.enterStop = stage { d with st := .stop } := by simp [enterStop]

/-- Entry to RUN changes of the stage the device state alone. -/
theorem stage_enterRun (b : Nat) : stage (d.enterRun b) = stage { d with st := .run } := by
  unfold enterRun
  dsimp only
  rw [stage_respondTo, stage_safState, stage_loopsRun, stage_modEsc, stage_modField, stage_fset, stage_wdgExpect,
    stage_countersRestart, stage_slots, stage_ringRun, stage_idleTasks]

end Dev

end Sys2Proof.Machine
end

section
/-! SUPPORT. The start-up commands on a device in its place: bring-up ends, BOOT ends, and the SAFE flag is written
(R6, R7, R179, R380, R382). -/

namespace Sys2Proof.Machine

/-- A command on the device of a powered core leaves everything else, and gives the device the function's value. -/
theorem toDev_of_whenUp {c : Instr} {s : State} {f : Core → Core} {g : Dev → Dev} {P : Dev → Prop}
    (hp : s.powered = true) (hc : exec c s = s.whenUp f) (hf : f s.core = s.core.onDev g) (hd : P (g s.core.dev)) :
    Claims.ToDev c s P :=
  ⟨g s.core.dev, by rw [hc, State.whenUp, if_pos hp, State.onCore, hf]; rfl, hd⟩

/-- A command that finds nothing to do leaves the state. -/
theorem stays_of_whenUp {c : Instr} {s : State} {f : Core → Core} (hc : exec c s = s.whenUp f) (hf : f s.core = s.core) :
    Claims.Stays c s := by
  unfold Claims.Stays
  rw [hc, State.whenUp]
  split
  · rw [State.onCore, hf]
  · rfl

/-- A powered core is not held in reset. -/
theorem State.held_of_powered {s : State} (hp : s.powered = true) : s.core.dev.held = false := by
  simp only [State.powered, Bool.and_eq_true, Bool.not_eq_true'] at hp
  exact hp.2

namespace Dev

variable (d : Dev)

/-- Once ended, bring-up is over whatever it finds of the rings (R179). -/
theorem bringUp_bringUpEnd : d.bringUpEnd.lac.bringUp = false := by
  unfold bringUpEnd
  split
  · exact bringUp_of_stage (stage_ringShow _)
  · next h => exact Bool.eq_false_iff.mpr h

/-- The device as BOOT loads it at its end: the image fields of ESCAPEMENT (R51), and with SAFE_EXIT_PWR set a new copy of
the system records with the flag clear (R7). -/
def bootLoaded : Dev :=
  let d := Core.loadEsc d
  if d.nv.safeFlag && d.cfgBit 4 1 then { d with nv := d.nv.sysWrite fun v => { v with safeFlag := false } } else d

/-- ESCAPEMENT's account begins at the end of BOOT. -/
def bootBegun : Dev :=
  d.modEsc fun e => { e with bootEnd := d.tb, lastKeep := d.tb, mark := d.tb, outSafe := true }

/-- The device state that BOOT ends in for the cause `k` of SAFE, 0 none, and `run` for an image that starts by
itself (R6, R382). -/
def bootState (k : Nat) (run : Bool) : DevState := if k ≠ 0 then .safe else if run then .run else .stop

/-- The state that BOOT ends in taken by the device, at beat `b`. -/
def enterBootState (k : Nat) (run : Bool) (b : Nat) : Dev :=
  if k ≠ 0 then ({ d.fsticky F.SVC_FLT_CAUSE k with st := .safe }).modSvc fun s => { s with safeWrite := k ≠ 4 }
  else if run then d.enterRun b
  else { d with st := .stop }

theorem enterBootState_st (k : Nat) (run : Bool) (b : Nat) : (d.enterBootState k run b).st = bootState k run := by
  unfold enterBootState bootState
  split
  · rfl
  · split
    · exact st_of_stage (stage_enterRun d b)
    · rfl

/-- The scan of KEEP is timed from now. -/
def scanFromNow : Dev := { d with keep := { d.keep with scanStart := d.tb } }

theorem scanFromNow_st : d.scanFromNow.st = d.st := rfl
theorem scanFromNow_fbit (f : Fld) : d.scanFromNow.fbit f = d.fbit f := rfl
theorem scanFromNow_scanStart : d.scanFromNow.keep.scanStart = d.scanFromNow.tb := rfl

/-- The last acts of BOOT: the field die is released, SAFE makes its test, the end is noted and the scan of KEEP
starts. -/
def bootNoted (cut : Bool) : Dev :=
  let d := (d.fieldRelease.safBootEnd (if cut then 0 else 2)).safState
  let d := (d.rsetN A.SVC_BOOT_T (d.tb / 1000)).raise F.SVC_EVT_BOOT_DONE
  ((d.occurBlk 0 0x0002 15).fput F.KEP_STAT_SCAN_BUSY true).scanFromNow

/-- The last acts of BOOT keep the device state. -/
theorem bootNoted_st (cut : Bool) : (d.bootNoted cut).st = d.st := by
  unfold bootNoted
  rw [scanFromNow_st]
  exact st_of_stage (by simp)

/-- The last acts of BOOT raise BOOT_DONE. -/
theorem bootNoted_done (cut : Bool) : (d.bootNoted cut).fbit F.SVC_EVT_BOOT_DONE = true := by
  unfold bootNoted
  rw [scanFromNow_fbit, fbit_fput_ne _ (by decide), fbit_occurBlk _ _ _ _ (by decide)]
  exact fbit_raise _ _ (by decide) (by decide)

/-- The last acts of BOOT start the scan of KEEP. -/
theorem bootNoted_scan (cut : Bool) : (d.bootNoted cut).fbit F.KEP_STAT_SCAN_BUSY = true := by
  unfold bootNoted
  rw [scanFromNow_fbit]
  exact fbit_fput_same _ _ (by decide) _

/-- The last acts of BOOT time the scan of KEEP from that instant. -/
theorem bootNoted_scanStart (cut : Bool) : (d.bootNoted cut).keep.scanStart = (d.bootNoted cut).tb :=
  scanFromNow_scanStart _

end Dev

namespace Core

/-- What BRING_UP_END does while bring-up is in progress. -/
theorem endBringUp_of_bringUp {c : Core} (h : c.dev.lac.bringUp = true) :
    c.endBringUp = c.onDev fun d => (d.bringUpEnd.crownBringUp).safState := if_pos h

/-- With bring-up over there is nothing to skip. -/
theorem skipBringUp_of_ended {c : Core} (h : c.dev.lac.bringUp = false) : c.skipBringUp = c := by
  simp [skipBringUp, endBringUp, h]

/-- The end of BOOT with bring-up over: what is loaded, ESCAPEMENT's account, the state, and the last acts. -/
theorem bootEnd_of_ended {c : Core} (cut : Bool) (hst : c.dev.st = .boot) (hh : c.dev.held = false)
    (hb : c.dev.lac.bringUp = false) :
    c.bootEnd cut = c.onDev fun d =>
      (d.bootLoaded.bootBegun.enterBootState (bootSafe c.dev) (c.dev.esc.image.isSome && c.dev.cfgBit 4 0)
        (d.bootLoaded.nextBeat / d.bootLoaded.esc.period - 1)).bootNoted cut := by
  unfold bootEnd
  rw [if_neg (by simp [hst, hh, hb, Dev.bringing]), skipBringUp_of_ended hb]
  dsimp only [Dev.bootLoaded, Dev.bootBegun, Dev.enterBootState, Dev.bootNoted, Dev.scanFromNow]

/-- Out of BOOT the end of BOOT does nothing. -/
theorem bootEnd_of_not_boot {c : Core} (cut : Bool) (hst : c.dev.st ≠ .boot) : c.bootEnd cut = c :=
  if_pos (by simp [hst])

end Core

/-- BRING_UP_END ends bring-up (R179). -/
theorem bringUpEnd_command {s : State} (hp : s.powered = true) (hb : s.core.dev.lac.bringUp = true) :
    Claims.ToDev .bringUpEnd s fun d => d.lac.bringUp = false :=
  toDev_of_whenUp hp rfl (Core.endBringUp_of_bringUp hb)
    ((Dev.bringUp_of_stage ((Dev.stage_safState _).trans (Dev.stage_crownBringUp _))).trans (Dev.bringUp_bringUpEnd _))

/-- BOOT_END with bring-up over leaves BOOT for the state that Table 16.7 and the settings name (R6, R382). -/
theorem bootEnd_command {s : State} (cut : Bool) (hp : s.powered = true) (hst : s.core.dev.st = .boot)
    (hb : s.core.dev.lac.bringUp = false) :
    Claims.ToDev (.bootEnd cut) s fun d =>
      d.st = Dev.bootState (Core.bootSafe s.core.dev) (s.core.dev.esc.image.isSome && s.core.dev.cfgBit 4 0) ∧
      d.fbit F.SVC_EVT_BOOT_DONE = true ∧ d.fbit F.KEP_STAT_SCAN_BUSY = true ∧ d.keep.scanStart = d.tb := by
  have h := Core.bootEnd_of_ended cut hst (State.held_of_powered hp) hb
  exact toDev_of_whenUp hp rfl h
    ⟨(Dev.bootNoted_st _ cut).trans (Dev.enterBootState_st ..), Dev.bootNoted_done _ cut, Dev.bootNoted_scan _ cut,
      Dev.bootNoted_scanStart _ cut⟩

/-- SAFE_FLAG_WRITTEN with the flag awaited and KEEP open writes it (R7). -/
theorem safeFlagWritten_command {s : State} (hp : s.powered = true) (hw : s.core.dev.svc.safeWrite = true)
    (hk : s.core.dev.fbit F.KEP_STAT_SEALED = false) :
    Claims.ToDev .safeFlagWritten s fun d => d.nv.safeFlag = true ∧ d.svc.safeWrite = false := by
  refine toDev_of_whenUp hp rfl rfl ?_
  unfold Dev.safeFlagWritten
  rw [if_pos (by simp [hw, hk])]
  exact ⟨rfl, rfl⟩

/-- SAFE_FLAG_CLEAR_WRITTEN with the exit from SAFE awaited and KEEP open clears the flag, and STOP takes effect
(R7). -/
theorem safeFlagClear_command {s : State} (hp : s.powered = true) (hst : s.core.dev.st = .safe)
    (hx : s.core.dev.svc.exitPend = true) (hk : s.core.dev.fbit F.KEP_STAT_SEALED = false) :
    Claims.ToDev .safeFlagClearWritten s fun d => d.st = .stop ∧ d.nv.safeFlag = false := by
  refine toDev_of_whenUp hp rfl rfl ?_
  unfold Dev.safeFlagClear
  rw [if_pos (by simp [hst, hx, hk])]
  exact ⟨Dev.st_of_stage (Dev.stage_enterStop _), congrArg (·.safeFlag) (Dev.nv_of_stage (Dev.stage_enterStop _))⟩

/-- Settles O31: each command by its law above; a BOOT_END out of BOOT stays (log entry 8). -/
theorem startCommands : Obligations.StartCommands := by
  intro s hp
  exact ⟨bringUpEnd_command hp, fun cut => bootEnd_command cut hp,
    fun cut hst => stays_of_whenUp rfl (Core.bootEnd_of_not_boot cut hst),
    safeFlagWritten_command hp, safeFlagClear_command hp⟩

end Sys2Proof.Machine
end

section
/-! SUPPORT. What a complication can do: with its entry absent it is an illegal operation, with its entry read clean it
is the instruction of its micro-operations, and those that move a constant to Wd write one word (R116 to R121). -/

namespace Sys2Proof.Machine

/-! ### Micro-operation words -/

/-- The word of the micro-operation that puts `k` into temporary `d` (class 0xB, Table 5.4). -/
def constWord (d k : Nat) : Word := BitVec.ofNat 32 (0xB0000000 + d * 2 ^ 24 + k)

/-- The word of the micro-operation that writes temporary `d` to Wd (class 0xA, Table 5.4). -/
def writeWdWord (d : Nat) : Word := BitVec.ofNat 32 (0xA0000000 + d * 2 ^ 20)

theorem constWord_toNat {d k : Nat} (hd : d < 8) (hk : k < 65536) :
    (constWord d k).toNat = 0xB0000000 + d * 2 ^ 24 + k := by
  rw [constWord, BitVec.toNat_ofNat, Nat.mod_eq_of_lt (by omega)]

theorem writeWdWord_toNat {d : Nat} (hd : d < 8) : (writeWdWord d).toNat = 0xA0000000 + d * 2 ^ 20 := by
  rw [writeWdWord, BitVec.toNat_ofNat, Nat.mod_eq_of_lt (by omega)]

/-- The fields of the word that puts a constant: class, destination, half and constant. -/
theorem constWord_fields {d k : Nat} (hd : d < 8) (hk : k < 65536) :
    bitsOf (constWord d k).toNat 31 28 = 0xB ∧ bitsOf (constWord d k).toNat 27 24 = d ∧
    bitsOf (constWord d k).toNat 23 20 = 0 ∧ bitsOf (constWord d k).toNat 15 0 = k := by
  rw [constWord_toNat hd hk]
  unfold bitsOf
  refine ⟨?_, ?_, ?_, ?_⟩ <;> omega

/-- The fields of the word that writes Wd: class, source and target. -/
theorem writeWdWord_fields {d : Nat} (hd : d < 8) :
    bitsOf (writeWdWord d).toNat 31 28 = 0xA ∧ bitsOf (writeWdWord d).toNat 23 20 = d ∧
    bitsOf (writeWdWord d).toNat 15 14 = 0 := by
  rw [writeWdWord_toNat hd]
  unfold bitsOf
  refine ⟨?_, ?_, ?_⟩ <;> omega

/-- A temporary as a source operand (Table 5.3). -/
theorem MicroEnv.src_temporary (e : MicroEnv) (m : Micro) {d : Nat} (hd : d < 8) : e.src m d = m.t.getD d 0 := if_pos hd

namespace Core

/-! ### The micro-operations -/

/-- After its last micro-operation a sequence gives its outputs, and the instruction is past (R119). -/
theorem micro_end (e : MicroEnv) (i : Nat) (c : Core) (r : Run) (m : Micro) :
    micro e 0 i c r m = .next (c.microApply r r.task m.outs).1 (c.microApply r r.task m.outs).2.advance := rfl

/-- A constant goes to its temporary (Table 5.4). -/
theorem micro_const (e : MicroEnv) (n i : Nat) (c : Core) (r : Run) (m : Micro) {d k : Nat} (hd : d < 8)
    (hk : k < 65536) (hi : i < e.entry.ops.length) (hw : e.entry.ops.getD i 0 = constWord d k) :
    micro e (n + 1) i c r m = micro e n (i + 1) c r { m with t := m.t.set d k } := by
  obtain ⟨hclass, hdst, hhalf, hval⟩ := constWord_fields hd hk
  rw [micro, if_neg (by omega)]
  simp only [hw, hclass, hdst, hhalf, hval, if_true]

/-- A temporary that goes to Wd is one more output of the sequence (R119, Table 5.4). -/
theorem micro_writeWd (e : MicroEnv) (n i : Nat) (c : Core) (r : Run) (m : Micro) {d : Nat} (hd : d < 8)
    (hi : i < e.entry.ops.length) (hw : e.entry.ops.getD i 0 = writeWdWord d) :
    micro e (n + 1) i c r m
      = micro e n (i + 1) c r { m with outs := m.outs ++ [.wd (fD e.bits) (m.t.getD d 0)] } := by
  obtain ⟨hclass, hsrc, htarget⟩ := writeWdWord_fields hd
  rw [micro, if_neg (by omega)]
  simp only [hw, hclass, hsrc, htarget, MicroEnv.src_temporary e m hd]

/-- A constant put into a temporary that goes to Wd: the sequence writes that one word and nothing else. -/
theorem micro_constToWd (e : MicroEnv) (c : Core) (r : Run) {d k : Nat} (hd : d < 8) (hk : k < 65536)
    (hops : e.entry.ops = [constWord d k, writeWdWord d]) :
    micro e e.entry.ops.length 0 c r {} = .next c (r.putW (fD e.bits) k).advance := by
  have hlen : e.entry.ops.length = 2 := by rw [hops]; rfl
  have hput : (List.set (List.replicate 8 0) d k).getD d 0 = k := by simp [List.getD, hd]
  calc micro e e.entry.ops.length 0 c r {}
      = micro e 1 1 c r { t := List.set (List.replicate 8 0) d k } := by
        rw [hlen]; exact micro_const e 1 0 c r {} hd hk (by omega) (by rw [hops]; rfl)
    _ = micro e 0 2 c r { t := List.set (List.replicate 8 0) d k, outs := [.wd (fD e.bits) k] } := by
        rw [micro_writeWd e 0 1 c r _ hd (by omega) (by rw [hops]; rfl), hput]; rfl
    _ = .next c (r.putW (fD e.bits) k).advance := micro_end ..

/-- A constant moved to Wd stores nothing, so that it needs no let-down entry (R120). -/
theorem microStores_constToWd {x : CpxEntry} {d k : Nat} (hd : d < 8) (hk : k < 65536)
    (hops : x.ops = [constWord d k, writeWdWord d]) : microStores x = 0 := by
  obtain ⟨hconst, -, -, -⟩ := constWord_fields hd hk
  obtain ⟨hwrite, -, htarget⟩ := writeWdWord_fields hd
  simp [microStores, hops, hconst, hwrite, htarget]

/-! ### The instruction -/

/-- An entry whose groups hold no error may be used, and its read changes nothing (R124). -/
theorem bankRead_clean (c : Core) (k count : Nat) (h : ∀ g ∈ bankGroups c.dev k count, c.readClass g [] = .clean) :
    c.bankRead k count = (c, true) := by
  unfold bankRead
  refine List.foldlRecOn (motive := (· = (c, true))) _ _ rfl ?_
  rintro _ rfl g hg
  simp only [h g hg]

/-- A complication without an entry is an illegal operation: a trap at the head, awaited elsewhere (R64, R116). -/
theorem complication_absent (c : Core) (area : Area) (t k : Nat) (b : Body) (r : Run) (ht : c.dev.run t = some r)
    (ho : r.opened = true) (hx : r.exit = none) (hp : c.dev.mov.bank.present.getLsbD k = false) :
    c.complication area t k b = c.trapOrWait t r tILLEGAL_OP none := by
  simp [complication, ht, ho, hx, hp]

/-- A flag of an entry that, where it is set, asks for `p` is clear or meets `p` (R116). -/
theorem clear_or_allows {a : Nat} {p : Bool} (h : a % 2 = 1 → p = true) : (decide (a % 2 = 0) || p) = true := by
  obtain hclear | hset := Nat.mod_two_eq_zero_or_one a
  · simp [hclear]
  · simp [h hset]

/-- A complication with an entry that reads clean and allows its operands is the instruction of its micro-operations,
unless an automatic split comes first (R116, R120, R124). -/
theorem complication_clean (c : Core) (area : Area) (t k : Nat) (b : Body) (r : Run) (x : CpxEntry)
    (ht : c.dev.run t = some r) (hp : c.dev.mov.bank.present.getLsbD k = true)
    (he : c.dev.mov.bank.entries[k]? = some x) (hg : ∀ g ∈ bankGroups c.dev k x.count, c.readClass g [] = .clean)
    (hd : x.eflags / 2 % 2 = 1 → pairOk (fD b) = true) (hs : x.eflags / 4 % 2 = 1 → pairOk (fS b) = true) :
    c.complication area t k b = c.instr t true (microSrcs x b) fun c r v =>
      if 64 < (bufGroups r).length + microStores x then .split
      else micro { train := t, area := area, bits := b, entry := x, regs := v } x.ops.length 0 c r {} := by
  have hx : c.dev.mov.bank.entries.getD k { count := 0, eflags := 0, ops := [] } = x := by simp [List.getD, he]
  unfold complication
  simp only [ht, hp, hx, bankRead_clean c k x.count hg, clear_or_allows hd, clear_or_allows hs, ite_self, Bool.and_self,
    Bool.not_true, Bool.false_eq_true, if_false]

end Core

/-- A complication of a powered core acts on the core alone. -/
theorem exec_complication {s : State} (hp : s.powered = true) (tr : Fin 4) (n : Fin 16) (b : Body) :
    exec (.complication tr n b) s = .next { s with core := s.core.complication s.area tr n b } :=
  State.whenUp_on hp fun c => c.complication s.area tr n b

/-- A complication whose entry reads clean and whose sequence ends normally retires with what its micro-operations
answer (R117 to R121). -/
theorem complication_retires {s : State} {tr : Fin 4} {n : Fin 16} {r : Run} {b : Body} {x : CpxEntry} {c' : Core}
    {r' : Run} (hp : s.core.dev.mov.bank.present.getLsbD n = true) (he : s.core.dev.mov.bank.entries[n.val]? = some x)
    (hg : ∀ g ∈ Core.bankGroups s.core.dev n x.count, s.core.readClass g [] = .clean)
    (hd : x.eflags / 2 % 2 = 1 → pairOk (fD b) = true) (hs : x.eflags / 4 % 2 = 1 → pairOk (fS b) = true)
    (hroom : (Core.bufGroups (Claims.start r)).length + Core.microStores x ≤ 64)
    (hr : Claims.ReadyTo s tr r (Core.microSrcs x b) r'.pc)
    (hm : Core.micro { train := tr, area := s.area, bits := b, entry := x, regs := Claims.read s r } x.ops.length 0
      s.core (Claims.start r) {} = .next c' r')
    (hx : r'.exit = none) (hn : r'.retired = r.retired) (hi : r'.issued = r.issued) :
    exec (.complication tr n b) s = .next (Claims.retired s c' tr r r') := by
  rw [exec_complication hr.powered, Core.complication_clean _ _ _ _ _ r x hr.onTrain hp he hg hd hs,
    Core.instr_next _ c' tr r r' _ _ hr.onTrain hr.opened hr.going hr.operands
      ((if_neg (Nat.not_lt.2 hroom)).trans hm) hx hn hi hr.room hr.fetch]
  rfl

/-- Settles O18: an absent entry by the trap it takes, a clean one by what its micro-operations answer; the move of a
constant is the case of the second whose micro-operations are run in `Core.micro_constToWd`. -/
theorem complications : Obligations.Complications := by
  refine ⟨?absent, ?answers, ?constToWd⟩
  case absent =>
    intro s tr n r b hp ht ho hx habs
    rw [exec_complication hp, Core.complication_absent _ _ _ _ _ r ht ho hx habs, Core.trapOrWait]
  case answers =>
    intro s tr n r b x c' r' hp he hg hd hs hroom hr hm hx hn hi
    exact complication_retires hp he hg hd hs hroom hr hm hx hn hi
  case constToWd =>
    intro s tr n r b x k d hp he hg hflags hd hk hops hbuf hr
    have hroom : (Core.bufGroups (Claims.start r)).length + Core.microStores x ≤ 64 := by
      rw [Core.microStores_constToWd hd hk hops]; exact hbuf
    exact complication_retires hp he hg (by simp [hflags]) (by simp [hflags]) hroom hr
      (Core.micro_constToWd _ _ _ hd hk hops) hr.going rfl rfl

end Sys2Proof.Machine
end
